-- ==== Sys2Proof/Word.lean ====
section
/-!
DEFINITION. The word types of the block and their plainest arithmetic: 32-bit command and register
words (R10, R44) and the bytes of the addressed memories.
-/
namespace Sys2Proof

/-- A 32-bit word: a BAR0 register, a word of a command slot, a dipper register (R10, R44, R311). -/
abbrev Word := BitVec 32

/-- A byte of an addressed memory. -/
abbrev Byte := BitVec 8

end Sys2Proof
end

