-- ==== Sys2Proof/Records.lean ====
section
/-!
DEFINITION. The records that commands carry: the fields of a Vehitrix command slot (R62), and of the packets,
frames and messages that arrive at the connectors. A record holds what the manual's tables lay out; what
stands around it (the opcode, the row) is the constructor of `Instr`.
-/
namespace Sys2Proof

/-- A command slot without its opcode (table "Command slot" of R62): LEN, the reserved bits 23:19 of word 0,
FENCE, STAGE, REMOTE, the tag, and payload words 2 to 15. -/
structure Vx where
  len : Nat
  rsv : Nat
  fence : Bool
  stage : Bool
  remote : Bool
  tag : Word
  pay : List Word
  deriving DecidableEq, Repr, Inhabited

/-- Slot word k of a command, k from 2; a word beyond LEN is ignored and reads as zero (R62). -/
def Vx.w (c : Vx) (k : Nat) : Word := if k - 2 < c.len then c.pay.getD (k - 2) 0 else 0

/-- A command with its opcode, as a ring slot or a commit set holds it. -/
structure Cmd where
  op : Nat
  vx : Vx
  deriving DecidableEq, Repr, Inhabited

/-- A 64b/66b block as a lane delivers it (R124): the sync header, the 64 scrambled bits in two words of 32 (`lo` first), and the
58 scrambled payload bits that came before them on the lane, of each the first bit on the lane in bit 0. -/
structure WlBlock where
  sync : Nat
  lo : Nat
  hi : Nat
  before : Nat
  deriving DecidableEq, Repr, Inhabited

/-- A Wellhead Link packet as it arrives (R124 to R127): core clocks until its START block, clocks from START to TERMINATE, the
blocks between the packet before and this one, the lane of the link that brings START, and from START to TERMINATE the blocks of
each lane. -/
structure WlPkt where
  input : Nat
  wait : Nat
  span : Nat
  idle : List WlBlock
  first : Nat
  lanes : List (List WlBlock)
  deriving DecidableEq, Repr, Inhabited

/-- A line of a 12G-SDI input as it arrives (R134, R135): core clocks to its EAV and from there to its end, core clocks between
the first and the last link of the group, the line number, whether this line starts a frame, whether the line CRCs are right, the
payload identifier as received (interface 0 single, 1 quad, 2 octal link; picture, rate, sampling, depth), the samples, and an
ancillary time code of 8 bytes where the line carries one. -/
structure SdiLine where
  input : Nat
  wait : Nat
  span : Nat
  skew : Nat
  mode : Nat
  line : Nat
  frameStart : Bool
  crcOk : Bool
  pixels : Nat
  lines : Nat
  rateNum : Nat
  rateDen : Nat
  chroma : Nat
  depth : Nat
  samples : List Nat
  timecode : List Byte
  deriving DecidableEq, Repr, Inhabited

/-- Coding tools (table "Coding tools" of R194): those that HEVC uses, those that VVC uses beside some of them, and those that
are used by neither, or by one alone. -/
inductive Tool where
  | amvp | asymmetric | transformSkip | signHiding | deblocking | sao | bypass | pcm
  | mrl | mip | cclm | mmvd | historyMerge | pairwiseMerge | amvr | affine | ciip | gpm | mts | lfnst | dependentQuant
  | jointChroma | alf | ccAlf
  | tiles | wavefront | dependentSlices | temporalMv | subblockTemporalMv | weighted | longTerm | scalingLists
  | crossComponent | extendedPrecision | implicitRdpcm | explicitRdpcm | bdof | dmvr | lmcs | resampling | subpictures
  | palette | ibc | act | rectSlices
  deriving DecidableEq, Repr, Inhabited

/-- A motion vector of a prediction block: list 0 or 1, reference index, the vector in 1/16 luma samples, and the block in luma
samples of the stream's picture (R210). -/
structure Mv where
  list : Nat
  ref : Nat
  dx : Int
  dy : Int
  x : Nat
  y : Nat
  w : Nat
  h : Nat
  deriving DecidableEq, Repr, Inhabited

/-- How a CU is predicted: intra with a mode number (1 is DC), merge, skip, or with coded vectors (R194). -/
inductive CuMode where
  | intra (mode : Nat)
  | merge
  | skip
  | inter
  deriving DecidableEq, Repr, Inhabited

/-- A CU as an engine codes it: its place in luma samples of the stream's picture, its prediction, tools, QP and vectors. -/
structure Cu where
  x : Nat
  y : Nat
  w : Nat
  h : Nat
  mode : CuMode
  tools : List Tool
  qp : Nat
  mvs : List Mv
  deriving DecidableEq, Repr, Inhabited

/-- A CTU as an engine codes it: its bits, whether normally (0), in reserve mode to keep the floor (1, R253, R254) or by a reserve
path (2, R235), and its CUs. -/
structure Ctu where
  bits : Nat
  reserve : Nat
  cus : List Cu
  deriving DecidableEq, Repr, Inhabited

/-- An uncorrectable block that an engine read from the reference cistern (R214): the place of the picture in the reference list,
and the luma samples that the block holds. -/
structure BadRef where
  ref : Nat
  x : Nat
  y : Nat
  w : Nat
  h : Nat
  deriving DecidableEq, Repr, Inhabited

/-- What a coding engine makes of a task (R194, R208 to R210): the bits of the slice overhead, the in-loop filters of the slice,
its CTUs, the bytes of the slice NAL unit, the reconstructed samples of each component line by line, the bad blocks that it
read, and the column context that it leaves (R206). -/
structure Coded where
  header : Nat
  filters : List Tool
  ctus : List Ctu
  nal : List Byte
  samples : List (List Nat)
  bad : List BadRef
  ctx : List Byte
  deriving DecidableEq, Repr, Inhabited

/-- What a unit hands over with TASK_COMPLETE: a coding engine its slice; a pump the 64-byte blocks, by their number, that it could
not read (R305). -/
inductive TaskResult where
  | coded (r : Coded)
  | moved (bad : List Nat)
  deriving DecidableEq, Repr, Inhabited

/-- What a sounder finds in a line of its band (R216): per 64-column block the intra and inter costs at quarter scale, the
coarse vector, and FLAGS bits 0 (scene change) and 1 (flat). -/
structure SoundBlock where
  intra : Nat
  inter : Nat
  mvX : Nat
  mvY : Nat
  flags : Nat
  deriving DecidableEq, Repr, Inhabited

/-- A sequence parameter set of a return feed (R352, R353): profile_idc, whether its profile is one of R192, level, size, sampling
and bit depth, CTU size, pictures of its decoded picture buffer. -/
structure FeedSps where
  idc : Nat
  listed : Bool
  level : Nat × Nat
  w : Nat
  h : Nat
  chroma : Nat
  depth : Nat
  ctu : Nat
  dpb : Nat
  deriving DecidableEq, Repr, Inhabited

/-- A parameter set of a return feed: kind (0 video, 1 sequence, 2 picture, 3 adaptation), ID, the ID of the set of the kind
before it that it refers to, and what a sequence parameter set says (R357, R358). -/
structure FeedParam where
  kind : Nat
  id : Nat
  parent : Option Nat
  sps : Option FeedSps
  deriving DecidableEq, Repr, Inhabited

/-- A slice segment of a return feed: its picture and adaptation parameter sets, the POC of its picture and of the recovery point
that it starts, the pictures that its picture names as references, those of them that H.266 generates for a GDR picture, and its
first CTU and number of CTUs (R354, R357, R359). -/
structure FeedSlice where
  pps : Nat
  aps : List Nat
  poc : Int
  recovery : Int
  refs : List Int
  generated : List Int
  firstCtu : Nat
  ctus : Nat
  deriving DecidableEq, Repr, Inhabited

/-- A NAL unit of a return feed (R350, R354, R357): of a slice, whether its picture is an IRAP picture (1), a GDR picture (2) or one
with a recovery point SEI (3), else 0; whether its header and what follows before any slice data hold no forbidden or reserved
value; its bytes; the parameter set or the slice segment that it is. -/
structure FeedNal where
  start : Nat
  intact : Bool
  len : Nat
  param : Option FeedParam
  slice : Option FeedSlice
  deriving DecidableEq, Repr, Inhabited

/-- A packet of a return feed (R349, R350): RTP sequence number and timestamp, whether its type is supported, its
place in a fragmented NAL unit (0 none, 1 first, 2 middle, 3 last), whether an access unit delimiter stands in it
(TS), and the NAL units that it completes. -/
structure FeedPkt where
  seq : Nat
  ts : Nat
  supported : Bool
  frag : Nat
  aud : Bool
  nals : List FeedNal
  deriving DecidableEq, Repr, Inhabited

/-- A decoded CTU: its place, within the task for the self-check and in the picture for a feed, and its samples by component, line
by line. -/
structure DecCtu where
  at' : Nat
  planes : List (List Nat)
  deriving DecidableEq, Repr, Inhabited

/-- What a decode engine makes of a task (R341, R348, R353 to R361): the CTUs that it decoded before an error, whether it detected
a syntax error after them, whether it read an uncorrectable reference block, the CRCs in the picture hash SEI of the task's
picture, and of a feed the POCs of the pictures that the output process of its standard releases now. -/
structure DecResult where
  ctus : List DecCtu
  error : Bool
  refBad : Bool
  hash : List Nat
  outs : List Int
  deriving DecidableEq, Repr, Inhabited

/-- A pump record (table "Pump record" of R305). -/
structure PumpRec where
  kind : Nat
  cvuEn : Bool
  cvu : Nat
  ctx : Nat
  src : Nat
  dst : Nat
  lineBytes : Nat
  lines : Nat
  srcPitch : Nat
  dstPitch : Nat
  deriving DecidableEq, Repr, Inhabited

/-- A frame at an Ethernet port (R410 to R413): bytes from the destination address through the FCS, how many
FEC codewords of it were uncorrectable and how many corrected, whether it is a PAUSE or PFC frame, its EtherType, IP version and destination address, UDP
destination port (none where it is not UDP), and its kind where it is ARP (1), Neighbour Solicitation (2), ICMP echo (3),
ICMPv6 echo (4) or other Neighbour Discovery (5). -/
structure RxFrame where
  len : Nat
  badCodewords : Nat
  fixedCodewords : Nat
  pause : Bool
  etherType : Nat
  ipv6 : Bool
  addr : List Word
  udp : Option Nat
  mgmt : Nat
  deriving DecidableEq, Repr, Inhabited

/-- A PTP message as it arrives (R432 to R441): core clocks until its stamp point, port, domain, sequence number,
sender's clock identity, two-step flag, origin or receive time (ns), correction (2^-16 ns), and of an Announce the
data set, the announced UTC offset and its validity. -/
structure PtpMsg where
  wait : Nat
  port : Nat
  domain : Nat
  seq : Nat
  sender : Nat
  twoStep : Bool
  time : Nat
  correction : Int
  prio1 : Nat
  cls : Nat
  accuracy : Nat
  variance : Nat
  prio2 : Nat
  grand : Nat
  steps : Nat
  utc : Int
  utcValid : Bool
  deriving DecidableEq, Repr, Inhabited

/-- The header of a DOE data object (R82): vendor ID, object type, the object's length in bytes, and whether it is well formed
(its length field agrees with what came). -/
structure DoeHead where
  vendor : Nat
  type : Nat
  len : Nat
  intact : Bool
  deriving DecidableEq, Repr, Inhabited

/-- A DOE data object that arrives (R82, R83): its header, and of an SPDM request the request code, its two parameters, and of
GET_CERTIFICATE the offset and the length asked for; for DOE Discovery the first parameter is the index. -/
structure DoeObj where
  head : DoeHead
  code : Nat
  params : Nat × Nat
  range : Nat × Nat
  deriving DecidableEq, Repr, Inhabited

/-- A Skovlink frame (R495): core clocks until its end, port, header words, payload words, CRC-32C. -/
structure SkovFrame where
  wait : Nat
  port : Nat
  h0 : Word
  h1 : Word
  h2 : Word
  h3 : Word
  payload : List Word
  crc : Word
  deriving DecidableEq, Repr, Inhabited

/-- A frame on the twin link (R127, R469): core clocks until it is received, the four header words, its payload and the
CRC-32C that it carries. -/
structure TwinFrame where
  wait : Nat
  h0 : Word
  h1 : Word
  h2 : Word
  h3 : Word
  payload : List Byte
  crc : Word
  deriving DecidableEq, Repr, Inhabited

/-- The packaging state of a stream that travels in the siphon (R404): stream, next sequence number, continuity counters by PID,
release times of the last PAT and PMT and of the last PCR, next audio frame, templates by path. -/
structure PackState where
  stream : Nat
  seq : Nat
  cc : List (Nat × Nat)
  psiAt : Option Nat
  pcrAt : Option Nat
  next : Option Nat
  tmpl : List (Option (List Word))
  deriving DecidableEq, Repr, Inhabited

/-- What the payload of a ROW_STATE frame says (table "Twin link frame types"; the manual lays out no bytes for it): words
7 to 11 of each task record, the rate-control data window, the packaging state of each stream of the row, and the AUX items
(tag, camera frame, data). -/
structure RowState where
  results : List (List Word)
  window : List Word
  packs : List PackState
  aux : List (Nat × Nat × List Byte)
  deriving DecidableEq, Repr, Inhabited

/-- What a MIRROR frame says (R467, R468; the manual lays out no bytes for it): a command slot; a commit set with its
boundary; a response slot, as the SEQ of the frame answered and whether the command was accepted; of the transfer at pair
formation a running channel, with a frame of it, that frame's row start, and its delay in ns and failover reserve as fixed at
its start. -/
inductive MirrorMsg where
  | cmd (c : Cmd)
  | set (kind chan earliest due : Nat) (cmds : List Cmd)
  | answer (seq : Nat) (ok : Bool)
  | running (chan frame start delay : Nat) (reserve : Bool)
  deriving DecidableEq, Repr, Inhabited

/-- What an SPDM exchange of an admission or of a pairing shows (R466, R502, R504): whether the chain verifies to the
Lanilek root, whether the challenge signature verifies, the digest of the leaf certificate, whether measurement block 1
equals the verifier's own. -/
structure Finding where
  chain : Bool
  signature : Bool
  digest : List Word
  firmware : Bool
  deriving DecidableEq, Repr, Inhabited

/-- What the partner shows at pairing (R466): finding of the SPDM challenge, `GLB_FW` equal, in RUN with equal engine
masks, an audio leader, a task longer than 100 us, siphon traffic admitted, a running channel, `TWIN_SEL`, serial
number low word. -/
structure Partner where
  finding : Finding
  sameFw : Bool
  sameRun : Bool
  leader : Bool
  long : Bool
  siphon : Bool
  runs : Bool
  selB : Bool
  serial : Word
  deriving DecidableEq, Repr, Inhabited

/-- What a composer composes at its turn (R152): its number, and how many blocks of 64 pixels. -/
structure ComposeTurn where
  composer : Nat
  blocks : Nat
  deriving DecidableEq, Repr, Inhabited

/-- What the self-test of engines finds (R554): the Clerestory engines and the decode engines in service, one bit each. -/
structure SelfTest where
  ce : Nat
  de : Nat
  deriving DecidableEq, Repr, Inhabited

end Sys2Proof
end

