-- ==== Sys2Proof/Syntax.lean ====
section
/-!
DEFINITION. The commands of the block: one constructor for each row of spec/opcode_table.json. A row that is a
Vehitrix command carries its slot; a row that is a happening at the connectors carries what arrives and, as
`wait`, the core clocks that pass before it; a row that falls due by time alone carries nothing, for the state
says when it is due.
-/
namespace Sys2Proof

/-- A command of the block: the rows of spec/opcode_table.json, those without operands after the others, for Lean's runtime
makes values with operands of the first 244 constructors only; some frames and signals that arrive stand last. -/
inductive Instr where
  /-- R8: A host write to a BAR0 register that has no row of its own stores, clears or ignores the value by its access code, or is ignored under the access-violation rule. -/
  | registerWrite (offset size value : Nat)
  /-- R51: The host writes the command producer counter, ringing the command doorbell if the value is in range. -/
  | dbCmdTailWrite (value : Word)
  /-- R51: The host writes the response consumer counter, freeing response slots if the value is in range. -/
  | dbRspHeadWrite (value : Word)
  /-- R51: The host writes the event consumer counter, freeing event slots so that backlog events move into the ring. -/
  | dbEvtHeadWrite (value : Word)
  /-- R60: The host clears interrupt cause bits, unless a cause fires in the same clock. -/
  | irqStatusWrite (value : Word)
  /-- R47: The host moves the BAR2 window base, which applies to every later BAR2 access. -/
  | glbApertureWrite (value : Word)
  /-- R49: A write of key 0xC15E restarts the management processor; any other value is ignored. -/
  | glbMpResetWrite (value : Word)
  /-- R46: A host memory access through BAR2 reaches GDDR6 in a host-accessible cistern through a HOST_BAR2 pump task at priority 0. -/
  | bar2Access (write : Bool) (offset size value : Nat)
  /-- R306: Writing 1 to DS_CTRL.CLEAR clears the Dispatch histograms, task counts and DS_POOL.HIGH. -/
  | dsCtrlClear (value : Word)
  /-- R308: The host advances the trace consumer counter; a write beyond the unread count is ignored. -/
  | dsTraceRdWrite (value : Word)
  /-- R528: Writing 1 to FH_FIRST.VALID clears it and re-arms first-fault capture. -/
  | fhFirstValidWrite (value : Word)
  /-- R530: Writing 1 to a class bit of FH_UNACK acknowledges every entry of that class logged before the write. -/
  | fhUnackWrite (value : Word)
  /-- R531: Writing 1 to a class bit of FH_STATUS clears it only when no cause of that class is present. -/
  | fhStatusWrite (value : Word)
  /-- R533: The host sets ERR_WIDTH or ERR_HOLD, which may assert or release ERR_N. -/
  | fhCtrlWrite (value : Word)
  /-- R53: Vehitrix copies the next command slot once the response ring has room, advances DB_CMD_HEAD and executes the command. -/
  | commandConsume (wait : Nat)
  /-- R65: Returns the device time at execution. -/
  | nop (c : Vx)
  /-- R65: Returns firmware, serial number, engines present, rollback counter and capacity. -/
  | getInfo (c : Vx)
  /-- R79: Starts a power-state transition with engine masks, answered ACCEPTED. -/
  | setPowerState (c : Vx)
  /-- R79: Returns the power state and the enable masks in force. -/
  | getPowerState (c : Vx)
  /-- R72: Opens a commit set and returns its ID. -/
  | commitOpen (c : Vx)
  /-- R80: Arms the open set with a ROW, FRAME or TIME boundary after the well and admission checks. -/
  | commitArm (c : Vx)
  /-- R75: Withdraws an open or armed set that is not yet loaded. -/
  | commitAbort (c : Vx)
  /-- R75: Returns the state and boundary of a commit set. -/
  | commitStatus (c : Vx)
  /-- R81: Suppresses the events of the groups whose bits are 0. -/
  | setEventFilter (c : Vx)
  /-- R78: Returns the commit IDs discarded at the last management processor restart. -/
  | getRestartReport (c : Vx)
  /-- R78: FLR or PCIe hot reset resets the ring counters, interrupts and aperture and discards the open set. -/
  | functionLevelReset (wait : Nat)
  /-- R78: Loss of the PCIe link resets the host interface and raises HOST:0x05. -/
  | pcieLinkDown (wait : Nat)
  /-- R556: Assertion of PERST_N after bring-up acts on the host interface as a PCIe hot reset. -/
  | perstAssert (wait : Nat)
  /-- R22: The management processor restarts, discarding staged configuration and unloaded sets, while the data and control planes continue. -/
  | mpRestart (wait : Nat)
  /-- R78: The management processor watchdog expires and restarts it. -/
  | mpWatchdog (wait : Nat)
  /-- R83: An SPDM request object through DOE is answered within 100 ms as an SPDM 1.2 responder. -/
  | doeRequest (wait span : Nat) (done : Bool) (head : DoeHead) (code : Nat) (params range : Nat × Nat)
  /-- R84: A DOE abort ends the request in progress and keeps the SPDM state at its last completed step. -/
  | doeAbort (wait : Nat)
  /-- R85: Returns device time, addend and source. -/
  | timeGet (c : Vx)
  /-- R86: Selects FREE, REF10M or PTP as the addend source, answered ACCEPTED. -/
  | timeSource (c : Vx)
  /-- R86: TIME_SOURCE completes at lock or after 100 ms with CMD_DONE. -/
  | timeSourceDone (wait : Nat) (lock : Bool)
  /-- R88: Steps device time by a signed offset in FREE or REF10M mode. -/
  | timeStep (c : Vx)
  /-- R86: Sets the FREE-mode addend trim in ppb. -/
  | timeTrim (c : Vx)
  /-- R119: Configures a tracker and restarts it in ACQUIRE. -/
  | tlConfig (c : Vx)
  /-- R119: Returns a timeline's state, T_pred, cycle, phase and glitch counts. -/
  | tlQuery (c : Vx)
  /-- R107: Adds a scheduled event to the lowest free slot after target and action checks. -/
  | evtAdd (c : Vx)
  /-- R109: Cancels a scheduled event and frees its slot. -/
  | evtCancel (c : Vx)
  /-- R107: Returns the state and next fire time of an event slot. -/
  | evtQuery (c : Vx)
  /-- R112: Sets polarity, SAFE_RUN and pulse width of an EV pin. -/
  | evConfig (c : Vx)
  /-- R86: A 1 ms measurement gate of the REF10M loop ends and the addend is updated. -/
  | ref10mGate (wait advance : Nat)
  /-- R87: No REF10M edge for 1 µs: holdover, HOLDOVER set, TIME:0x05. -/
  | ref10mLost (wait : Nat)
  /-- R87: After 10 ms of valid reference the loop resumes and HOLDOVER clears. -/
  | ref10mResume (wait : Nat)
  /-- R98: An edge on a PH input is filtered, timestamped, classified and numbered by its tracker. -/
  | phEdge (eighths ph sig : Nat)
  /-- R126: An alignment-marker block aligns, keeps or loses alignment of a Wellhead Link. -/
  | wlAmBlock (wait input lane since sync lo hi before : Nat)
  /-- R131: A FORMAT packet is compared with the configuration and the frame is accepted or not. -/
  | wlFormat (p : WlPkt)
  /-- R130: A FRAME_START packet begins a frame and gives the line tracker edge 0. -/
  | wlFrameStart (p : WlPkt)
  /-- R129: A LINE packet delivers a segment of an active line to the input processor, giving a line edge for its first segment. -/
  | wlLine (p : WlPkt)
  /-- R130: A BLANK packet gives the line tracker the edge of a blanking line. -/
  | wlBlank (p : WlPkt)
  /-- R133: A FRAME_END packet ends the frame and its AUX collection. -/
  | wlFrameEnd (p : WlPkt)
  /-- R133: An AUX packet is collected into the frame's metadata up to 2,048 bytes. -/
  | wlAux (p : WlPkt)
  /-- R135: A 12G-SDI line is received, its CRC and payload ID checked and its EAV edge given to the tracker. -/
  | sdiLine (d : SdiLine)
  /-- R121: Configures or releases a wellhead input and its lanes. -/
  | inConfig (c : Vx)
  /-- R146: Returns alignment, format and counters of an input. -/
  | inQuery (c : Vx)
  /-- R146: Clears the counters of an input. -/
  | inClear (c : Vx)
  /-- R147: Configures an input processor, its stages and its row cistern. -/
  | ipConfig (c : Vx)
  /-- R136: Sets the colour-conversion matrix and offsets of an input processor. -/
  | ipCsc (c : Vx)
  /-- R150: A composer composes a line of a row in place once the input processor has written it. -/
  | composeLine (wait : Nat) (turn : ComposeTurn)
  /-- R149: Enables composition of a channel on a composer set. -/
  | compConfig (c : Vx)
  /-- R164: Configures an overlay layer and reserves its line buffer. -/
  | layerConfig (c : Vx)
  /-- R169: Returns the state of a channel's layers and rows abandoned. -/
  | compQuery (c : Vx)
  /-- R175: Configures a signature region. -/
  | sigConfig (c : Vx)
  /-- R175: Returns a region's last signature, reference and mismatch count. -/
  | sigQuery (c : Vx)
  /-- R191: Allocates or releases a surface and its buffers. -/
  | surfConfig (c : Vx)
  /-- R178: Makes a surface buffer the published buffer P. -/
  | surfPublish (c : Vx)
  /-- R177: Returns published, latched and writable state of a surface's buffers. -/
  | surfQuery (c : Vx)
  /-- R186: Queues a BL0 descriptor, answered ACCEPTED. -/
  | blitSubmit (c : Vx)
  /-- R187: Returns the BL0 queue and the running descriptor's progress. -/
  | blitQuery (c : Vx)
  /-- R188: Sets BL0's active and dead-window rates and the dead channel. -/
  | blitBw (c : Vx)
  /-- R187: BL0 finishes a descriptor, publishes if asked and writes CMD_DONE. -/
  | blitComplete (wait : Nat) (bad : List Nat)
  /-- R288: Idle enabled units of a class pull eligible tasks in rotating order. -/
  | taskPull (wait cls : Nat)
  /-- R209: A unit completes a task, writes its results and returns its credits. -/
  | taskComplete (wait unit : Nat) (res : TaskResult)
  /-- R211: An engine reports an internal error; the task is discarded and retried once at priority 6. -/
  | engineError (wait unit : Nat)
  /-- R235: A reserve path completes a guarded task's remaining CTUs. -/
  | reserveComplete (wait path : Nat) (res : TaskResult)
  /-- R216: A sounder analyses composed lines of its band and writes block entries and summaries. -/
  | sounderLine (wait sounder : Nat) (blocks : List (Nat × SoundBlock))
  /-- R192: Configures a channel's codec, sampling, structure, picture and rate. -/
  | chConfig (c : Vx)
  /-- R202: Lays out a channel's mosaic, phases and tile columns and assigns stream IDs. -/
  | chLayout (c : Vx)
  /-- R239: Sets a channel's fixed delay D and failover reserve. -/
  | chDelay (c : Vx)
  /-- R243: Starts a channel at its first frame boundary at least 100 µs later, answered ACCEPTED. -/
  | chStart (c : Vx)
  /-- R243: Stops a channel after the picture of its first frame boundary at least 30 µs later, answered ACCEPTED. -/
  | chStop (c : Vx)
  /-- R241: Returns a channel's state and counters. -/
  | chQuery (c : Vx)
  /-- R222: Starts a new GDR period or an IDR picture at the next frame boundary. -/
  | chRefresh (c : Vx)
  /-- R226: Configures a lossless region of a channel. -/
  | losslessConfig (c : Vx)
  /-- R229: Configures a channel's SEI messages and frame record. -/
  | seiConfig (c : Vx)
  /-- R244: Takes coding engines out of service or returns them. -/
  | engControl (c : Vx)
  /-- R247: Configures a channel's rate-control mode, rates and QP limits. -/
  | rcConfig (c : Vx)
  /-- R251: Returns a stream's rate-control state. -/
  | rcQuery (c : Vx)
  /-- R269: Binds a channel's rate control to a dipper and program. -/
  | rcBind (c : Vx)
  /-- R265: Configures a local sharing group. -/
  | groupConfig (c : Vx)
  /-- R265: Adds or removes a stream in a sharing group. -/
  | groupMember (c : Vx)
  /-- R272: Binds a channel to cluster rate control. -/
  | clrcConfig (c : Vx)
  /-- R290: Sets the well capacities of a class's ready lists. -/
  | dsWells (c : Vx)
  /-- R294: Allocates an atomic or ordered flow. -/
  | dsFlowAlloc (c : Vx)
  /-- R294: Frees a flow that holds no tasks. -/
  | dsFlowFree (c : Vx)
  /-- R296: Returns a flow's state and task counts. -/
  | dsFlowQuery (c : Vx)
  /-- R298: Sets the tick of a delay list. -/
  | dsDelayConfig (c : Vx)
  /-- R309: Submits a host pump task, ready or delayed, answered ACCEPTED. -/
  | dsSubmit (c : Vx)
  /-- R301: Cancels a host task or flow according to its state. -/
  | dsCancel (c : Vx)
  /-- R319: A dipper begins a run at an entry from its start task or DP6 start record. -/
  | dipperRunStart (d : Nat)
  /-- R320: A run exceeding its declared budget is ended and DIPPER:0x01 is raised. -/
  | dipperWatchdog (d : Nat)
  /-- R323: A SEC-DED error in dipper memory is corrected, or ends the run or returns zero. -/
  | dipperMemError (wait d kind : Nat)
  /-- R323: Vehitrix rewrites a program after a double-bit instruction error and writes DIP_PROGRAM RELOADED. -/
  | programReload (wait : Nat)
  /-- R315: Dipper instruction that does nothing. -/
  | dipNop (d : Nat)
  /-- R315: rd = ra + rb. -/
  | dipAdd (d : Nat)
  /-- R315: rd = ra - rb. -/
  | dipSub (d : Nat)
  /-- R315: Bitwise AND. -/
  | dipAnd (d : Nat)
  /-- R315: Bitwise OR. -/
  | dipOr (d : Nat)
  /-- R315: Bitwise XOR. -/
  | dipXor (d : Nat)
  /-- R315: Shift left by rb[4:0]. -/
  | dipShl (d : Nat)
  /-- R315: Logical shift right by rb[4:0]. -/
  | dipShr (d : Nat)
  /-- R315: Arithmetic shift right by rb[4:0]. -/
  | dipSra (d : Nat)
  /-- R315: Signed minimum. -/
  | dipMin (d : Nat)
  /-- R315: Signed maximum. -/
  | dipMax (d : Nat)
  /-- R315: Unsigned minimum. -/
  | dipMinu (d : Nat)
  /-- R315: Unsigned maximum. -/
  | dipMaxu (d : Nat)
  /-- R315: Signed set-less-than. -/
  | dipSlt (d : Nat)
  /-- R315: Unsigned set-less-than. -/
  | dipSltu (d : Nat)
  /-- R315: Low 32 bits of ra x rb. -/
  | dipMul (d : Nat)
  /-- R315: Signed 64-bit product into rd and rd + 1. -/
  | dipMul64 (d : Nat)
  /-- R315: Unsigned 64-bit product into rd and rd + 1. -/
  | dipMul64u (d : Nat)
  /-- R316: Unsigned 64 by 32 division with saturation. -/
  | dipDivw (d : Nat)
  /-- R316: Unsigned 32-bit division. -/
  | dipDivu (d : Nat)
  /-- R315: Q16.16 multiply, rounded and saturated. -/
  | dipQmul (d : Nat)
  /-- R316: Q16.16 divide, saturated. -/
  | dipQdiv (d : Nat)
  /-- R316: Q16.16 base-2 logarithm. -/
  | dipQlog2 (d : Nat)
  /-- R316: Q16.16 square root. -/
  | dipQsqrt (d : Nat)
  /-- R315: rd = ra + sign-extended immediate. -/
  | dipAddi (d : Nat)
  /-- R315: Bitwise AND with zero-extended immediate. -/
  | dipAndi (d : Nat)
  /-- R315: Bitwise OR with zero-extended immediate. -/
  | dipOri (d : Nat)
  /-- R315: Bitwise XOR with zero-extended immediate. -/
  | dipXori (d : Nat)
  /-- R315: Shift left by immediate. -/
  | dipShli (d : Nat)
  /-- R315: Logical shift right by immediate. -/
  | dipShri (d : Nat)
  /-- R315: Arithmetic shift right by immediate. -/
  | dipSrai (d : Nat)
  /-- R315: rd = IMM x 2^14. -/
  | dipLui (d : Nat)
  /-- R312: Loads a word from the binding's data window. -/
  | dipLd (d : Nat)
  /-- R312: Stores a word into the binding's data window. -/
  | dipSt (d : Nat)
  /-- R324: Reads a host-unit port, sampled in its first clock. -/
  | dipIn (d : Nat)
  /-- R324: Writes a host-unit port that has no row of its own, effective in its last clock. -/
  | dipOut (d : Nat)
  /-- R259: A write of 1 to the ISSUE port issues row n, its tasks becoming ready at I_n. -/
  | portIssue (d : Nat)
  /-- R328: A script adds the event held in EVT_ARG0–7 under the checks of EVT_ADD. -/
  | portEvtAdd (d : Nat)
  /-- R328: A script cancels a slot that scripts added. -/
  | portEvtCancel (d : Nat)
  /-- R325: A run writes a DIP_USER event, once per run. -/
  | portUserEvt (d : Nat)
  /-- R325: A run raises DIPPER:0x06, once per run. -/
  | portUserFault (d : Nat)
  /-- R315: Conditional forward branch. -/
  | dipBcc (d : Nat)
  /-- R315: Runs the next LEN instructions COUNT times. -/
  | dipLoop (d : Nat)
  /-- R315: Runs the next LEN instructions min(ra, MAX) times. -/
  | dipLoopr (d : Nat)
  /-- R315: Leaves the innermost loop. -/
  | dipBreak (d : Nat)
  /-- R315: Pushes pc + 1 and jumps. -/
  | dipCall (d : Nat)
  /-- R315: Returns to the popped address. -/
  | dipRet (d : Nat)
  /-- R326: Waits for a masked host-unit flag or a timeout. -/
  | dipWait (d : Nat)
  /-- R326: A WAIT returns when a masked flag is set or TIMEOUT cycles pass. -/
  | waitReturn (d : Nat)
  /-- R315: Ends the run. -/
  | dipYield (d : Nat)
  /-- R330: Writes words of a program image into the staging buffer. -/
  | dipImageWrite (c : Vx)
  /-- R331: Checks and loads a staged image onto a dipper, answered ACCEPTED. -/
  | dipLoad (c : Vx)
  /-- R332: The loader finishes checking and writing a program and writes CMD_DONE. -/
  | dipLoadDone (wait : Nat)
  /-- R333: Unloads an unbound program. -/
  | dipUnload (c : Vx)
  /-- R333: Returns a dipper's free memory and run counts. -/
  | dipQuery (c : Vx)
  /-- R333: Returns a program's state, bounds and bindings. -/
  | dipProgQuery (c : Vx)
  /-- R333: Binds or unbinds a packaging hook on a stream. -/
  | dipHook (c : Vx)
  /-- R338: A DECODE_ROW task becomes ready once its slice is complete and its reference rows are decoded. -/
  | decodeReady (wait : Nat)
  /-- R341: A decode task completes and DECODED is compared with EXPECT, updating the check state. -/
  | decodeComplete (wait unit : Nat) (res : DecResult)
  /-- R349: A return-feed packet passes its policer and enters the reorder window. -/
  | feedPacket (wait feed : Nat) (p : FeedPkt)
  /-- R362: Enables or disables a channel's self-check and auto-refresh. -/
  | selfcheckConfig (c : Vx)
  /-- R362: Returns a stream's check state and counters. -/
  | selfcheckQuery (c : Vx)
  /-- R362: Configures or releases a return feed. -/
  | feedConfig (c : Vx)
  /-- R362: Returns a feed's state and counters. -/
  | feedQuery (c : Vx)
  /-- R362: Clears a feed's counters. -/
  | feedClear (c : Vx)
  /-- R365: An audio frame edge on APn_FS is timestamped and the frame received or replaced by a repeat. -/
  | audioFrame (wait port bits : Nat) (samples : List Nat)
  /-- R366: A leader port drives APn_FS at the media-clock time of its frame. -/
  | audioLeaderFrame (port : Nat) (samples : List Nat)
  /-- R381: Configures or releases an audio port and its buffer. -/
  | audConfig (c : Vx)
  /-- R381: Returns an audio port's state, rate and counters. -/
  | audQuery (c : Vx)
  /-- R381: Clears an audio port's counters. -/
  | audClear (c : Vx)
  /-- R385: The packaging dipper and builder pack a row's NAL units into packets and queue them with release times. -/
  | packageRow (wait dipper : Nat)
  /-- R396: The packaging dipper builds an audio packet from frames past their write deadline. -/
  | audioPacketBuild (wait stream : Nat)
  /-- R408: Configures the packaging of a video stream. -/
  | pkgStream (c : Vx)
  /-- R390: Sets a stream's header template for a path. -/
  | pkgTemplate (c : Vx)
  /-- R395: Configures an audio stream's carriage. -/
  | pkgAudio (c : Vx)
  /-- R408: Returns a stream's sequence number and packet counters. -/
  | pkgQuery (c : Vx)
  /-- R418: An idle transmitter chooses and starts the next eligible frame of its port. -/
  | txSelect (port : Nat)
  /-- R411: A packet of a down port is discarded at its release time. -/
  | txDiscard (port : Nat)
  /-- R413: A received frame is classified, policed and passed on or discarded. -/
  | portRxFrame (wait port : Nat) (f : RxFrame)
  /-- R413: ARP, Neighbour Solicitations and echo requests to own addresses are answered. -/
  | mgmtRx (wait port kind : Nat) (target : List Word) (len : Nat)
  /-- R411: A port loses alignment or receives remote fault, raises NET:0x01 and writes PORT_LINK. -/
  | portLinkDown (wait port : Nat)
  /-- R411: A port comes up and writes PORT_LINK. -/
  | portLinkUp (wait port : Nat)
  /-- R445: Configures a port's enable, FEC, overhead, slip limit and addresses. -/
  | portConfig (c : Vx)
  /-- R445: Returns a port's state and counters. -/
  | portQuery (c : Vx)
  /-- R422: Configures a queue's class, shapers and wake-up mode. -/
  | queueConfig (c : Vx)
  /-- R420: Returns a queue's bytes, packets and bucket levels. -/
  | queueQuery (c : Vx)
  /-- R425: Writes entries into a port's pending gate list. -/
  | gateWrite (c : Vx)
  /-- R427: Schedules the pending gate list with a base time and cycle. -/
  | gateSet (c : Vx)
  /-- R428: Returns the operational gate list's state. -/
  | gateQuery (c : Vx)
  /-- R414: Sets a port class policer's rate and burst. -/
  | policerConfig (c : Vx)
  /-- R445: Configures the PTP clock and restarts it in LISTENING. -/
  | ptpConfig (c : Vx)
  /-- R445: Returns the PTP state, offset, delay and leader. -/
  | ptpQuery (c : Vx)
  /-- R443: Accepts or rejects a pending step request. -/
  | ptpStepAnswer (c : Vx)
  /-- R464: Sets a lane's test pattern, IDLE_OK and polarity. -/
  | laneConfig (c : Vx)
  /-- R448: Sets a lane's transmit taps or preset. -/
  | laneTx (c : Vx)
  /-- R464: Returns a lane's state, taps, adaptation and counters. -/
  | laneQuery (c : Vx)
  /-- R460: Starts a full training of a lane, answered ACCEPTED. -/
  | laneRetrain (c : Vx)
  /-- R458: Puts a transmitter into or out of electrical idle. -/
  | laneIdle (c : Vx)
  /-- R483: Take-over ends and the new active module enters ACTIVE. -/
  | takeoverComplete (wait : Nat)
  /-- R466: Requests pairing with a pinned partner digest, answered ACCEPTED. -/
  | twinPair (c : Vx)
  /-- R492: Dissolves the pair at once. -/
  | twinUnpair (c : Vx)
  /-- R489: Requests a role swap or a switch-over. -/
  | twinSwap (c : Vx)
  /-- R492: Returns the pair state and counters. -/
  | twinQuery (c : Vx)
  /-- R493: Sets the module's cluster ID, port and EtherType. -/
  | clConfig (c : Vx)
  /-- R504: Pins the manager's certificate digest. -/
  | clPin (c : Vx)
  /-- R500: Writes a roster entry. -/
  | clRosterWrite (c : Vx)
  /-- R500: Returns a roster entry and member state. -/
  | clRosterQuery (c : Vx)
  /-- R503: Accepts a quarantined module's digest and reruns admission. -/
  | clAccept (c : Vx)
  /-- R510: Starts a global operation, answered ACCEPTED. -/
  | clOp (c : Vx)
  /-- R521: Writes half of the command slot for a COMMAND operation. -/
  | clOpSlot (c : Vx)
  /-- R515: Returns an operation's progress and totals. -/
  | clOpQuery (c : Vx)
  /-- R521: Returns the module's cluster status. -/
  | clStatus (c : Vx)
  /-- R522: Reads or sets a fault code's configured severity. -/
  | fltSeverity (c : Vx)
  /-- R532: Ends channel safe output or module safe state when no cause remains. -/
  | fltClearSafe (c : Vx)
  /-- R545: Logs a named fault with INJECTED set and applies its reaction. -/
  | fltInject (c : Vx)
  /-- R542: Allocates a free check-value context. -/
  | cvuAlloc (c : Vx)
  /-- R542: Frees a host-allocated context. -/
  | cvuFree (c : Vx)
  /-- R542: Returns a context record. -/
  | cvuCtxRead (c : Vx)
  /-- R543: Writes a host context's running value, alive state or counts. -/
  | cvuCtxWrite (c : Vx)
  /-- R569: Returns slot, image and counter information. -/
  | fwQuery (c : Vx)
  /-- R565: Starts an update by erasing the other slot, answered ACCEPTED. -/
  | fwBegin (c : Vx)
  /-- R565: Writes image words into the update slot. -/
  | fwWrite (c : Vx)
  /-- R565: Verifies the written slot, answered ACCEPTED. -/
  | fwEnd (c : Vx)
  /-- R566: Sets TRY to the other slot and schedules a restart. -/
  | fwActivate (c : Vx)
  /-- R567: Makes the running slot ACTIVE and may advance the rollback counter. -/
  | fwConfirm (c : Vx)
  /-- R555: Writes the boot-record target state. -/
  | bootTarget (c : Vx)
  /-- R569: Configures the trickle service. -/
  | trickleConfig (c : Vx)
  /-- R569: Returns the trickle service's state and counters. -/
  | trickleQuery (c : Vx)
  /-- R569: Returns VIN, input power, junction temperature and valid sensors. -/
  | healthQuery (c : Vx)
  /-- R78: The PCIe link trains and its data link layer becomes active, ending the cause of HOST:0x05. -/
  | pcieLinkUp (wait : Nat)
  /-- R556: Release of PERST_N lets the PCIe function leave fundamental reset, train its link and answer configuration requests within 100 ms. -/
  | perstRelease (wait : Nat)
  /-- R453: The PCIe link enters electrical idle in L0s or L1 and the receivers of L30–L33 freeze adaptation. -/
  | pcieIdleEntry (wait : Nat)
  /-- R453: The PCIe link completes its exit sequence from L0s or L1 and adaptation resumes on L30–L33. -/
  | pcieIdleExit (wait : Nat)
  /-- R469: An alignment-marker block on the twin link aligns, keeps or loses alignment of the four bonded twin lanes. -/
  | twinLinkAmBlock (wait lane since sync lo hi before : Nat)
  /-- R308: A host write to DS_TRACE_CTRL enabling trace makes Dispatch write a SYNC record and starts tracing of the kinds in KIND_MASK. -/
  | dsTraceCtrlWrite (value : Word)
  /-- R91: Reading TB_SNAP_NS latches device time and the cycle, phase and status of all thirteen timelines into the snapshot registers. -/
  | tbSnapNsRead
  /-- R61: The coalescing hold-off expires and sets the IRQ_STATUS bits of pending coalesced events. -/
  | irqHoldoffExpire
  /-- R63: No remote response arrives within 5 ms and Vehitrix answers TIMEOUT. -/
  | remoteTimeout
  /-- R75: 20 µs before its boundary an armed set is loaded into the commit gate. -/
  | commitLoad
  /-- R19: At its boundary a loaded set applies atomically in staging order and COMMIT_APPLIED is written. -/
  | commitApply
  /-- R99: No accepted edge within LOSS x T_pred: the timeline is LOST and TIME:0x01 is raised. -/
  | tlLossExpire
  /-- R104: A scheduled event reaches its device-time target and performs its EV, script, host and trigger actions. -/
  | eventFire
  /-- R106: A HOLD or ON_EDGE target passed on the coast model is discarded with TIME:0x07 and EVT_MISSED. -/
  | eventMissed
  /-- R114: An EV pulse reaches its WIDTH and the pin returns to its inactive level. -/
  | evPulseEnd
  /-- R144: At predicted capture time plus LATE_MARGIN a row not present or damaged is coded as skip with INPUT:0x01. -/
  | rowNeeded
  /-- R152: At S + T_row a composer abandons the row and raises COMP:0x04. -/
  | composeDeadline
  /-- R166: At a channel frame boundary commits apply and every enabled layer latches its newest complete source frame. -/
  | chFrameBoundary
  /-- R172: In the clock after a region's last row is composed its signatures are compared and mismatches reported. -/
  | signatureCompare
  /-- R187: BL0 starts the next descriptor once its destination buffer is writable. -/
  | blitStart
  /-- R187: A descriptor still running at its deadline raises BLIT:0x01. -/
  | blitDeadline
  /-- R189: At the first blanking line edge BL0 switches to DEAD_RATE. -/
  | deadWindowOpen
  /-- R189: 2 µs before the next first active line BL0 returns to ACTIVE_RATE. -/
  | deadWindowClose
  /-- R259: At I_n a row not issued by its program is issued by the module with RATE:0x06, and the row's tasks become ready. -/
  | rowIssue
  /-- R292: A refused hardware producer submits its task again in a later clock. -/
  | producerRetry
  /-- R235: At guard time G unfinished tasks of the row pass to reserve paths and are marked GUARDED. -/
  | rowGuard
  /-- R225: At the row deadline a task without usable output underruns and is written from its skip template. -/
  | rowDeadline
  /-- R217: At S + T_row an unfinished sounder record is marked PARTIAL or STALE with ENCODE:0x08. -/
  | soundingDeadline
  /-- R243: The channel stops after its last picture and failed armed sets are discarded. -/
  | chStopBoundary
  /-- R268: A rate-control phase start is queued for a dipper when sounding is done, at I_n - Q_d, on budget arrival, at fallback, or at picture end. -/
  | rcPhaseStart
  /-- R275: At I_n - 10 µs without a cluster budget the BUDGET phase starts with the worker's own target and RATE:0x03. -/
  | rcFallbackPoint
  /-- R266: At each multiple of T_g DP7 re-shares a sharing group's rate among its members. -/
  | groupPeriod
  /-- R274: At I_n - 30 µs the manager pools reports and sends RC_BUDGET to every worker. -/
  | rcCollect
  /-- R279: Once per picture the array manager reallocates group targets among clusters. -/
  | arrayShare
  /-- R299: A delay-list entry whose release tick is reached is submitted to its ready list. -/
  | delayRelease
  /-- R304: A task still waiting at its deadline writes a DEADLINE trace record and raises DISPATCH:0x02. -/
  | taskDeadline
  /-- R304: A unit holding a task past its limit raises DISPATCH:0x04. -/
  | serviceTimeout
  /-- R343: At the check deadline unserviced decode tasks are cancelled and the stream's check is suspended. -/
  | checkDeadline
  /-- R350: A sequence number still missing when the reorder window passes it is declared lost. -/
  | feedReorderExpire
  /-- R351: No feed packet within TIMEOUT sends the feed to WAITING and raises DECODE:0x09. -/
  | feedTimeout
  /-- R353: Each second the feed's luma rate is measured and the feed suspended if over the limit. -/
  | feedRateMeasure
  /-- R360: At the end of a second feed faults are raised once with a FEED_ERRORS event. -/
  | feedErrorSecond
  /-- R370: Every 100 ms the measured rate is updated and an AUD_RATE event written when it changes. -/
  | audRateUpdate
  /-- R373: No frame edge within 8 periods makes the port UNLOCKED and raises AUDIO:0x02. -/
  | audioClockLoss
  /-- R378: At its write deadline a frame is written, or written as silence with AUDIO:0x01. -/
  | audioWriteDeadline
  /-- R412: At the end of a second with uncorrectable codewords NET:0x02 is raised. -/
  | fecSecond
  /-- R428: A new gate list replaces the operational list at its start time and GATE_ACTIVE is written. -/
  | gateListStart
  /-- R426: A gate-list entry boundary opens and closes gates. -/
  | gateEntryChange
  /-- R440: No Announce within the receipt timeout enters HOLDOVER and raises TIME:0x11. -/
  | ptpAnnounceTimeout
  /-- R434: A leader sends Sync at its interval with a one-step or two-step timestamp. -/
  | ptpSyncTx
  /-- R439: A leader sends Announce at its interval. -/
  | ptpAnnounceTx
  /-- R436: A follower sends Delay_Req at its interval. -/
  | ptpDelayReqTx
  /-- R457: No lock within 1 µs of idle exit raises LANE:0x03 and starts full training. -/
  | laneExitTimeout
  /-- R460: Training not complete in 20 ms raises LANE:0x04 and restarts. -/
  | laneTrainTimeout
  /-- R471: Every 1 µs a module sends a heartbeat on the twin link and heartbeat path. -/
  | twinHeartbeatTx
  /-- R472: No heartbeat on a path within 4 µs loses the path, or the partner when both are lost. -/
  | heartbeatPathLoss
  /-- R470: A frame unacknowledged for 20 µs is resent. -/
  | twinResendTimeout
  /-- R477: A row not applied by S + 4 x T_row + X is discarded and the standby enters LOCKSTEP. -/
  | applyDeadline
  /-- R482: At H the old active stops issuing and sending and the new one takes over. -/
  | handoverTime
  /-- R489: Every SWAP_PERIOD the active module proposes a role swap. -/
  | swapPropose
  /-- R489: No SWAP answer in 100 µs defers the swap by 1 s and raises TWIN:0x0A. -/
  | swapAnswerTimeout
  /-- R466: TWIN_PAIR not accepted on both modules within 1 s fails to form the pair. -/
  | pairingTimeout
  /-- R501: A joining module sends JOIN every 100 ms. -/
  | joinTx
  /-- R505: Every 1 ms an admitted module or manager sends a cluster heartbeat. -/
  | clusterHeartbeatTx
  /-- R505: No heartbeat from an admitted member for 4 ms marks it MISSING. -/
  | memberMissing
  /-- R505: No heartbeat from the manager for 4 ms raises CLUSTER:0x02 and restarts JOIN. -/
  | managerLost
  /-- R498: A sender silent for 4 ms has its SEQ record forgotten. -/
  | seqRecordExpire
  /-- R514: A manager's acknowledgement collection closes and the result is sent or written. -/
  | opCollectClose
  /-- R527: 17 clocks after its source time a report is logged, escalated and its reaction applied. -/
  | faultLog
  /-- R533: An ERR_N pulse ends after ERR_WIDTH and the pin releases unless held. -/
  | errPulseEnd
  /-- R553: A step beyond its maximum raises POWER:0x05 and stops at the last state. -/
  | powerStepTimeout
  /-- R563: FW_READY not set within 2 s restarts the module and raises FIRMWARE:0x04. -/
  | bootWatchdog
  /-- R566: 1 ms after FW_ACTIVATE's response the module restarts into the TRY slot. -/
  | fwRestart
  /-- R468: A mirrored command or set not delivered to the standby within 2 ms raises TWIN:0x08 and the standby leaves the pair. -/
  | mirrorTimeout
  /-- R436: A follower receives Sync and forms an offset, feeding the servo or detecting a jump. -/
  | ptpSyncRx (m : PtpMsg)
  /-- R434: A Follow_Up supplies the precise origin timestamp of a two-step Sync. -/
  | ptpFollowUpRx (m : PtpMsg)
  /-- R434: A leader answers Delay_Req with Delay_Resp. -/
  | ptpDelayReqRx (m : PtpMsg)
  /-- R436: A follower completes a delay exchange for the mean path delay. -/
  | ptpDelayRespRx (m : PtpMsg)
  /-- R437: An Announce runs the best master clock algorithm and may change leader. -/
  | ptpAnnounceRx (m : PtpMsg)
  /-- R455: Amplitude below the LOS threshold for 100 ns puts the lane in IDLE or LOS. -/
  | laneLowAmplitude (wait lane : Nat)
  /-- R454: Amplitude at or above 80 mV for 100 ns starts training or fast exit. -/
  | laneSignalPresent (wait lane : Nat)
  /-- R454: CDR or block lock is lost and the lane retrains. -/
  | laneLol (wait lane : Nat)
  /-- R452: After 64 idle symbols the receiver freezes its CTLE and DFE. -/
  | adaptFreeze (wait lane : Nat)
  /-- R459: A lane completes training or fast exit and enters LOCKED. -/
  | laneLock (wait lane : Nat)
  /-- R463: At the end of a second with PRBS errors LANE:0x05 is raised. -/
  | prbsSecond (lane errs : Nat)
  /-- R450: A PCIe coefficient request is accepted or rejected. -/
  | pcieEqRequest (wait lane pre main post : Nat)
  /-- R472: A heartbeat is received, renewing its path and carrying acknowledgements and requests. -/
  | twinHeartbeatRx (f : TwinFrame)
  /-- R474: The standby holds the issue record of a row. -/
  | twinIssueRx (f : TwinFrame)
  /-- R476: A slice part of a row record is collected in the shadow buffer. -/
  | twinSliceRx (f : TwinFrame)
  /-- R476: A row-state part of a row record is collected in the shadow buffer. -/
  | twinRowStateRx (f : TwinFrame) (st : RowState)
  /-- R476: ROW_END completes a row record, which is applied in one clock. -/
  | twinRowEndRx (f : TwinFrame)
  /-- R468: A mirrored command or response is received from the partner. -/
  | twinMirrorRx (f : TwinFrame) (m : MirrorMsg)
  /-- R466: An SPDM message for pairing is received over the twin link. -/
  | twinSpdmRx (f : TwinFrame) (p : Partner)
  /-- R501: A manager receives JOIN and starts admission. -/
  | skovJoinRx (f : SkovFrame)
  /-- R501: An SPDM request fragment for admission is received. -/
  | skovSpdmReqRx (f : SkovFrame)
  /-- R502: An SPDM response fragment is received and admission decided when complete. -/
  | skovSpdmRspRx (f : SkovFrame) (find : Option Finding)
  /-- R504: A member receives ADMIT and stops sending JOIN. -/
  | skovAdmitRx (f : SkovFrame)
  /-- R506: A CMD frame is relayed or executed as a remote command or response. -/
  | skovCmdRx (f : SkovFrame)
  /-- R274: A manager receives a worker's RC_REPORT entries. -/
  | skovRcReportRx (f : SkovFrame)
  /-- R275: A worker receives its RC_BUDGET targets. -/
  | skovRcBudgetRx (f : SkovFrame)
  /-- R512: An operation ARM is relayed and placed as a Time base event if in time. -/
  | skovBarrierArmRx (f : SkovFrame)
  /-- R514: A manager collects an acknowledgement or aggregate. -/
  | skovBarrierAckRx (f : SkovFrame)
  /-- R508: A broadcast operation is relayed and executed or scheduled. -/
  | skovBroadcastRx (f : SkovFrame)
  /-- R517: A snapshot arm or records frame is relayed or stored. -/
  | skovSnapshotRx (f : SkovFrame)
  /-- R505: A cluster or twin heartbeat frame is received. -/
  | skovHeartbeatRx (f : SkovFrame)
  /-- R537: A GDDR6 transfer EDC error is retried and reported. -/
  | memoryEdcError (wait device : Nat) (write good : Bool)
  /-- R538: An in-band SEC-DED error is corrected or delivered uncorrectable. -/
  | memoryEccError (wait device : Nat) (corrected : Bool)
  /-- R554: VIN at or above 9.0 V for 10 ms with rails in regulation releases reset and starts bring-up. -/
  | powerGood (wait role : Nat) (selB : Bool)
  /-- R554: VIN below 8.0 V for 100 µs removes power and the module is OFF. -/
  | vinDrop (wait : Nat)
  /-- R549: A power transition step completes and writes POWER_STATE, or CMD_DONE at the target. -/
  | powerStepDone (wait : Nat) (image : Bool) (test : SelfTest)
  /-- R568: Every 100 µs VIN, input power and junction sensors are sampled and faults raised or ended. -/
  | healthSample (wait vin power : Nat) (temps : List Int) (rails : Bool)
  /-- R558: TE0 codes a decimated row as it completes and sends its packets on M0. -/
  | trickleRow (wait : Nat) (nals : List Nat)
  /-- R565: The slot erase completes and FW_BEGIN writes CMD_DONE. -/
  | fwEraseDone (wait : Nat)
  /-- R565: Slot verification completes with FW_STATE and CMD_DONE. -/
  | fwVerifyDone (wait : Nat) (good : Bool)
  /-- R452: The first non-idle symbol received while the lane is LOCKED resumes CTLE and DFE adaptation. -/
  | adaptResume (wait lane : Nat)
  deriving DecidableEq, Repr

end Sys2Proof
end

