-- ==== Sys2Proof/Decode.lean ====
section
/-!
DEFINITION. The block has no instruction decoder: spec/opcode_table.json gives no row any bits. A command slot of the ring is
read by `Machine.cmdOf`, an instruction word of a dipper by the fields of Machine/Operands.lean.
-/
namespace Sys2Proof

/-- The command that a word spells by the table's bits: the table gives none to any row. -/
def decodeTableWord (_nbits _w : Nat) : Option Instr := none

end Sys2Proof
end

