-- ==== Sys2Proof/Config.lean ====
section
/-!
DEFINITION. What the manual leaves to the module or to its surroundings: every constant here is opaque,
so that nothing can be proved of its value. A statement that uses one holds for every value of it.
-/
namespace Sys2Proof.Config

/-- The factory serial number, 12 decimal digits of which any value may occur (R2). Read only through
`serialDigits`, which keeps it below 10^12. -/
opaque serialRaw : Nat

/-- The serial number as a number below 10^12 (R2). -/
def serialNumber : Nat := serialRaw % 1000000000000

/-- Whether a quantity whose rounding the manual does not state is rounded up. First argument: the
quantity's site; then numerator and denominator. A value that divides exactly is never touched. -/
opaque roundUp : Nat → Nat → Nat → Bool

/-- A free value: what a unit produces where the manual states no value (site, the state's free-value
counter, an argument). -/
opaque free : Nat → Nat → Nat → Nat

/-- A free choice of the same kind (site, counter, argument). -/
opaque freeBool : Nat → Nat → Nat → Bool

/-- The addend that the REF10M frequency loop sets after a gate (R86): the loop's arithmetic is not
stated. Arguments: the addend in force, the units of 2^-32 ns that device time advanced over the gate. -/
opaque refLoopAddend : Nat → Nat → Nat

/-- The capacity of the remote-forwarding queue, which R65 names and no rule sizes. -/
opaque remoteQueueCap : Nat

/-- The bound cost of a reserve-mode CTU at a QP_MAX other than the default (R251): arguments codec (0
HEVC, 1 VVC), CTU size, kind (0 slice overhead, 1 skip, 2 intra), QP_MAX. -/
opaque boundCost : Nat → Nat → Nat → Nat → Nat

/-- The output of a polyphase filter of the input processor whose coefficients no rule states (R136
stages 5 and 6): arguments stage, component, output x, output y, input samples of the line. -/
opaque resample : Nat → Nat → Nat → Nat → List Nat → Nat

/-- Which coefficients of a composer filter are rounded up (R160): the rule names the window and its normalisation to
1,024 and states no rounding. The taps with the least of these numbers are. Arguments: taps (4 or 8), phase, tap. -/
opaque lanczosOrder : Nat → Nat → Nat → Nat

/-- The unit-trigger IDs that the chapters of the triggered units assign; no chapter assigns one (R120). -/
opaque triggerKnown : Nat → Bool

/-- GDDR6 addresses: the start address of the cistern that the module allocates for a purpose (purpose
code, index); no rule gives an address map. -/
opaque cisternBase : Nat → Nat → Nat

/-- The factory MAC address of a port (R410). -/
opaque factoryMac : Nat → Nat

/-- The module's own certificate chain digest and the like, as numbers (site). -/
opaque identity : Nat → Nat

/-- Words of configuration space that no rule states (R42), by offset. -/
opaque cfgSpace : Nat → Nat

/-- The length in bytes of the certificate chain of SPDM slot 0 (R83). -/
opaque certLen : Nat

/-- The exact bit-rate limit in kbit/s of level 6.2 for a codec (0 HEVC, 1 VVC), tier and profile (R247
names Annex A of the standards, whose table the manual does not repeat). -/
opaque levelMaxRate : Nat → Nat → Nat → Nat

/-- The CPB size limit in bits of the same level (R247). -/
opaque levelMaxCpb : Nat → Nat → Nat → Nat

/-- The general_profile_idc that CH_CONFIG answers for a profile name of R192; the numbers are the
standards'. Argument: index of the profile name in the table of R192. -/
opaque profileIdc : Nat → Nat

/-- The declared worst-case cycles of the built-in program of a mode in a phase (R268, R281): no rule states them. -/
opaque builtinCycles : Nat → Nat → Nat

/-- The number, 0 to 15, of the built-in program that a dipper runs for a rate-control mode, or for packaging (R310): which
of the numbers each has is not stated. Arguments: dipper, mode. -/
opaque builtinNum : Nat → Nat → Nat

/-- The cluster mosaic number that a channel's reports carry (R499): no opcode sets it. -/
opaque mosaicNumber : Nat → Nat

/-- The tasks that one report of a cluster stream covers (R277): the report does not carry their number. -/
opaque reportTasks : Nat → Nat

/-- The number of modules that the module's configuration holds (R438 names it and no opcode sets it). -/
opaque configModules : Nat

/-- The module's own PTP data set: clock class, accuracy, variance (R431 names the default best master clock algorithm
and states no values). Argument: 0, 1, 2. -/
opaque ptpOwn : Nat → Nat

/-- The offset in Dispatch SRAM of a record: kind (0 sounder record, 1 task record, 2 column context), number; no rule lays it out. -/
opaque sramBase : Nat → Nat → Nat

/-- The size in bits of a non-VCL unit of a picture (R250): codec, kind, AUX bytes. -/
opaque nonVclBits : Nat → Nat → Nat → Nat

/-- The bits of a slice from a skip template, slice header included (R223, R224): codec, CTU size, CTUs, whether intra. -/
opaque templateBits : Nat → Nat → Nat → Bool → Nat

end Sys2Proof.Config
end

