-- ==== Sys2Proof/Machine/Base.lean ====
section
/-!
DEFINITION. Helpers every family uses: bit fields of a word (R6), signed readings, time units (R85),
exact fractions, indexed tables, sparse byte memory in its canonical form, byte order, and CRCs (R539).
-/
namespace Sys2Proof.Machine

/-! ### Bit fields -/

/-- Bits `hi:lo` of a word, as a number (R6: bit 0 is the least significant). -/
def fld (w : Word) (hi lo : Nat) : Nat := (w.toNat / 2 ^ lo) % 2 ^ (hi + 1 - lo)

/-- One bit of a word. -/
def bit (w : Word) (i : Nat) : Bool := w.toNat / 2 ^ i % 2 == 1

/-- A number as a word, modulo 2^32. -/
def w32 (n : Nat) : Word := BitVec.ofNat 32 n

/-- A truth value as 0 or 1. -/
def b01 (b : Bool) : Nat := if b then 1 else 0

/-- A signed number as a word, two's complement. -/
def wInt (i : Int) : Word := BitVec.ofInt 32 i

/-- Bit i of a number. -/
def nbit (n i : Nat) : Bool := n / 2 ^ i % 2 == 1

/-- A number with bit i set. -/
def setBit (n i : Nat) : Nat := if nbit n i then n else n + 2 ^ i

/-- A number with bit i cleared. -/
def clrBit (n i : Nat) : Nat := if nbit n i then n - 2 ^ i else n

/-- The positions below n whose bit is set. -/
def bitsOf (n width : Nat) : List Nat := (List.range width).filter (fun i => nbit n i)

/-- The number with exactly the named bits set. -/
def maskOf (l : List Nat) : Nat := l.foldl setBit 0

/-- A field placed at bit lo. -/
def at' (v lo : Nat) : Nat := v * 2 ^ lo

/-- A 16-bit field as a signed number. -/
def sgn16 (n : Nat) : Int := if n % 65536 < 32768 then (n % 65536 : Int) else (n % 65536 : Int) - 65536

/-- A 32-bit field as a signed number. -/
def sgn32 (n : Nat) : Int :=
  if n % 4294967296 < 2147483648 then (n % 4294967296 : Int) else (n % 4294967296 : Int) - 4294967296

/-- A 64-bit field as a signed number. -/
def sgn64 (n : Nat) : Int :=
  if n % 2 ^ 64 < 2 ^ 63 then (n % 2 ^ 64 : Int) else (n % 2 ^ 64 : Int) - 2 ^ 64

/-- The low 64 bits of a signed number. -/
def low64 (i : Int) : Nat := (i % (2 ^ 64 : Int)).toNat

/-- A counter that saturates at a limit. -/
def satAdd (n k lim : Nat) : Nat := min (n + k) lim

/-! ### Time: device time is held in units of 2^-32 ns (R85) -/

/-- One nanosecond. -/
def nsU : Nat := 4294967296
/-- One microsecond. -/
def usU : Nat := 1000 * nsU
/-- One millisecond. -/
def msU : Nat := 1000000 * nsU
/-- One second. -/
def secU : Nat := 1000000000 * nsU
/-- Device time runs below 2^48 s (R85). -/
def timeLimit : Nat := 2 ^ 48 * secU

/-- The seconds part of a device time. -/
def tSec (t : Nat) : Nat := t / secU
/-- The nanoseconds part, always below 10^9. -/
def tNs (t : Nat) : Nat := t / nsU % 1000000000
/-- The exposed 16-bit sub-nanosecond fraction (R85). -/
def tFrac16 (t : Nat) : Nat := t % nsU / 65536
/-- A device time from its seconds, nanoseconds and 2^-16 ns fraction. -/
def mkTime (sec ns frac16 : Nat) : Nat := sec * secU + ns * nsU + frac16 * 65536

/-- Result words of a device time: ns, seconds 31:0, seconds 47:32. -/
def timeWords (t : Nat) : List Word := [w32 (tNs t), w32 (tSec t), w32 (tSec t / 4294967296)]

/-- A time interval in clocks, as units, at the addend in force. -/
def clocks (addend n : Nat) : Nat := addend * n

/-! ### Exact fractions -/

/-- A non-negative fraction, not reduced; the denominator is positive wherever one is built here. -/
structure Q where
  num : Nat
  den : Nat
  deriving DecidableEq, Repr, Inhabited

/-- A whole number as a fraction. -/
def Q.ofNat (n : Nat) : Q := ⟨n, 1⟩
/-- Sum. -/
def Q.add (a b : Q) : Q := ⟨a.num * b.den + b.num * a.den, a.den * b.den⟩
/-- Product. -/
def Q.mul (a b : Q) : Q := ⟨a.num * b.num, a.den * b.den⟩
/-- Quotient. -/
def Q.div (a b : Q) : Q := ⟨a.num * b.den, a.den * b.num⟩
/-- Order, by cross multiplication. -/
def Q.le (a b : Q) : Bool := a.num * b.den ≤ b.num * a.den
/-- Strict order. -/
def Q.lt (a b : Q) : Bool := a.num * b.den < b.num * a.den
/-- The larger. -/
def Q.max (a b : Q) : Q := if a.le b then b else a
/-- Rounded down. -/
def Q.floor (a : Q) : Nat := a.num / a.den
/-- Rounded up. -/
def Q.ceil (a : Q) : Nat := (a.num + a.den - 1) / a.den
/-- Sum of a list. -/
def Q.sum (l : List Q) : Q := l.foldl Q.add ⟨0, 1⟩

/-- A quotient whose rounding the manual does not state: exact when it divides, otherwise one of the two
neighbours, free at each site. -/
def quot (site n d : Nat) : Nat :=
  if n % d = 0 then n / d else if Config.roundUp site n d then n / d + 1 else n / d

/-- A signed quotient whose rounding the manual does not state: exact when it divides, else one neighbour or the other. -/
def quotI (site : Nat) (n : Int) (d : Nat) : Int :=
  if n % d = 0 then n / d else if Config.roundUp site n.natAbs d then n / d + 1 else n / d

/-- The same for a fraction. -/
def Q.quot (site : Nat) (a : Q) : Nat := Machine.quot site a.num a.den

/-- Quotient rounded up. -/
def ceilDiv (n d : Nat) : Nat := (n + d - 1) / d

/-- Quotient rounded half up. -/
def roundDiv (n d : Nat) : Nat := (2 * n + d) / (2 * d)

/-! ### Tables -/

/-- Entry i of a table, or the default where the table has none. -/
def tab [Inhabited α] (l : List α) (i : Nat) : α := l.getD i default

/-- A table with entry i changed; an index outside the table changes nothing. -/
def upd (l : List α) (i : Nat) (f : α → α) : List α := l.modify i f

/-- A list of key and value pairs: the value of a key. -/
def alookup (l : List (Nat × α)) (k : Nat) : Option α := (l.find? (fun p => p.1 == k)).map (·.2)

/-- The list with a key's value set, in its place or at the end. -/
def aset (l : List (Nat × α)) (k : Nat) (v : α) : List (Nat × α) :=
  if l.any (fun p => p.1 == k) then l.map (fun p => if p.1 == k then (k, v) else p) else l ++ [(k, v)]

/-- The list without a key. -/
def adel (l : List (Nat × α)) (k : Nat) : List (Nat × α) := l.filter (fun p => p.1 != k)

/-- The lowest number below n that the list does not hold. -/
def lowestFree (l : List Nat) (n : Nat) : Option Nat := (List.range n).find? (fun i => !l.contains i)

/-- Rotating priority (R37): the first of the requesters at or after the pointer, counting upwards and
wrapping round. -/
def rotPick (ptr n : Nat) (req : List Nat) : Option Nat :=
  ((List.range n).map (fun i => (ptr + i) % n)).find? (fun i => req.contains i)

/-- The requesters in the order in which R37 serves them from the pointer. -/
def rotOrder (ptr n : Nat) (req : List Nat) : List Nat :=
  ((List.range n).map (fun i => (ptr + i) % n)).filter (fun i => req.contains i)

/-- A list with an element put before the first that has a greater key. -/
def insertBy (key : α → Nat) (x : α) : List α → List α
  | [] => [x]
  | y :: ys => if key x < key y then x :: y :: ys else y :: insertBy key x ys

/-- A list in rising order of a key; elements of equal keys keep their order. -/
def sortBy (key : α → Nat) (l : List α) : List α := l.foldl (fun acc x => insertBy key x acc) []

/-- The sum of a list. -/
def sumNat (l : List Nat) : Nat := l.foldl (· + ·) 0

/-- The element of least key, the first among equals. -/
def minBy (key : α → Nat) (l : List α) : Option α := (sortBy key l).head?

/-! ### Byte memories

A memory lists the bytes that differ from zero, addresses strictly rising. An unlisted address reads as
zero (DESIGN CHOICE, log entry 3: no rule gives RAM contents at power-on). -/

/-- A byte memory in canonical form. -/
abbrev Mem := List Host.Cell

/-- What an unlisted address reads as. -/
def Mem.empty : Byte := 0

/-- The byte at an address. -/
def Mem.read (m : Mem) (a : Nat) : Byte :=
  match m with
  | [] => Mem.empty
  | (k, v) :: rest => if k = a then v else if a < k then Mem.empty else Mem.read rest a

/-- The memory with one byte written; writing zero removes the entry. -/
def Mem.write (m : Mem) (a : Nat) (b : Byte) : Mem :=
  match m with
  | [] => if b = Mem.empty then [] else [(a, b)]
  | (k, v) :: rest =>
    if k = a then (if b = Mem.empty then rest else (a, b) :: rest)
    else if a < k then (if b = Mem.empty then (k, v) :: rest else (a, b) :: (k, v) :: rest)
    else (k, v) :: Mem.write rest a b

/-- Addresses strictly rise from a lower bound and no entry is zero. -/
def Mem.wfFrom (lo : Nat) : Mem → Bool
  | [] => true
  | (k, v) :: rest => decide (lo ≤ k) && decide (v ≠ Mem.empty) && Mem.wfFrom (k + 1) rest

/-- The canonical form. -/
def Mem.wf (m : Mem) : Bool := Mem.wfFrom 0 m

/-- Bytes written from an address upwards. -/
def Mem.writeAll (m : Mem) (a : Nat) : List Byte → Mem
  | [] => m
  | b :: bs => Mem.writeAll (Mem.write m a b) (a + 1) bs

/-- n bytes from an address upwards. -/
def Mem.readN (m : Mem) (a n : Nat) : List Byte := (List.range n).map (fun i => Mem.read m (a + i))

/-- The bytes of a number, least significant first. -/
def leBytes (n v : Nat) : List Byte := (List.range n).map (fun i => BitVec.ofNat 8 (v / 256 ^ i))

/-- The bytes of a number, most significant first. -/
def beBytes (n v : Nat) : List Byte := (leBytes n v).reverse

/-- The number that bytes spell, least significant first. -/
def leNat : List Byte → Nat
  | [] => 0
  | b :: bs => b.toNat + 256 * leNat bs

/-- The number that bytes spell, most significant first. -/
def beNat (l : List Byte) : Nat := leNat l.reverse

/-- A 32-bit word at an address, little-endian. -/
def Mem.read32 (m : Mem) (a : Nat) : Word := w32 (leNat (Mem.readN m a 4))

/-- A 32-bit word written at an address, little-endian. -/
def Mem.write32 (m : Mem) (a : Nat) (v : Word) : Mem := Mem.writeAll m a (leBytes 4 v.toNat)

/-- Words written from an address upwards. -/
def Mem.writeWords (m : Mem) (a : Nat) : List Word → Mem
  | [] => m
  | w :: ws => Mem.writeWords (Mem.write32 m a w) (a + 4) ws

/-- n words from an address upwards. -/
def Mem.readWords (m : Mem) (a n : Nat) : List Word := (List.range n).map (fun i => Mem.read32 m (a + 4 * i))

/-! ### Check values (R539) -/

/-- One bit of a reflected CRC. -/
def crcBitR (poly crc : Nat) : Nat := if crc % 2 = 1 then (crc / 2) ^^^ poly else crc / 2

/-- One byte of a reflected CRC. -/
def crcByteR (poly crc : Nat) (b : Byte) : Nat :=
  (List.range 8).foldl (fun c _ => crcBitR poly c) (crc ^^^ b.toNat)

/-- One bit of a CRC that is not reflected, at a width. -/
def crcBitN (width poly crc : Nat) : Nat :=
  if nbit crc (width - 1) then (crc * 2 % 2 ^ width) ^^^ poly else crc * 2 % 2 ^ width

/-- One byte of a CRC that is not reflected. -/
def crcByteN (width poly crc : Nat) (b : Byte) : Nat :=
  (List.range 8).foldl (fun c _ => crcBitN width poly c) (crc ^^^ (b.toNat * 2 ^ (width - 8)))

/-- The width of an algorithm in bits (R539). -/
def algWidth (alg : Nat) : Nat := match alg with | 0 => 32 | 1 => 32 | 2 => 16 | _ => 8

/-- The initial value of an algorithm. -/
def algInit (alg : Nat) : Nat := match alg with | 0 => 0xFFFFFFFF | 1 => 0xFFFFFFFF | 2 => 0xFFFF | _ => 0

/-- The final XOR of an algorithm. -/
def algXor (alg : Nat) : Nat := match alg with | 0 => 0xFFFFFFFF | 1 => 0xFFFFFFFF | _ => 0

/-- The running value after one byte; polynomials 0x1EDC6F41 and 0x04C11DB7 stand bit-reversed. -/
def algByte (alg crc : Nat) (b : Byte) : Nat :=
  match alg with
  | 0 => crcByteR 0x82F63B78 crc b
  | 1 => crcByteR 0xEDB88320 crc b
  | 2 => crcByteN 16 0x1021 crc b
  | _ => crcByteN 8 0x07 crc b

/-- The running value over bytes. -/
def algRun (alg crc : Nat) (l : List Byte) : Nat := l.foldl (algByte alg) crc

/-- The final value over bytes. -/
def algFinal (alg : Nat) (l : List Byte) : Nat := algRun alg (algInit alg) l ^^^ algXor alg

/-- CRC-32C over bytes. -/
def crc32c (l : List Byte) : Nat := algFinal 0 l

end Sys2Proof.Machine
end

