-- ==== Sys2Proof/Machine/StAudio.lean ====
section
/-!
DEFINITION. State of the audio ports and their sample-rate converters (chapter 12 of spec/).
-/
namespace Sys2Proof.Machine

/-- AUD_CONFIG of a port (table "AUD_CONFIG payload"), its fields as coded there. -/
structure AudCfg where
  leader : Bool := false
  tdm : Bool := false
  slots : Nat := 0
  slotBits : Nat := 0
  bits24 : Bool := false
  delay1 : Bool := false
  edge : Bool := false
  fsPol : Bool := false
  channels : Nat := 0
  mediaFs : Nat := 0
  portFs : Nat := 0
  mclk : Bool := false
  trim : Nat := 0
  blocks : Nat := 0
  deriving DecidableEq, Repr, Inhabited

/-- An input frame as the converter keeps it: device time of its edge, whether the port was LOCKED, whether it is a
repeat (R365), its samples. -/
structure AudIn where
  t : Nat
  locked : Bool
  again : Bool
  samples : List Nat
  deriving DecidableEq, Repr, Inhabited

/-- An audio port (R363 to R381). `st`: 0 OFF, 1 UNLOCKED, 2 LOCKING, 3 LOCKED. Intervals are in units of 2^-32 ns with
steps removed. -/
structure Aud where
  cfg : AudCfg := {}
  st : Nat := 0
  /-- Raw time of the last edge, or of the enabling; whether any edge has come. -/
  last : Nat := 0
  any : Bool := false
  /-- The loss of the clock has been reported for the present gap. -/
  lost : Bool := false
  /-- The newest 64 intervals, and intervals since the last comparison. -/
  ivals : List Nat := []
  since : Nat := 0
  /-- Sum of the 64 intervals at the last lock. -/
  locked : Option Nat := none
  /-- Raw times of the last edges, newest first (R369). -/
  edges : List Nat := []
  /-- The newest input frames, newest first. -/
  ins : List AudIn := []
  /-- Measured rate in mHz and reference rate of R370. -/
  rate : Option Nat := none
  ref : Option Nat := none
  /-- Core clock of the next update. -/
  update : Nat := 0
  outOfRange : Bool := false
  /-- Device second of the last AUDIO:0x05. -/
  syncAt : Option Nat := none
  /-- Index of the next frame that a leader drives. -/
  drive : Nat := 0
  /-- Media index of the next frame to be written, whether any has been written, output live (R374). -/
  next : Nat := 0
  wrote : Bool := false
  live : Bool := false
  inRun : Bool := false
  /-- FLAGS and SILENT_MASK of the block in progress; STEPPED also goes to the block after this one. -/
  flags : Nat := 0
  mask : Nat := 0
  stepNext : Bool := false
  received : Word := 0
  discarded : Word := 0
  silent : Word := 0
  deriving DecidableEq, Repr, Inhabited

/-- The audio ports. -/
structure AudSt where
  /-- Ports AP0 to AP3: AUD_CONFIG, converter state, intervals, rates, buffer position, counters | 4 records | 12_audio.md R363 to R381 | OFF; the rest DESIGN CHOICE 2: 0 -/
  ports : List Aud := List.replicate 4 {}
  deriving DecidableEq, Repr, Inhabited

end Sys2Proof.Machine
end

