-- ==== Sys2Proof/Machine/StCapture.lean ====
section
/-!
DEFINITION. State of the wellhead: inputs and input processors (chapter 04 of spec/).
-/
namespace Sys2Proof.Machine

/-- An AUX item (R133): its TAG, the camera FRAME it came with, its data. -/
structure AuxItem where
  tag : Nat
  frame : Nat
  data : List Byte
  deriving DecidableEq, Repr, Inhabited

/-- A wellhead input (R121 to R135). `kind` 0 off, 1 Wellhead Link, 2 12G-SDI. -/
structure InSt where
  kind : Nat := 0
  rate : Nat := 0
  sdiMode : Nat := 0
  first : Nat := 0
  lanes : Nat := 0
  linkId : Nat := 0
  packing : Nat := 0
  pixels : Nat := 0
  lines : Nat := 0
  total : Nat := 0
  /-- Consecutive correct alignment markers of each lane, up to 2. -/
  good : List Nat := []
  /-- Consecutive missing or wrong markers of each lane. -/
  bad : List Nat := []
  /-- Marker count and raw time of the newest marker of each lane (R125, R126). -/
  marks : List (Option (Nat × Nat)) := []
  aligned : Bool := false
  /-- Verdict of the last FORMAT (or payload identifier) since alignment (R131). -/
  verdict : Option Bool := none
  format : Option (List Byte) := none
  packets : Word := 0
  crcErrs : Word := 0
  aliveReps : Word := 0
  aliveGaps : Word := 0
  blockErrs : Nat := 0
  skipped : Word := 0
  frame : Option Nat := none
  /-- Frame rate of the last FORMAT or payload identifier, numerator and denominator; 0 before one. -/
  fnum : Nat := 0
  fden : Nat := 1
  /-- A frame is in progress, and whether it is accepted. -/
  inFrame : Bool := false
  /-- Tracker cycle of the frame in progress, the last line that gave an edge, and that a frame has begun whose
  first edge is still to come (R130). -/
  cycle : Nat := 0
  edged : Option Nat := none
  newFrame : Bool := false
  accepted : Bool := false
  /-- Highest line received in the frame, the line in progress and its next pixel. -/
  high : Nat := 0
  line : Option Nat := none
  nextPix : Nat := 0
  lineBad : Bool := false
  lineStart : Nat := 0
  samples : List Nat := []
  /-- AUX items of the frame and their bytes with item headers (R133). -/
  aux : List AuxItem := []
  /-- Time codes of the last two frames, newest first (R231). -/
  codes : List (Option (List Byte)) := []
  deriving DecidableEq, Repr, Inhabited

/-- An input processor (R136 to R141). -/
structure IpSt where
  used : Bool := false
  input : Nat := 0
  chan : Nat := 0
  desqueeze : Nat := 0
  depth : Nat := 0
  chroma : Nat := 0
  rotate : Nat := 0
  mirror : Bool := false
  slots : Nat := 0
  /-- DEPTH 0 was asked for: the slots are the minimum of R141. -/
  least : Bool := false
  cropX : Nat := 0
  cropY : Nat := 0
  cropW : Nat := 0
  cropH : Nat := 0
  outW : Nat := 0
  outH : Nat := 0
  margin : Nat := 16
  /-- Matrix of 9 coefficients and 3 offsets once IP_CSC was sent. -/
  csc : Option (List Int) := none
  /-- Next row slot to claim. -/
  nextSlot : Nat := 0
  deriving DecidableEq, Repr, Inhabited

/-- The wellhead. -/
structure CapSt where
  /-- Inputs IN0 to IN7: configuration, alignment, format verdict, counters, frame and line in progress, AUX | 8 records | 04_capture.md R121 to R135, R146 | all off and zero (DESIGN CHOICE 2) -/
  ins : List InSt := List.replicate 8 {}
  /-- Input processors IP0 to IP7: stages, matrix, row cistern slots | 8 records | 04_capture.md R136 to R142, R147 | unused, matrix identity (R147); the rest DESIGN CHOICE 2: 0 -/
  ips : List IpSt := List.replicate 8 {}
  deriving DecidableEq, Repr, Inhabited

end Sys2Proof.Machine
end

