-- ==== Sys2Proof/Machine/StCluster.lean ====
section
/-!
DEFINITION. State of the cluster: CL_CONFIG, roster and members, Skovlink numbering, global operations (chapter 17 of
spec/).
-/
namespace Sys2Proof.Machine

/-- A roster entry (R500): expected role, digests of TWIN_SEL A and B. -/
structure Roster where
  id : Nat
  role : Nat := 0
  enabled : Bool := false
  digestA : List Word := List.replicate 12 0
  digestB : List Word := List.replicate 12 0
  deriving DecidableEq, Repr, Inhabited

/-- A module at its manager (R502 to R505), by ID and TWIN_SEL. `st`: 0 ABSENT, 1 JOINING, 2 ADMITTED, 3 QUARANTINED, 4
REJECTED, 5 MISSING. -/
structure Member where
  id : Nat
  selB : Bool
  st : Nat := 0
  role : Nat := 0
  serial : List Word := [0, 0]
  fw : Word := 0
  digest : List Word := List.replicate 12 0
  /-- Bytes of the SPDM message collected so far, and the core clock of the last heartbeat. -/
  spdm : Nat := 0
  heard : Nat := 0
  deriving DecidableEq, Repr, Inhabited

/-- What a receiver keeps of a sender (R497, R498): last alive value, SEQ by address, core clock of its last frame. -/
structure Sender where
  src : Nat
  twinB : Bool
  alive : Option Nat := none
  seqs : List (Nat × Nat) := []
  heard : Nat := 0
  deriving DecidableEq, Repr, Inhabited

/-- A global operation at a module (R508 to R517). At a manager: expected members, acknowledgements (ID, words 0 and 1),
aggregates of clusters, snapshot records received. `stage`: 0 travelling to DP7, 1 sent, 2 collected, 3 done. -/
structure OpRec where
  kind : Nat
  opId : Nat
  scope : Nat
  initiator : Nat
  tAct : Nat
  arg : Word
  arg2 : Word
  slot : List Word
  own : Bool
  expected : List Nat
  acks : List (Nat × Word × Word)
  entries : List (Nat × List Word)
  stage : Nat
  /-- The CH_START of the operation passed the checks of R243 at reception, with its status. -/
  status : Nat
  ok : Nat
  acked : Nat
  expect : Nat
  deriving DecidableEq, Repr, Inhabited

/-- The cluster. -/
structure ClSt where
  /-- CL_CONFIG: ID, none before the first | 12 | 17_cluster.md R493 | none (DESIGN CHOICE 2) -/
  id : Option Nat := none
  /-- CL_CONFIG ENABLE, REQUIRE_SAME_FW | 2 | 17_cluster.md CL_CONFIG | DESIGN CHOICE 2: 0 -/
  on : Bool := false
  sameFw : Bool := false
  /-- Port M0 (false) or M1, VID, VLAN, PCP | 17 | 17_cluster.md CL_CONFIG | DESIGN CHOICE 2: 0 -/
  portM1 : Bool := false
  vid : Nat := 0
  vlan : Bool := false
  pcp : Nat := 0
  /-- EtherType | 16 | 17_cluster.md R495 | 0x88B5 -/
  etherType : Nat := 0x88B5
  /-- Pinned digest of the manager, none when all zero | 384 | 17_cluster.md CL_PIN | none -/
  pin : Option (List Word) := none
  /-- Admitted by the manager; stopped by a foreign manager identity | 2 | 17_cluster.md R501, R504 | false -/
  joined : Bool := false
  refused : Bool := false
  /-- Core clock of the manager's last heartbeat, and of the next JOIN and heartbeat | clocks | 17_cluster.md R501, R505 | DESIGN CHOICE 2: 0 -/
  heard : Nat := 0
  nextJoin : Nat := 0
  nextBeat : Nat := 0
  /-- Bytes of the manager's SPDM message collected | count | 17_cluster.md R501 | 0 -/
  spdm : Nat := 0
  /-- Roster of a manager | list | 17_cluster.md R500 | empty -/
  roster : List Roster := []
  /-- Members at a manager | list | 17_cluster.md R502 | empty -/
  members : List Member := []
  /-- Next SEQ by DST address (group x 4096 + code) | list | 17_cluster.md R498 | empty, numbering from 1 -/
  seqs : List (Nat × Nat) := []
  /-- Records of senders heard | list | 17_cluster.md R497, R498 | empty -/
  senders : List Sender := []
  /-- Global operations known, newest last | list | 17_cluster.md R508 to R517 | empty -/
  ops : List OpRec := []
  /-- Next OP_ID | 16 | 17_cluster.md R511 | DESIGN CHOICE 2: 0 -/
  nextOp : Nat := 0
  /-- Command slot halves of CL_OP_SLOT, none until written since the last CL_OP of KIND 1 | 16 x 32 | 17_cluster.md R521 | none -/
  slotLo : Option (List Word) := none
  slotHi : Option (List Word) := none
  /-- Frames sent and received | 2 x 32 | 17_cluster.md CL_STATUS | 0 -/
  sent : Word := 0
  received : Word := 0
  /-- Device seconds of the last SECURITY:0x05 and 0x04 by ID, CLUSTER:0x09 by worker: code, ID, second | list | 17_cluster.md R502, R503, R519 | none -/
  raised : List (Nat × Nat × Nat) := []
  /-- Snapshot record latched last | 16 x 32 | 17_cluster.md R517 | none -/
  snap : Option (List Word) := none
  /-- Packets released, tasks guarded, rows skipped since CLEAR | 3 x 32 | 17_cluster.md table Snapshot record | 0 (DESIGN CHOICE 2) -/
  packets : Word := 0
  guarded : Word := 0
  skipped : Word := 0
  deriving DecidableEq, Repr, Inhabited

end Sys2Proof.Machine
end

