-- ==== Sys2Proof/Machine/StPicture.lean ====
section
/-!
DEFINITION. What the cisterns of a stream hold: reference pictures (R209, R240), skip templates (R223, R224), and the NAL units
of the output cistern with their content (R193, R194, R218 to R220, R228 to R233, R248).
-/
namespace Sys2Proof.Machine

/-- Types of a picture (R219, R220). -/
inductive PicType where
  | idr
  | gdr
  | trailing
  deriving DecidableEq, Repr, Inhabited

/-- Types of a slice (R218). -/
inductive SliceType where
  | i
  | p
  | b
  deriving DecidableEq, Repr, Inhabited

/-- The samples of a task's area in a picture, component by component and line by line: its tile column and row. -/
structure RefPart where
  col : Nat
  row : Nat
  planes : List (List Nat)
  deriving DecidableEq, Repr, Inhabited

/-- A picture of a stream in its reference cistern, or in a decoder's picture buffer: its channel frame and the areas written. -/
structure RefPic where
  frame : Nat
  parts : List RefPart
  deriving DecidableEq, Repr, Inhabited

/-- A skip template of a stream (R223, R224): size of the tile column and row in luma samples, whether it is the intra template, the
slice QP, its bits with the slice header, and of the intra template the CRC of the flat area (R342). SAO and ALF are off in it. -/
structure SkipTemplate where
  w : Nat
  h : Nat
  intra : Bool
  qp : Nat
  bits : Nat
  crc : Nat
  deriving DecidableEq, Repr, Inhabited

/-- What a sequence parameter set says: profile, level, tier, picture, CTU size, the tools signalled off, the size of the decoded
picture buffer, the picture rate of its VUI, and the HRD parameters (R192 to R194, R204, R218, R248). -/
structure Sps where
  profile : Nat
  level : Nat × Nat
  tier : Nat
  width : Nat
  height : Nat
  chroma : Nat
  depth : Nat
  ctu : Nat
  off : List Tool
  dpb : Nat
  rateNum : Nat
  rateDen : Nat
  /-- NAL and VCL HRD parameters with one CPB: bit rate, CPB size in bits, `cbr_flag`, decoding-unit parameters, and the parts into
  which the clock tick is divided. -/
  bitRate : Nat
  cpb : Nat
  cbr : Bool
  unitParams : Bool
  subTicks : Nat
  deriving DecidableEq, Repr, Inhabited

/-- What a slice header says: the picture's type and POC, the slice type, the POCs of lists L0 and L1 (none for a picture that
H.266 generates), the first CTU and the number of CTUs, the slice QP, the in-loop filters in use (none where only the coded bytes tell them), and whether the slice comes
from a skip template. -/
structure SliceHead where
  pic : PicType
  type : SliceType
  poc : Nat
  list0 : List (Option Nat)
  list1 : List (Option Nat)
  address : Nat
  ctus : Nat
  qp : Nat
  filters : Option (List Tool)
  template : Bool
  deriving DecidableEq, Repr, Inhabited

/-- The kinds of NAL units in the order of the table of R229. -/
inductive NalKind where
  | aud | vps | sps | pps | buffering | timing | recovery | colour | light | timeCode | pictureHeader | unitInfo | slice | hash
  | record | endOfBitstream
  deriving DecidableEq, Repr, Inhabited

/-- The place of a kind of NAL unit in the table. -/
def NalKind.code : NalKind → Nat
  | .aud => 0 | .vps => 1 | .sps => 2 | .pps => 3 | .buffering => 4 | .timing => 5 | .recovery => 6 | .colour => 7 | .light => 8
  | .timeCode => 9 | .pictureHeader => 10 | .unitInfo => 11 | .slice => 12 | .hash => 13 | .record => 14 | .endOfBitstream => 15

/-- A NAL unit with what it says. -/
inductive Nal where
  | aud
  | vps (profile : Nat) (level : Nat × Nat) (tier : Nat)
  | sps (x : Sps)
  /-- In-loop filtering across slices and across tiles, and the widths of the tile columns and heights of the tile rows in CTUs, none
  where tiles are not enabled (R198). -/
  | pps (acrossSlices acrossTiles : Bool) (tileCols tileRows : List Nat)
  /-- Initial CPB removal delay in units of 1/90,000 s (R248). -/
  | buffering (delay : Nat)
  /-- Removal of the picture's first decoding unit from the CPB, as T_row after the time of the first row's issue; time units. -/
  | timing (removal : Nat)
  | recovery (count : Nat)
  /-- Primaries, white point, maximum and minimum luminance, as SEI_CONFIG gives them. -/
  | colour (words : List Word)
  /-- MAXCLL and MAXFALL. -/
  | light (word : Word)
  | timeCode (code : List Byte)
  /-- Type, POC, and `ph_recovery_poc_cnt` of a GDR picture. -/
  | pictureHeader (type : PicType) (poc : Nat) (recovery : Option Nat)
  /-- Row of the picture and its removal after that of the row before, in time units. -/
  | unitInfo (row removal : Nat)
  | slice (x : SliceHead)
  /-- The CRC of each colour component (R230). -/
  | hash (crcs : List Nat)
  /-- UUID and frame record (R232). -/
  | record (bytes : List Byte)
  | endOfBitstream
  deriving DecidableEq, Repr, Inhabited

/-- A NAL unit in a stream's output cistern (R209): its picture and row, its tile column where it is a slice, what it says, its
length, the bytes of a coded slice, and whether packaging and the self-check have returned its credits (R24, R339). -/
structure OutUnit where
  stream : Nat
  frame : Nat
  row : Nat
  col : Nat
  nal : Nal
  len : Nat
  data : List Byte
  packed : Bool
  checked : Bool
  deriving DecidableEq, Repr, Inhabited

end Sys2Proof.Machine
end

