-- ==== Sys2Proof/Machine/StEncode.lean ====
section
/-!
DEFINITION. State of the channels, their rows and streams, the coding engines, the sounders and rate control
(chapters 07 and 08 of spec/).
-/
namespace Sys2Proof.Machine

/-- CH_CONFIG of a channel (R192 to R196). -/
structure ChCfg where
  codec : Nat
  chroma : Nat
  depth : Nat
  small : Bool
  struct : Nat
  refs : Nat
  tier : Nat
  prio : Nat
  width : Nat
  height : Nat
  fnum : Nat
  fden : Nat
  gdr : Nat
  deriving DecidableEq, Repr, Inhabited

/-- CH_LAYOUT of a channel (R202, R242): `want` is the COLS asked for, `cols` the columns chosen, 0 while they
cannot be judged (R595). -/
structure Layout where
  mx : Nat
  my : Nat
  m : Nat
  want : Nat
  cols : Nat
  first : Nat
  deriving DecidableEq, Repr, Inhabited

/-- A rectangle of a picture. -/
structure Rect where
  x : Nat
  y : Nat
  w : Nat
  h : Nat
  deriving DecidableEq, Repr, Inhabited

/-- SEI_CONFIG of a channel (R229 to R232). -/
structure SeiCfg where
  hash : Bool := true
  timecode : Bool := true
  camera : Bool := false
  mdcv : Bool := false
  cll : Bool := false
  record : Bool := true
  words : List Word := []
  deriving DecidableEq, Repr, Inhabited

/-- RC_CONFIG of a channel (R247, R260). -/
structure RcCfg where
  mode : Nat
  headroom : Nat
  rate : Nat
  rateMax : Nat
  qpCq : Nat
  qpMax : Nat
  qpMin : Nat
  window : Nat
  deriving DecidableEq, Repr, Inhabited

/-- RC_BIND of a channel (R269, R281): dipper, whether a user program, program number. -/
structure RcBind where
  dipper : Nat
  user : Bool
  program : Nat
  deriving DecidableEq, Repr, Inhabited

/-- CLRC_CONFIG of a channel and the state of its exchange (R272 to R277). -/
structure ClRc where
  level : Nat := 0
  manager : Nat := 0
  first : Nat := 0
  /-- Budgets received: stream index, frame, row, target, scale. -/
  budgets : List (Nat × Nat × Nat × Nat × Nat) := []
  scale : Nat := 128
  /-- Rows or pictures in fallback in a row, rows of the frame in progress that fell back. -/
  fallRun : Nat := 0
  fallFrame : Nat := 0
  deriving DecidableEq, Repr, Inhabited

/-- What a channel notes of a frame for its frame records: the newest time code of the camera at the capture time of row 0 with the
frames since it, and whether the line tracker was not LOCKED at the capture time of a row (R231, R232). -/
structure PicNote where
  frame : Nat
  code : Option (List Byte × Nat)
  unlocked : Bool
  deriving DecidableEq, Repr, Inhabited

/-- A channel (R192 to R244). `st`: 0 stopped, 1 waiting for its first frame, 2 running. -/
structure Ch where
  cfg : Option ChCfg := none
  lay : Option Layout := none
  delay : Nat := 0
  reserve : Nat := 0
  st : Nat := 0
  /-- Tracker cycle of channel frame 0, the delay D in force and the failover reserve in force. -/
  cycle0 : Int := 0
  d : Nat := 0
  x150 : Bool := false
  /-- Frame and row that are needed next (R143, R145). -/
  needF : Nat := 0
  needR : Nat := 0
  /-- Last frame once CH_STOP chose it. -/
  last : Option Nat := none
  /-- Frame at the newest frame boundary, none before the first. -/
  frame : Option Nat := none
  guarded : Nat := 0
  underrun : Nat := 0
  /-- First frames of the GDR periods, newest first, and the refreshes to come: frame, IDR. -/
  gdrStarts : List Nat := []
  refreshes : List (Nat × Bool) := []
  /-- Frames coded whole since CH_START. -/
  coded : Nat := 0
  /-- Frames coded as IDR, and CMD_DONE of CH_START written. -/
  idr : List Nat := []
  lossless : List (Option Rect) := List.replicate 4 none
  sei : SeiCfg := {}
  rc : Option RcCfg := none
  bind : Option RcBind := none
  clrc : ClRc := {}
  /-- Settings that wait for the first picture whose row 0 is issued after their boundary (R280). -/
  rcNext : Option RcCfg := none
  bindNext : Option RcBind := none
  clrcNext : Option (Nat × Nat × Nat) := none
  /-- Dipper that runs its rate control, fixed at CH_START (R281). -/
  dip : Nat := 0
  /-- Per frame: tasks guarded, tasks underrun (R237). -/
  frameGuards : List (Nat × Nat × Nat) := []
  /-- Skipped rows of frames in progress: frame, rows skipped (R145). -/
  frameSkips : List (Nat × Nat) := []
  /-- AUX items received since the capture time of the last picture's last row: they go into the next record (R233). -/
  aux : List AuxItem := []
  /-- Notes of the frames under way, newest first. -/
  notes : List PicNote := []
  deriving DecidableEq, Repr, Inhabited

/-- The tracker cycle of a channel frame, and the channel frame of a cycle, none before frame 0. -/
def Ch.cycleOf (h : Ch) (frame : Nat) : Nat := (h.cycle0 + frame).toNat
def Ch.frameAt (h : Ch) (cycle : Nat) : Option Nat :=
  if (cycle : Int) < h.cycle0 then none else some (cycle - h.cycle0).toNat

/-- A row of a channel's frame on its way from capture to packaging (R140, R143, R150, R207, R216, R259). -/
structure RowRec where
  chan : Nat
  frame : Nat
  row : Nat
  /-- Slot of the row cistern while its credit is held. -/
  slot : Option Nat := none
  /-- Input lines received without loss, and output lines written (R138). -/
  got : Nat := 0
  wrote : Nat := 0
  damaged : Bool := false
  overrun : Bool := false
  /-- Capture time and row start S once known (R32, R197). -/
  capT : Option Nat := none
  start : Nat := 0
  needed : Bool := false
  skip : Bool := false
  /-- Lines composed by each composer, and whether composition was abandoned. -/
  composed : List (Nat × Nat) := []
  /-- Blocks of 64 pixels written of the line in progress, by each composer (R152). -/
  blocksDone : List (Nat × Nat) := []
  composedAt : Option Nat := none
  abandoned : Bool := false
  /-- Sounder: lines analysed of each band, block entries, status of each band (3 while running). -/
  bands : List Nat := []
  bandSt : List Nat := []
  blocks : List (Nat × Word × Word) := []
  /-- Written budgets and QPs: stream index, column, budget, and the QP word. -/
  written : List (Nat × Nat × Nat) := []
  qps : List (Nat × Nat × Word) := []
  issued : Bool := false
  /-- Its tasks have been made ready at I_n. -/
  readied : Bool := false
  /-- Phases started, and the last that finished (R268). -/
  phases : List Nat := []
  committed : Bool := false
  /-- Streams of the row packaged so far. -/
  packaged : List Nat := []
  deriving DecidableEq, Repr, Inhabited

/-- What words 7 to 11 of a task record say (R208), and the number of CUs that took a QP, which the record does not hold: the
mean QP of R258 needs it. -/
structure TaskSum where
  bits : Nat := 0
  recon : Nat := 0
  ctuReserve : Nat := 0
  ctuNormal : Nat := 0
  ctuSkip : Nat := 0
  ctuIntra : Nat := 0
  sumQp : Nat := 0
  cus : Nat := 0
  deriving DecidableEq, Repr, Inhabited

/-- A tile-row task with its record (R198, R208). `st`: 0 waiting in Dispatch or to be submitted, 1 in service,
2 with a reserve path, 3 complete, 4 underrun, 5 guarded and waiting for its reserve path, 6 failed twice (R225). `rsv`
tells that it is coded wholly in reserve mode (R253). -/
structure TaskRec where
  id : Nat
  chan : Nat
  frame : Nat
  /-- Row of the channel, and row within the stream. -/
  crow : Nat
  stream : Nat
  col : Nat
  row : Nat
  skip : Bool
  guarded : Bool
  budget : Nat
  floor : Nat
  qpInit : Nat
  qpMax : Nat
  qpMin : Nat
  guardT : Nat
  deadline : Nat
  /-- Sum of x over its blocks (R258). -/
  x : Nat := 0
  res : TaskSum := {}
  /-- Vectors of the sounder's blocks over the task, which the engine takes as search seeds (R216): block, x, y. -/
  seeds : List (Nat × Int × Int) := []
  retried : Bool
  rsv : Bool
  /-- The reserve path that has it or, of a running task, is to have it. -/
  pathOf : Option Nat
  st : Nat
  deriving DecidableEq, Repr, Inhabited

/-- An elementary stream (R202, R209, R218, R223, R240, R245 to R262). -/
structure Strm where
  chan : Nat := 0
  used : Bool := false
  /-- Flow of each tile column (R206). -/
  flows : List Nat := []
  /-- Position and size in the channel picture, and its phase. -/
  rect : Rect := ⟨0, 0, 0, 0⟩
  phase : Nat := 0
  /-- Picture in progress; non-VCL bits charged to each picture that is not over; actual suffix. -/
  frame : Nat := 0
  nonVcl : List (Nat × Nat) := []
  suffix : Option Nat := none
  inReserve : Bool := false
  /-- Pictures coded so far; size, sum of QPs and CUs of the last one. -/
  pics : Nat := 0
  lastSize : Nat := 0
  lastQp : Nat := 0
  lastCus : Nat := 0
  carry : Int := 0
  /-- Newest first: a - P of the last pictures, and sums of X (R262). -/
  diffs : List Int := []
  xs : List Nat := []
  reservePics : Nat := 0
  fallbacks : Nat := 0
  /-- RATE in force, kbit/s (R266). -/
  rate : Nat := 0
  nextRate : Option Nat := none
  /-- Target of the picture from the cluster in frame-level exchange (R272), and tasks guarded or underrun since the last
  report (table "RC_REPORT entry"). -/
  shared : Option Nat := none
  guards : Nat := 0
  /-- Frame and row of the stream that packaging takes next. -/
  packF : Nat := 0
  packR : Nat := 0
  /-- X of each row of the last picture that is over, and of the rows issued of each picture that is not. -/
  prevX : List Nat := []
  curX : List (Nat × List Nat) := []
  /-- Reference cistern: the pictures that it holds, newest first (R209, R240). -/
  refs : List RefPic := []
  /-- Skip templates, built at CH_START (R223, R224). -/
  templates : List SkipTemplate := []
  /-- Of the pictures that are not packaged whole: the AUX items of their records (R233), and the CRC of each component once the
  picture is over (R230). -/
  aux : List (Nat × List AuxItem) := []
  hashes : List (Nat × List Nat) := []
  deriving DecidableEq, Repr, Inhabited

/-- A coding engine (R211 to R213, R235). -/
structure Engine where
  service : Bool := true
  errors : List Nat := []
  /-- Durations and loads of the last 256 tasks, newest first, in core clocks. -/
  durs : List (Nat × Nat) := []
  slow : Bool := false
  /-- Task that its reserve path completes. -/
  path : Option Nat := none
  deriving DecidableEq, Repr, Inhabited

/-- Settings of a sharing group that wait for their period (R280); a member is stream, weight, floor rate and cap. -/
structure GroupSet where
  on : Bool
  period : Nat
  rate : Nat
  members : List (Nat × Nat × Nat × Nat)
  deriving DecidableEq, Repr, Inhabited

/-- A local sharing group (R265). -/
structure Group where
  on : Bool := false
  period : Nat := 2
  rate : Nat := 0
  /-- Stream, weight, floor rate, cap. -/
  members : List (Nat × Nat × Nat × Nat) := []
  /-- The settings wait for the first period that starts at or after their boundary (R280). -/
  held : Option GroupSet := none
  /-- Device time of the period boundary served last. -/
  last : Nat := 0
  deriving DecidableEq, Repr, Inhabited

/-- Completion record of port 0x10 (R270, R271). -/
structure DoneRec where
  words : List Word
  deriving DecidableEq, Repr, Inhabited

/-- Cluster rate control at the manager (R274 to R279): what a worker's stream reported. -/
structure RcReport where
  member : Nat
  /-- Channel, mosaic number, I_n and row of the frame's prefix. -/
  chan : Nat
  mosaic : Nat
  t : Nat
  row : Nat
  stream : Nat
  x : Nat
  target : Nat
  room : Nat
  floor : Nat
  guarded : Nat
  late : Bool
  deriving DecidableEq, Repr, Inhabited

/-- The manager's view of a worker (R276, R277): by mosaic, rows or pictures in a row without a report; guard counts newest first;
its scale x 128. -/
structure RcWorker where
  missing : List (Nat × Nat) := []
  guards : List (Nat × Nat) := []
  scale : Nat := 128
  deriving DecidableEq, Repr, Inhabited

/-- Channels, rows, streams, engines, sounders and rate control. -/
structure EncSt where
  /-- Channels CH0 to CH15: configuration, layout, delay, run state, counters, refresh, lossless regions, SEI, rate control and its binding, cluster exchange | 16 records | 07_encoding.md R192 to R244, 08_rate_control.md R247, R260, R269, R272 | unconfigured and stopped; SEI as SEI_CONFIG states after reset (R229 table); the rest DESIGN CHOICE 2: 0 -/
  chans : List Ch := List.replicate 16 {}
  /-- Rows in progress | list | 04_capture.md R140, R143, 07_encoding.md R207, R216 | empty -/
  rows : List RowRec := []
  /-- Tile-row tasks and their records | list | 07_encoding.md R208 | empty -/
  tasks : List TaskRec := []
  /-- Number of the next task | count | model's own key of R208's records | 0 -/
  nextTask : Nat := 0
  /-- Elementary streams 0 to 31: place, picture in progress, charges, carries, rates, reference cistern, skip templates, AUX items and hashes of the pictures under way | 32 records | 07_encoding.md R202, 08_rate_control.md R245 to R262 | unused; DESIGN CHOICE 2: 0 -/
  streams : List Strm := List.replicate 32 {}
  /-- Coding engines CE0 to CE15: in service, errors, durations, reserve path | 16 records | 07_encoding.md R211, R213, R235 | in service, none (R211) -/
  engines : List Engine := List.replicate 16 {}
  /-- Rotating pointer over reserve paths | 4 | 07_encoding.md R235, 01_architecture.md R37 | 0 (R37) -/
  pathPtr : Nat := 0
  /-- Placement of sounder bands of running channels: channel, sounder of each band | list | 07_encoding.md R215 | empty -/
  bands : List (Nat × List Nat) := []
  /-- Output cisterns of the streams: NAL units whose credits packaging or the self-check hold | list | 07_encoding.md R209, R229, 11_confidence_decoder.md R339 | empty -/
  output : List OutUnit := []
  /-- Sharing groups 0 to 7 | 8 records | 08_rate_control.md R265 | disabled; T_g 1 ms (R265) -/
  groups : List Group := List.replicate 8 {}
  /-- Completion FIFO of each rate-control dipper DP0 to DP3, at most 64 entries, and whether completions overflowed | 4 lists | 08_rate_control.md R270, R271 | empty -/
  dones : List (List DoneRec × Bool) := List.replicate 4 ([], false)
  /-- Reports at the cluster manager | list | 08_rate_control.md R274 | empty -/
  reports : List RcReport := []
  /-- Workers at the cluster manager: member, record | list | 08_rate_control.md R276, R277 | empty -/
  workers : List (Nat × RcWorker) := []
  /-- Group target in force at a cluster manager; whether the last report was answered; device time by which the target of the picture is due | 3 numbers | 08_rate_control.md R279 | none -/
  share : Option Nat := none
  shareGot : Bool := true
  shareDue : Option Nat := none
  /-- Sums of the entries that a cluster manager collected of a picture: X, TARGET, ROOM, FLOOR, GUARDED; the TARGET that its last report named, and the one that the target in force answers | 5 + 2 numbers | 08_rate_control.md R279 | none -/
  sums : List Nat := []
  asked : Nat := 0
  answered : Nat := 0
  deriving DecidableEq, Repr, Inhabited

end Sys2Proof.Machine
end

