-- ==== Sys2Proof/Machine/StCompose.lean ====
section
/-!
DEFINITION. State of the composers, the surfaces and the block-copy engine (chapters 05 and 06 of spec/).
-/
namespace Sys2Proof.Machine

/-- A source frame that a layer has latched (R166): width, height, buffer (of a surface) or ring slot (of a feed),
number of the frame. -/
structure SrcFrame where
  w : Nat
  h : Nat
  buf : Nat
  num : Nat
  deriving DecidableEq, Repr, Inhabited

/-- An overlay layer (R155 to R170). -/
structure Layer where
  on : Bool := false
  hold : Nat := 2
  expect : Nat := 0
  vPoint : Bool := false
  bt2020 : Bool := false
  premul : Bool := false
  blend : Nat := 0
  format : Nat := 0
  source : Nat := 0
  galpha : Nat := 0
  srcId : Nat := 0
  src : Rect := ⟨0, 0, 0, 0⟩
  dstX : Int := 0
  dstY : Int := 0
  dstW : Nat := 0
  dstH : Nat := 0
  fill : Nat := 0
  /-- Line buffer reserved on CM0 to CM3, bytes (R164). -/
  lb : List Nat := [0, 0, 0, 0]
  latched : Option SrcFrame := none
  /-- Surface and buffer that the layer holds, until it latches another one (R177). -/
  held : Option (Nat × Nat) := none
  notReady : Nat := 0
  transparent : Bool := false
  point : Bool := false
  deriving DecidableEq, Repr, Inhabited

/-- Samples of a region on their way into a signature (R171): frame, plane (0 to 2 composed or layer samples, 3 alpha, 4
to 6 layer 0), line, first column. -/
structure SigPart where
  frame : Nat
  plane : Nat
  y : Nat
  x : Nat
  vals : List Nat
  deriving DecidableEq, Repr, Inhabited

/-- A signature region (R171 to R175). -/
structure Region where
  kind : Nat := 0
  mode : Nat := 0
  layer : Nat := 0
  rect : Rect := ⟨0, 0, 0, 0⟩
  ref : Word := 0
  refHeld : Bool := false
  last : Word := 0
  lastFrame : Nat := 0
  mismatches : Word := 0
  /-- The first frame of which the region sees every line. -/
  since : Nat := 0
  /-- Frames whose boundary has come and whose comparison has not, oldest first, and whether the named layer is transparent
  in them. -/
  frames : List (Nat × Bool) := []
  /-- Samples of frames not compared yet. -/
  acc : List SigPart := []
  deriving DecidableEq, Repr, Inhabited

/-- Composition of a channel (R148, R149, R169). -/
structure CompCh where
  on : Bool := false
  mask : Nat := 0
  layers : List Layer := List.replicate 8 {}
  regions : List Region := List.replicate 8 {}
  abandoned : Word := 0
  /-- Device time at which composition was enabled. -/
  since : Nat := 0
  deriving DecidableEq, Repr, Inhabited

/-- A surface (R177, R178, R191). -/
structure Surf where
  format : Nat := 0
  two : Bool := false
  w : Nat := 0
  h : Nat := 0
  p : Nat := 0
  published : Bool := false
  count : Word := 0
  /-- Device time of the newest publish, and core clock of the newest by the host. -/
  pubT : Nat := 0
  hostClk : Option Nat := none
  deriving DecidableEq, Repr, Inhabited

/-- A BL0 descriptor in the queue (R185), with the tag of its BLIT_SUBMIT and its key. -/
structure Blit where
  key : Nat
  tag : Word
  w0 : Word
  w1 : Word
  w2 : Word
  w3 : Word
  fill : Nat
  dl : Option Nat
  missed : Bool
  deriving DecidableEq, Repr, Inhabited

/-- The composers. -/
structure CompSt where
  /-- Composition of CH0 to CH15: enable, CM_MASK, layers 1 to 7, regions 0 to 7, rows abandoned | 16 records | 05_composition.md R148 to R175 | disabled; layers disabled (R155), HOLD 2 (R168); the rest DESIGN CHOICE 2: 0 -/
  chans : List CompCh := List.replicate 16 {}
  /-- Rotating pointers of CM0 to CM3 over channels | 4 numbers | 05_composition.md R151, 01_architecture.md R37 | 0 (R37) -/
  ptrs : List Nat := List.replicate 4 0
  deriving DecidableEq, Repr, Inhabited

/-- Surfaces and BL0. -/
structure BlitSt where
  /-- Surfaces configured: number, record | 256 surfaces | 06_block_copy.md R177, R191 | empty -/
  surfs : List (Nat × Surf) := []
  /-- Descriptors queued, oldest first, at most 64 | list | 06_block_copy.md R186, R187 | empty -/
  queue : List Blit := []
  /-- Descriptor that runs, and the core clock of its start | record | 06_block_copy.md R187 | none -/
  running : Option (Blit × Nat) := none
  /-- Number of the next descriptor | count | model's own key of R187's order | 0 -/
  next : Nat := 0
  /-- ACTIVE_RATE in units of 0.5 GB/s | 8 | 06_block_copy.md R188 | 8 (4 GB/s) -/
  active : Nat := 8
  /-- DEAD_RATE in units of 0.5 GB/s | 8 | 06_block_copy.md R188 | DESIGN CHOICE 2: 8 -/
  dead : Nat := 8
  /-- Dead channel named | 4 | 06_block_copy.md R188 | none -/
  deadCh : Option Nat := none
  /-- A dead window is open | 1 | 06_block_copy.md R189 | false -/
  window : Bool := false
  /-- BLIT:0x03 raised for the present period without LOCKED | 1 | 06_block_copy.md R189 | false -/
  offSeen : Bool := false
  /-- Bytes moved by the running descriptor up to a core clock | 2 numbers | 06_block_copy.md R188, BLIT_QUERY | 0 -/
  moved : Nat × Nat := (0, 0)
  deriving DecidableEq, Repr, Inhabited

end Sys2Proof.Machine
end

