-- ==== Sys2Proof/Machine/StDecode.lean ====
section
/-!
DEFINITION. State of the confidence decoder and of the return feeds (chapter 11 of spec/).
-/
namespace Sys2Proof.Machine

/-- A DECODE_ROW record (R337 to R343). `st`: 0 not ready, 1 in Dispatch, 2 decoded, 3 cancelled, 4 failed
twice (R336). -/
structure DecRec where
  id : Nat
  task : Nat
  chan : Nat
  stream : Nat
  frame : Nat
  col : Nat
  row : Nat
  /-- Channel row, and the check deadline as a device time. -/
  crow : Nat
  deadline : Nat
  offset : Nat
  len : Nat
  expect : Nat
  decoded : Nat
  concealed : Nat
  result : Nat
  retried : Bool
  st : Nat
  deriving DecidableEq, Repr, Inhabited

/-- The check of a stream (R341 to R348). `st`: 0 CLEAN, 1 DIVERGED, 2 CONVERGING, 3 SUSPENDED. -/
structure ChkSt where
  st : Nat := 0
  compared : Word := 0
  mismatches : Word := 0
  cancelled : Word := 0
  lastFrame : Nat := 0
  /-- First frame after the refresh period of R346, or after the period that CONVERGING watches. -/
  target : Option Nat := none
  /-- Device times at which it entered DIVERGED within the last 10 s, newest first (R347). -/
  entered : List Nat := []
  /-- The decoder's own pictures, newest first (R346, R358). -/
  dpb : List RefPic := []
  deriving DecidableEq, Repr, Inhabited

/-- SELFCHECK_CONFIG of a channel (R362). -/
structure ChkCfg where
  on : Bool := true
  refresh : Bool := true
  /-- A setting that holds from the first picture at its boundary: frame, ENABLE, AUTO_REFRESH. -/
  next : Option (Nat × Bool × Bool) := none
  deriving DecidableEq, Repr, Inhabited

/-- A packet in a feed's reorder window (R350), with the core clock of its arrival. -/
structure Waiting where
  pkt : FeedPkt
  clk : Nat
  deriving DecidableEq, Repr, Inhabited

/-- A RETURN_FEED record (table "RETURN_FEED record"). -/
structure FeedRec where
  id : Nat
  au : Nat
  offset : Nat
  len : Nat
  firstCtu : Nat
  ctus : Nat
  done : Nat
  error : Bool
  retried : Bool
  /-- The engine has completed its task, or failed twice. -/
  closed : Bool
  deriving DecidableEq, Repr, Inhabited

/-- A picture of a feed (R354 to R359): access unit, POC, the SPS active for it, the references that it names and those generated,
its CTUs so far; once its decoding has begun, the substitute of each missing reference, none where it is a generated picture
(REF_SUBSTITUTED); whether it waits for output, and whether it precedes the recovery point. -/
structure FeedPic where
  au : Nat
  poc : Int
  sps : FeedSps
  refs : List Int
  generated : List Int
  ctus : List DecCtu := []
  begun : Bool := false
  subst : List (Int × Option Int) := []
  waiting : Bool := true
  early : Bool := false
  deriving DecidableEq, Repr, Inhabited

/-- A buffer of a feed's output ring (R355, R356). -/
structure OutBuf where
  w : Nat := 0
  h : Nat := 0
  chroma : Nat := 0
  num : Nat := 0
  full : Bool := false
  /-- The picture, at 10 bits. -/
  pic : FeedPic := default
  /-- Device time of its completion. -/
  t : Nat := 0
  deriving DecidableEq, Repr, Inhabited

/-- A return feed (R349 to R361). `st`: 0 OFF, 1 WAITING, 2 RECOVERING, 3 RUNNING, 4 SUSPENDED. -/
structure Feed where
  st : Nat := 0
  prio : Nat := 1
  earlyOut : Bool := false
  encap : Nat := 0
  port : Nat := 0
  ipv6 : Bool := false
  addr : List Word := []
  udp : Nat := 0
  timeout : Nat := 100
  maxW : Nat := 0
  maxH : Nat := 0
  rate : Nat := 0
  dpb : Nat := 2
  frames : Nat := 3
  flow : Option Nat := none
  /-- Core clock of the last packet, next sequence number, packets waiting in the window. -/
  heard : Nat := 0
  next : Option Nat := none
  window : List Waiting := []
  /-- RTP timestamp and number of the access unit in progress, and a fragmented NAL unit in progress without loss. -/
  auTs : Option Nat := none
  au : Nat := 0
  fragOk : Bool := false
  /-- Decoding has started at a start point (R354). -/
  started : Bool := false
  recs : List FeedRec := []
  /-- Parameter sets received, POC of the recovery point of the start, pictures being decoded in order, and the decoded picture
  buffer, newest first. -/
  params : List FeedParam := []
  recoverAt : Option Int := none
  opens : List FeedPic := []
  pics : List FeedPic := []
  bufs : List OutBuf := []
  w : Nat := 0
  h : Nat := 0
  profile : Nat := 0
  lost : Word := 0
  concealed : Word := 0
  subst : Word := 0
  output : Word := 0
  other : Word := 0
  /-- Luma samples of this second, and the rate measured over the last one. -/
  luma : Nat := 0
  measured : Nat := 0
  /-- Happenings of this second: syntax, missing references, losses, dropped outputs, bad reads, CTUs concealed. -/
  sec : List Nat := [0, 0, 0, 0, 0, 0]
  deriving DecidableEq, Repr, Inhabited

/-- The confidence decoder and the return feeds. -/
structure DecSt where
  /-- Self-check of CH0 to CH15: ENABLE, AUTO_REFRESH | 16 x 2 | 11_confidence_decoder.md R362 | enabled with AUTO_REFRESH (R362) -/
  checks : List ChkCfg := List.replicate 16 {}
  /-- Check of streams 0 to 31: state, counters, refresh, picture | 32 records | 11_confidence_decoder.md R341 to R348 | CLEAN; DESIGN CHOICE 2: 0 -/
  streams : List ChkSt := List.replicate 32 {}
  /-- DECODE_ROW records | list | 11_confidence_decoder.md R337 | empty -/
  recs : List DecRec := []
  /-- Number of the next record | count | model's own key of the records | 0 -/
  next : Nat := 0
  /-- Decode engines DE0 to DE5: device times of internal errors, newest first | 6 lists | 11_confidence_decoder.md R336 | empty -/
  errors : List (List Nat) := List.replicate 6 []
  /-- Decode engines in service | 6 | 11_confidence_decoder.md R336 | all (DESIGN CHOICE 2) -/
  service : List Bool := List.replicate 6 true
  /-- Feeds RF0 to RF7 | 8 records | 11_confidence_decoder.md R349 to R362 | not configured (R362) -/
  feeds : List Feed := List.replicate 8 {}
  /-- Device time at which the present second of the feeds' measures and faults ends | time | 11_confidence_decoder.md R353, R360 | DESIGN CHOICE 2: 1 s -/
  second : Nat := secU
  /-- Device time at which the luma rate of the feeds is measured next | time | 11_confidence_decoder.md R353 | DESIGN CHOICE 2: 1 s -/
  rateAt : Nat := secU
  deriving DecidableEq, Repr, Inhabited

end Sys2Proof.Machine
end

