-- ==== Sys2Proof/Machine/StDipper.lean ====
section
/-!
DEFINITION. State of the dippers DP0 to DP7: memories, programs, bindings, the run in progress and the ports that
keep a value (chapter 10 of spec/).
-/
namespace Sys2Proof.Machine

/-- A loaded user program (R330 to R332): its place in instruction memory, its image's header, bounds and initial
window, whether it is disabled (R322) or waits to be rewritten (R323), and the core clocks at which the watchdog
ended runs of it, newest first. -/
structure Prog where
  num : Nat
  kind : Nat
  base : Nat
  n : Nat
  data : Nat
  budgets : List Nat
  offsets : List Nat
  bounds : List Nat
  code : List Word
  init : List Word
  disabled : Bool
  broken : Bool
  ends : List Nat
  /-- Of a disabled rate-control program: channels bound to it and the frame in progress then (R322). -/
  offAt : List (Nat × Nat) := []
  deriving DecidableEq, Repr, Inhabited

/-- The data window of a binding (R312): the binding's number, its program, its words. -/
structure Window where
  bind : Nat
  num : Nat
  words : List Word
  deriving DecidableEq, Repr, Inhabited

/-- A loop that runs (R315): first instruction, the address after its body, iterations left with the present one,
and the depth of calls at which it was entered. -/
structure LoopRec where
  first : Nat
  stop : Nat
  left : Nat
  depth : Nat
  deriving DecidableEq, Repr, Inhabited

/-- A WAIT in progress (R326): mask, destination, core clock of its entry, timeout in cycles. -/
structure WaitRec where
  mask : Nat
  rd : Nat
  since : Nat
  timeout : Nat
  deriving DecidableEq, Repr, Inhabited

/-- A run (R319): its program, whether that is a built-in one, its binding (channel, stream or event slot), phase,
frame and row; the sequencer's pc, registers, return addresses and loops; the core clock at which its next
instruction starts, and the cycles that it has used. `start` is the number of the start record of a Dispatch task. -/
structure Run where
  num : Nat
  builtin : Bool
  bind : Nat
  phase : Nat
  frame : Nat
  row : Nat
  start : Option Nat
  fire : Nat
  budget : Nat
  pc : Nat
  regs : List Word
  calls : List Nat
  loops : List LoopRec
  began : Nat
  next : Nat
  cycles : Nat
  wait : Option WaitRec
  evtSent : Bool
  faultSent : Bool
  deriving DecidableEq, Repr, Inhabited

/-- A dipper. -/
structure Dip where
  imem : List (Nat × Word) := []
  progs : List Prog := []
  windows : List Window := []
  run : Option Run := none
  /-- Core clock at which the last run ended. -/
  ended : Nat := 0
  runs : Word := 0
  watchdogs : Nat := 0
  /-- Runs of the last second, newest first: begin and end in core clocks. -/
  busy : List (Nat × Nat) := []
  /-- Device time latched by a read of NOW_NS (R325). -/
  latch : Nat := 0
  /-- Rate-control ports STREAM, TASK, SRAM_ADDR, and report words written: stream index, words. -/
  stream : Nat := 0
  task : Nat := 0
  sramAddr : Nat := 0
  report : List (Nat × List Word) := []
  /-- Hook ports HK_EXT0 to HK_EXT3 and HK_EXT_LEN. -/
  ext : List Word := [0, 0, 0, 0]
  extLen : Nat := 0
  /-- The start whose row a packaging dipper packs now, with its hook words. -/
  packing : Option (Nat × List Word) := none
  /-- Core clock at which the built-in packaging program began with that row. -/
  packFrom : Nat := 0
  deriving DecidableEq, Repr, Inhabited

/-- A start record of a dipper-class task (R268, R319, R329): the dipper, work type, binding, phase, frame, row. -/
structure Start where
  id : Nat
  dip : Nat
  type : Nat
  bind : Nat
  phase : Nat
  frame : Nat
  row : Nat
  deriving DecidableEq, Repr, Inhabited

/-- A DIP_LOAD that runs (R331): dipper, program number, image words, core clock of its acceptance. -/
structure Load where
  dip : Nat
  num : Nat
  words : Nat
  clk : Nat
  deriving DecidableEq, Repr, Inhabited

/-- The dippers. -/
structure DipSt where
  /-- DP0 to DP7: instruction memory (1,024 x 32), programs, data windows (2 KiB), run with its sixteen registers, pc, call and loop stacks, WAIT, cycle count; latches and port registers; counters of DIP_QUERY | 8 records | 10_dipper.md R311 to R313, R319 to R329 | idle, no user program; an unwritten instruction word reads 0 and the port registers are 0 (DESIGN CHOICE 2) -/
  dips : List Dip := List.replicate 8 {}
  /-- Rotating pointers of DP0 to DP3 over channels | 4 x 4 | 08_rate_control.md R268, 01_architecture.md R37 | 0 (R37) -/
  startPtr : List Nat := [0, 0, 0, 0]
  /-- Time-base ports of DP6: TL_SEL | 4 | 10_dipper.md R327 | DESIGN CHOICE 2: 0 -/
  tlSel : Nat := 0
  /-- EVT_ARG0 to EVT_ARG7 | 8 x 32 | 10_dipper.md R327 | DESIGN CHOICE 2: 0 -/
  args : List Word := List.replicate 8 0
  /-- EVT_RESULT | 32 | 10_dipper.md R327 | DESIGN CHOICE 2: 0 -/
  result : Word := 0
  /-- An edge was accepted on the timeline of TL_SEL since the run began (DP6's flag 0, R326): raw time of the last edge seen | time | 10_dipper.md R326 | none -/
  edgeSeen : Option Nat := none
  /-- Start records of dipper-class tasks | list | 10_dipper.md R319 | empty -/
  starts : List Start := []
  /-- Number of the next start record | count | model's own key | 0 -/
  nextStart : Nat := 0
  /-- Staging buffer in management SRAM: word index, word | 1,542 x 32 | 10_dipper.md R330 | empty; an unwritten word reads 0 (DESIGN CHOICE 2) -/
  staging : List (Nat × Word) := []
  /-- DIP_LOAD in progress | record | 10_dipper.md R331, R333 | none -/
  load : Option Load := none
  /-- Hooks of streams, newest first: stream, first frame for which the setting holds, program or none | list | 10_dipper.md R333 DIP_HOOK | empty -/
  hooks : List (Nat × Nat × Option Nat) := []
  /-- Built-in programs that Vehitrix must rewrite: dipper, program | list | 10_dipper.md R321, R323 | empty -/
  builtinBroken : List (Nat × Nat) := []
  /-- Programs to be rewritten: dipper, program, core clock by which | list | 10_dipper.md R323 | empty -/
  reloads : List (Nat × Nat × Nat) := []
  deriving DecidableEq, Repr, Inhabited

end Sys2Proof.Machine
end

