-- ==== Sys2Proof/Machine/StDispatch.lean ====
section
/-!
DEFINITION. State of Dispatch: pool, wells, flows, delay lists, units, trace (chapter 09 of spec/).
-/
namespace Sys2Proof.Machine

/-- A task descriptor (R282) with what it carries for its consumer: the number of the record of its TYPE, or a
pump record. `dl` is the deadline as a device time. -/
structure Desc where
  type : Nat
  cls : Nat
  prio : Nat
  flow : Nat
  flowed : Bool
  pin : Bool
  unit : Nat
  payload : Nat
  dl : Option Nat
  cookie : Nat
  pump : Option PumpRec
  deriving DecidableEq, Repr, Inhabited

/-- A pool entry (R285 to R297). `st`: 0 in its ready list, 1 in service, 2 complete and unreleased. `key` orders
entries by acceptance; `ready` is the core clock from which it may be eligible. -/
structure Ent where
  idx : Nat
  gen : Nat
  key : Nat
  desc : Desc
  producer : Nat
  host : Option Nat
  st : Nat
  unit : Nat
  start : Nat
  ready : Nat
  passed : Bool
  timed : Bool
  /-- Delay-list entry through which it came (a handle goes on naming it). -/
  delayIdx : Option Nat
  deriving DecidableEq, Repr, Inhabited

/-- A delay-list entry (R298, R299). -/
structure DelayEnt where
  list : Nat
  idx : Nat
  gen : Nat
  key : Nat
  r : Nat
  desc : Desc
  host : Option Nat
  blocked : Bool
  /-- It has been released and only its handle is held. -/
  gone : Bool
  deriving DecidableEq, Repr, Inhabited

/-- A flow (R294 to R297); `since` is the core clock from which its next
task may be eligible, `ghosts` the order numbers of tasks with a reserve path (R302). -/
structure Flow where
  cls : Nat
  ordered : Bool
  window : Nat
  host : Bool
  done : Word
  since : Nat
  ghosts : List Nat
  deriving DecidableEq, Repr, Inhabited

/-- A unit of Dispatch by its global index (R287, R306). -/
structure UnitSt where
  enabled : Bool := false
  holds : Option Nat := none
  tasks : Word := 0
  hist : List Nat := List.replicate 16 0
  /-- Busy intervals that a load window may still count, newest first, in core clocks. -/
  busy : List (Nat × Nat) := []
  deriving DecidableEq, Repr, Inhabited

/-- A task that a hardware producer keeps and submits again (R292). -/
structure Held where
  producer : Nat
  desc : Desc
  delayKey : Option Nat
  deriving DecidableEq, Repr, Inhabited

/-- Dispatch. -/
structure DsSt where
  /-- Pool entries in use, DS_POOL.USED, DS_LIST.DEPTH | 4,096 entries | 09_dispatch.md R285 | empty -/
  pool : List Ent := []
  /-- Generations of the pool entries used so far: entry, generation | 4,096 x 3 | 09_dispatch.md Cancel and withdrawal | DESIGN CHOICE 2: 0 -/
  gens : List (Nat × Nat) := []
  /-- Order number of the next acceptance | count | 09_dispatch.md R286 | 0 -/
  next : Nat := 0
  /-- Well capacities of the 32 ready lists, index 8 x class + priority (DS_LIST.CAPACITY) | 32 x 13 | 09_dispatch.md R290 | 128 -/
  caps : List Nat := List.replicate 32 128
  /-- Flows allocated: flow ID, record | 1,024 flows | 09_dispatch.md R294 | empty -/
  flows : List (Nat × Flow) := []
  /-- Delay-list entries | 4 x 1,024 | 09_dispatch.md R298 | empty -/
  delays : List DelayEnt := []
  /-- Generations of delay-list entries: 1,024 x list + entry, generation | 4,096 x 3 | 09_dispatch.md Cancel and withdrawal | DESIGN CHOICE 2: 0 -/
  delayGens : List (Nat × Nat) := []
  /-- Ticks of DL0 to DL3 in units of 100 ns (DS_DELAY.TICK) | 4 x 10 | 09_dispatch.md R298 | 10 -/
  ticks : List Nat := List.replicate 4 10
  /-- Units by global index (DS_UNIT_STATE, DS_UNIT_LOAD, DS_UNIT_TASKS, DS_UNIT_HIST) | 42 records | 09_dispatch.md R287, R306 | not busy, not enabled, 0 -/
  units : List UnitSt := List.replicate 42 {}
  /-- Class pointers of R288 | 4 numbers | 09_dispatch.md R288 | 0 (R37) -/
  ptrs : List Nat := List.replicate 4 0
  /-- Tasks that hardware producers keep after a refusal | list | 09_dispatch.md R292 | empty -/
  held : List Held := []
  /-- Runs of refusals in progress: producer, list | list | 09_dispatch.md R292 | empty -/
  runs : List (Nat × Nat) := []
  /-- Core clock of the newest acceptance and the acceptances in it | 2 numbers | 09_dispatch.md R289 | 0 -/
  accepts : Nat × Nat := (0, 0)
  /-- Rotating pointer over producers | 5 | 09_dispatch.md R286, R289 | 0 (R37) -/
  prodPtr : Nat := 0
  /-- DS_CTRL.WINDOW | 4 | 09_dispatch.md DS_ registers | 7 -/
  window : Nat := 7
  /-- DS_POOL.HIGH | 13 | 09_dispatch.md DS_ registers | 0 -/
  high : Nat := 0
  /-- DS_THRESH.POOL_HIT | 1 | 09_dispatch.md R307 | 0 -/
  poolHit : Bool := false
  /-- DS_THRESH.POOL_LEVEL | 13 | 09_dispatch.md DS_ registers | 0 -/
  poolLevel : Nat := 0
  /-- DS_THRESH.LIST_LEVEL | 13 | 09_dispatch.md DS_ registers | 0 -/
  listLevel : Nat := 0
  /-- DS_THRESH_LIST.HIT | 32 | 09_dispatch.md R307 | 0 -/
  listHit : Word := 0
  /-- Threshold conditions that hold since they last hit: pool, lists, trace (R307) | 34 | 09_dispatch.md R307 | none -/
  poolOver : Bool := false
  /-- Lists at or above LIST_LEVEL since they last hit | 32 | 09_dispatch.md R307 | 0 -/
  listOver : Word := 0
  /-- Unread trace records at or above LEVEL since vector 24 last fired | 1 | 09_dispatch.md R307 | false -/
  traceOver : Bool := false
  /-- DS_TRACE_CTRL.KIND_MASK | 16 | 09_dispatch.md R308 | 0xFFFF -/
  kindMask : Nat := 0xFFFF
  /-- DS_TRACE_CTRL.MODE: STOP | 1 | 09_dispatch.md R308 | 0 -/
  traceStop : Bool := false
  /-- DS_TRACE_CTRL.ENABLE | 1 | 09_dispatch.md R308 | 0 -/
  traceOn : Bool := false
  /-- DS_TRACE_WR | 16 | 09_dispatch.md DS_ registers | 0 -/
  traceWr : BitVec 16 := 0
  /-- DS_TRACE_RD | 16 | 09_dispatch.md DS_ registers | 0 -/
  traceRd : BitVec 16 := 0
  /-- DS_TRACE_THRESH.LEVEL | 14 | 09_dispatch.md DS_ registers | 0 -/
  traceLevel : Nat := 0
  /-- DS_TRACE_LOST | 16 | 09_dispatch.md DS_ registers | 0 -/
  traceLost : Nat := 0
  /-- A run of trace losses is in progress | 1 | 09_dispatch.md R308 | false -/
  lostRun : Bool := false
  /-- Device time of the last SYNC record | time | 09_dispatch.md R308 | 0 -/
  syncT : Nat := 0
  /-- Trace ring: slot, 64-bit record | 8,192 x 64 | 09_dispatch.md R308 | empty; an unwritten record reads 0 (DESIGN CHOICE 2) -/
  trace : List (Nat × Nat) := []
  /-- DS_REFUSED | 16 | 09_dispatch.md DS_ registers | 0 -/
  refused : Nat := 0
  deriving DecidableEq, Repr, Inhabited

end Sys2Proof.Machine
end

