-- ==== Sys2Proof/Machine/StFault.lean ====
section
/-!
DEFINITION. State of the fault hub and of the check-value units (chapter 18 of spec/).
-/
namespace Sys2Proof.Machine

/-- A report on its way to, or held in, the fault hub (R17, R527). `clk` is the core clock of detection, `t`
the device time at the source. -/
structure Report where
  cls : Nat
  code : Nat
  data : Nat
  chan : Nat
  t : Nat
  clk : Nat
  injected : Bool
  injectId : Nat
  deriving DecidableEq, Repr, Inhabited

/-- A log entry (R534), with the core clock in which it was logged (R530). -/
structure LogEnt where
  cls : Nat
  code : Nat
  data : Nat
  chan : Nat
  t : Nat
  sev : Nat
  conf : Nat
  injected : Bool
  count : Nat
  clk : Nat
  deriving DecidableEq, Repr, Inhabited

/-- The fault that put a channel or the module into a safe state (R532): class, code, data, channel of the
fault and its log count. -/
structure SafeEntry where
  cls : Nat
  code : Nat
  data : Nat
  chan : Nat
  count : Nat
  deriving DecidableEq, Repr, Inhabited

/-- A cause present (R530 "Clearing"): class, code, DATA and channel of its fault. -/
structure Cause where
  cls : Nat
  code : Nat
  data : Nat
  chan : Nat
  deriving DecidableEq, Repr, Inhabited

/-- The fault hub. -/
structure FltSt where
  /-- Configured severities that differ from the default: class x 256 + code, severity | 3 each | 18_faults_and_checks.md R522 | the defaults (empty list) -/
  sevs : List (Nat × Nat) := []
  /-- Reports that the hub holds, in order of arrival | list | 18_faults_and_checks.md R527 | empty -/
  reports : List Report := []
  /-- Log slots written: slot, entry | 256 x 4 x 32 | 18_faults_and_checks.md R534 | empty; an unwritten slot reads zero (DESIGN CHOICE 2) -/
  log : List (Nat × LogEnt) := []
  /-- FH_LOG_WR.COUNT | 16 | 18_faults_and_checks.md FH_ registers | 0 -/
  logCount : BitVec 16 := 0
  /-- FH_FIRST.VALID | 1 | 18_faults_and_checks.md R528 | 0 -/
  firstValid : Bool := false
  /-- FH_FIRST CLASS, CODE, SEVERITY, FH_FIRST_IDX, FH_FIRST_NS, FH_FIRST_SEC: the entry captured | 16+8+16+64 | 18_faults_and_checks.md R528 | 0 -/
  first : Option LogEnt := none
  /-- Unacknowledged entries of logged severity MINOR or above (FH_UNACK, MAX_UNACK) | list | 18_faults_and_checks.md R529, R530 | empty -/
  unack : List LogEnt := []
  /-- FH_STATUS | 32 | 18_faults_and_checks.md R531 | 0 -/
  status : Word := 0
  /-- Causes present (FH_CAUSE) | list | 18_faults_and_checks.md R530, R531 | empty -/
  causes : List Cause := []
  /-- FH_CTRL.ERR_HOLD | 1 | 18_faults_and_checks.md R533 | 0 -/
  errHold : Bool := false
  /-- FH_CTRL.ERR_WIDTH, microseconds | 10 | 18_faults_and_checks.md R533 | 10 -/
  errWidth : Nat := 10
  /-- Core clock at which the ERR_N pulse ends | clock | 18_faults_and_checks.md R533 | none -/
  pulseEnd : Option Nat := none
  /-- ERR_N asserted (ERR_STATE) | 1 | 18_faults_and_checks.md R533 | false -/
  errN : Bool := false
  /-- Channels in safe output and the fault that put them there (FH_SUMMARY.CH_SAFE) | 16 | 18_faults_and_checks.md R524, R532 | empty -/
  chSafe : List (Nat × SafeEntry) := []
  /-- Channels that leave safe output at a frame boundary: channel, frame | list | 18_faults_and_checks.md R532 | empty -/
  chLeave : List (Nat × Nat) := []
  /-- Module safe state and the fault that caused it (GLB_STATE.SAFE) | 1 | 18_faults_and_checks.md R525 | none -/
  safe : Option SafeEntry := none
  /-- Injected faults whose entry is not logged yet: number, remote requester, tag | list | 18_faults_and_checks.md R545 | empty -/
  injectors : List (Nat × Option Nat × Word) := []
  /-- Number of the next injected fault | count | 18_faults_and_checks.md R545 | 0 (DESIGN CHOICE 2) -/
  injectNext : Nat := 0
  /-- Device time of the last MEMORY:0x01 and 0x04 of each device: code x 8 + device, second | list | 18_faults_and_checks.md R537, R538 | empty -/
  memSeen : List (Nat × Nat) := []
  deriving DecidableEq, Repr, Inhabited

/-- A check-value unit context record (table "CVU context record"); `hostOwn` tells who allocated it (R542). -/
structure Ctx where
  alg : Nat := 0
  mode : Nat := 0
  alive : Nat := 0
  aliveHigh : Bool := false
  allocated : Bool := false
  hostOwn : Bool := false
  offset : Nat := 0
  start : Nat := 0
  running : Word := 0
  lastResult : Nat := 0
  aliveValid : Bool := false
  aliveLast : Nat := 0
  aliveNext : Nat := 0
  units : Word := 0
  crcFails : Nat := 0
  repeats : Nat := 0
  gaps : Nat := 0
  lastValue : Word := 0
  deriving DecidableEq, Repr, Inhabited

/-- A context of the module's own users: CHECK of CRC-32C with an 8-bit alive counter (R128, R470, R497, R539). -/
def Ctx.own (mode : Nat) : Ctx := { alg := 0, mode := mode, alive := 2, allocated := true, offset := 1 }

/-- The check-value units. -/
structure CvuSt where
  /-- Contexts by CVU x 64 + context | 8 x 64 x 8 x 32 | 18_faults_and_checks.md R542 | R542: the module's own contexts allocated, at the places DESIGN CHOICE 6 names, but those of the wellhead inputs, which IN_CONFIG assigns (R128); the rest free and zero -/
  ctxs : List (Nat × Ctx) :=
    [(8, Ctx.own 1), (9, Ctx.own 2)]
      ++ (List.range 8).map (fun i => (10 + i, { Ctx.own (if i % 2 = 0 then 1 else 2) with offset := 6, start := 16 }))
  /-- Rotating pointer of each CVU over its users | 8 numbers | 18_faults_and_checks.md R543, 01_architecture.md R37 | 0 -/
  ptrs : List Nat := List.replicate 8 0
  deriving DecidableEq, Repr, Inhabited

end Sys2Proof.Machine
end

