-- ==== Sys2Proof/Machine/StHost.lean ====
section
/-!
DEFINITION. State of the host interface: identification registers that can change, rings, interrupts,
commits and Vehitrix's command queues (chapter 02 of spec/).
-/
namespace Sys2Proof.Machine

/-- An event as Vehitrix generates it: channel (0xFF none), code, device time of the happening, sequence
number, vector and DATA words 4 to 7 (table "Event slot"). -/
structure Ev where
  chan : Nat
  code : Nat
  t : Nat
  seq : BitVec 16
  vec : Nat
  data : List Word
  deriving DecidableEq, Repr, Inhabited

/-- One answer in the order of the commands (R55): finished with its response words, or still awaited from a
remote module (R63) or from the fault hub (R545). -/
inductive Answer where
  | done (words : List Word)
  | remote (id : Nat)
  | inject (id : Nat)
  deriving DecidableEq, Repr, Inhabited

/-- A command that was answered ACCEPTED and has not completed: its opcode and tag, and a key that names the
work (R65). -/
structure Running where
  op : Nat
  tag : Word
  key : Nat
  deriving DecidableEq, Repr, Inhabited

/-- A command forwarded to another module (R63). -/
structure RemoteCmd where
  id : Nat
  dest : Nat
  cmd : Cmd
  since : Nat
  deriving DecidableEq, Repr, Inhabited

/-- An armed commit set (R72 to R77): kind 0 ROW, 1 FRAME, 2 TIME. `from` is the earliest device time of a
ROW or FRAME boundary, `due` the boundary once known. -/
structure CommitSet where
  id : Nat
  kind : Nat
  chan : Nat
  earliest : Nat
  due : Nat
  loaded : Bool
  /-- Frame and row whose start is the boundary of a ROW or FRAME set. -/
  frame : Nat
  row : Nat
  cmds : List Cmd
  deriving DecidableEq, Repr, Inhabited

/-- What COMMIT_STATUS shows of an ID after its set: 4 applied, 5 failed, 0 withdrawn or discarded, with the
boundary's device time (R75). -/
structure SetEnd where
  st : Nat
  due : Nat
  deriving DecidableEq, Repr, Inhabited

/-- A BAR2 access that its pump task has still to serve (R48): number, write, GDDR6 address, bytes, data. -/
structure Bar2 where
  id : Nat
  write : Bool
  addr : Nat
  size : Nat
  value : Nat
  deriving DecidableEq, Repr, Inhabited

/-- The host interface. -/
structure HostSt where
  /-- GLB_SCRATCH0 | 32 | 02_host_interface.md table GLB_, R8 | 0 -/
  scratch0 : Word := 0
  /-- GLB_SCRATCH1, survives every reset | 32 | 02_host_interface.md table GLB_, R8 | 0 -/
  scratch1 : Word := 0
  /-- GLB_APERTURE.BASE | 14 | 02_host_interface.md R47 | 0 -/
  aperture : BitVec 14 := 0
  /-- GLB_STATE.FW_READY | 1 | 02_host_interface.md R56 | 0 -/
  fwReady : Bool := false
  /-- GLB_STATE.MP_RESTARTS, saturating at 15 | 4 | 02_host_interface.md table GLB_ | 0 -/
  mpRestarts : Nat := 0
  /-- DB_CMD_TAIL | 16 | 02_host_interface.md R50 | 0 -/
  cmdTail : BitVec 16 := 0
  /-- DB_CMD_HEAD | 16 | 02_host_interface.md R50 | 0 -/
  cmdHead : BitVec 16 := 0
  /-- DB_RSP_TAIL | 16 | 02_host_interface.md R50 | 0 -/
  rspTail : BitVec 16 := 0
  /-- DB_RSP_HEAD | 16 | 02_host_interface.md R50 | 0 -/
  rspHead : BitVec 16 := 0
  /-- DB_EVT_TAIL | 16 | 02_host_interface.md R50 | 0 -/
  evtTail : BitVec 16 := 0
  /-- DB_EVT_HEAD | 16 | 02_host_interface.md R50 | 0 -/
  evtHead : BitVec 16 := 0
  /-- DB_STATUS bits 3:0 EVT_LOST, EVT_BAD, RSP_BAD, CMD_BAD | 4 | 02_host_interface.md R52, R58 | 0 -/
  dbStatus : BitVec 4 := 0
  /-- DB_EVT_LOST.COUNT, saturating | 16 | 02_host_interface.md R58 | 0 -/
  evtLost : Nat := 0
  /-- IRQ_STATUS | 32 | 02_host_interface.md R59 | 0 -/
  irqStatus : Word := 0
  /-- IRQ_MASK | 32 | 02_host_interface.md R59 | 0xFFFFFFFF -/
  irqMask : Word := 0xFFFFFFFF
  /-- IRQ_EVT_COALESCE.HOLDOFF, microseconds | 16 | 02_host_interface.md R61 | 0 -/
  coHoldoff : Nat := 0
  /-- IRQ_EVT_COALESCE.COUNT | 8 | 02_host_interface.md R61 | 0 -/
  coCount : Nat := 0
  /-- Bits whose message has been sent for the condition that holds | 32 | 02_host_interface.md R59 | 0 -/
  irqSent : Word := 0
  /-- Core clock at which each vector's cause last fired, for a clear in the same clock | list | 02_host_interface.md R60 | empty -/
  irqFired : List (Nat × Nat) := []
  /-- Pending coalesced events: vector and ring counter | list | 02_host_interface.md R61 | empty -/
  coPend : List (Nat × BitVec 16) := []
  /-- Core clock at which the hold-off expires | clock | 02_host_interface.md R61 | none -/
  coDue : Option Nat := none
  /-- MSI-X table, 32 vectors of 4 words; vector control masked | 128 x 32 | 02_host_interface.md R42, DB_ and IRQ_ block | DESIGN CHOICE 5: zero address and data, mask bit 1 (PCIe) -/
  msix : List Word := (List.replicate 32 [(0 : Word), 0, 0, 1]).flatten
  /-- MSI-X pending-bit array | 32 | 02_host_interface.md R59, DB_ and IRQ_ block | 0 -/
  pba : Word := 0
  /-- MSI-X Enable and Function Mask of configuration space | 1 + 1 | 02_host_interface.md R42, R59 | DESIGN CHOICE 5: enabled, not masked -/
  msixOn : Bool := true
  msixFm : Bool := false
  /-- Base addresses that configuration software gave BAR0 and BAR2 | 64 + 64 | 02_host_interface.md R42, R43 | DESIGN CHOICE 5: 0 -/
  bar0Base : BitVec 64 := 0
  bar2Base : BitVec 64 := 0
  /-- Event sequence number of the next event | 16 | 02_host_interface.md R69 table Event slot | 0 (DESIGN CHOICE 2) -/
  seq : BitVec 16 := 0
  /-- Backlog of held events, at most 1,024 | list | 02_host_interface.md R57 | empty -/
  backlog : List Ev := []
  /-- Events lost since the previous EVT_LOST event was placed | count | 02_host_interface.md R58 | 0 -/
  lostRun : Nat := 0
  /-- HOST:0x03 raised for the present run of drops | 1 | 02_host_interface.md R58 | false -/
  lostRaised : Bool := false
  /-- Event filter, one bit per opcode group | 17 | 02_host_interface.md R81 | all ones (R81) -/
  filter : BitVec 17 := 0x1FFFF
  /-- Answers of Vehitrix not yet in the response ring, oldest first | list | 02_host_interface.md R54, R55 | empty -/
  answers : List Answer := []
  /-- Command that waits on its FENCE | command | 02_host_interface.md R67 | none -/
  fenced : Option Cmd := none
  /-- Commands of other modules that wait on their FENCE: source, tag of the frame, command | list | 02_host_interface.md R67; 17_cluster.md R507 | empty -/
  waiting : List (Nat × Word × Cmd) := []
  /-- Commands answered ACCEPTED that run | list | 02_host_interface.md R65 | empty -/
  running : List Running := []
  /-- Commands forwarded to remote modules that wait for a response | list | 02_host_interface.md R63 | empty -/
  remotes : List RemoteCmd := []
  /-- Number of the next forwarded command | count | 02_host_interface.md R63 | 0 (DESIGN CHOICE 2) -/
  remoteNext : Nat := 0
  /-- The open commit set: its ID | 8 | 02_host_interface.md R72 | none -/
  openId : Option Nat := none
  /-- Commands staged in the open set, at most 256 | list | 02_host_interface.md R72 | empty -/
  openCmds : List Cmd := []
  /-- Armed sets in arming order, at most 16 | list | 02_host_interface.md R72 | empty -/
  armed : List CommitSet := []
  /-- Next commit ID to try | 8 | 02_host_interface.md R72 | 1 -/
  nextId : Nat := 1
  /-- End of the last set of each ID assigned since the last restart | list | 02_host_interface.md R75 | empty -/
  ended : List (Nat × SetEnd) := []
  /-- Commit IDs discarded at the last restart | list | 02_host_interface.md table System opcodes GET_RESTART_REPORT | empty -/
  report : List Nat := []
  /-- A management processor restart runs and FW_READY returns with it: cause 1, 2 or 3, sets discarded, sets kept | 3 numbers | 02_host_interface.md R49, R78 | none -/
  restart : Option (Nat × Nat × Nat) := none
  /-- PCIe link up with its data link layer active | 1 | 02_host_interface.md R78 | DESIGN CHOICE 2: false -/
  linkUp : Bool := false
  /-- PERST_N asserted | 1 | 19_power_and_bringup.md R556 | DESIGN CHOICE 2: false -/
  perst : Bool := false
  /-- SPDM connection state: last completed step (0 none, 1 version, 2 capabilities, 3 algorithms) | 2 | 02_host_interface.md R83, R84 | 0 -/
  spdmStep : Nat := 0
  /-- DOE request in progress | 1 | 02_host_interface.md R82 | false -/
  doeBusy : Bool := false
  /-- BAR2 accesses that wait for their HOST_BAR2 pump task, number of the next one | list, count | 02_host_interface.md R48 | empty, 0 (DESIGN CHOICE 2) -/
  bar2 : List Bar2 := []
  bar2Next : Nat := 0
  /-- A commit set is being applied or tried: admission was judged for the set as a whole (R73) and is not judged again for each command | 1 | the model's own | false -/
  lenient : Bool := false
  /-- A command is tried for the open set: the sums of R28, R154 and R335 are judged when the set is armed (R73) | 1 | the model's own | false -/
  staging : Bool := false
  deriving DecidableEq, Repr, Inhabited

end Sys2Proof.Machine
end

