-- ==== Sys2Proof/Machine/StLane.lean ====
section
/-!
DEFINITION. State of the serial lanes (chapter 15 of spec/).
-/
namespace Sys2Proof.Machine

/-- A lane (R446 to R463). `st`: 0 OFF, 1 WAIT_SIGNAL, 2 TRAINING, 3 LOCKED, 4 IDLE, 5 EXITING, 6 LOS. -/
structure Lane where
  st : Nat := 0
  /-- Signal present at the receiver; locked at least once since it was enabled. -/
  signal : Bool := false
  locked : Bool := false
  test : Nat := 0
  idleOk : Bool := false
  txInvert : Bool := false
  rxInvert : Bool := false
  pre : Nat := 0
  post : Nat := 0
  /-- Adaptation frozen, with the CTLE setting and DFE taps held. -/
  frozen : Bool := false
  ctle : Nat := 0
  dfe : List Nat := [0, 0, 0, 0, 0]
  /-- Transmitter in electrical idle. -/
  txIdle : Bool := false
  /-- Core clocks of the signal present of the training, and of the first edge of a fast exit. -/
  trainFrom : Nat := 0
  exitFrom : Nat := 0
  failed : Bool := false
  los : Word := 0
  lol : Word := 0
  prbs : Nat := 0
  deriving DecidableEq, Repr, Inhabited

/-- The lanes. -/
structure LaneSt where
  /-- L00 to L33: state, signal, LANE_CONFIG, taps, adaptation, training, counters | 34 records | 15_serial_lanes.md R446 to R464 | OFF; PRE 0, POST 0 (R448; of the PCIe lanes DESIGN CHOICE 2); IDLE_OK clear (R455); the rest DESIGN CHOICE 2: 0 -/
  lanes : List Lane := List.replicate 34 {}
  deriving DecidableEq, Repr, Inhabited

end Sys2Proof.Machine
end

