-- ==== Sys2Proof/Machine/StPackage.lean ====
section
/-!
DEFINITION. State of stream packaging (chapter 13 of spec/).
-/
namespace Sys2Proof.Machine

/-- A network packet on its way to a port (R385 to R403, R418): port and queue, stream (0 to 31 video, 32 to 39
audio, 255 other), RTP sequence number, timestamp and marker, bytes of the frame, release time, the frame and row
it belongs to, its header extension, and the parts it carries: unit kind, index, bytes. `pcr` is the TS packet of the frame
into which the port writes a PCR, and `pcrVal` what it wrote (R400, R435). `head` is the frame up to its RTP payload but for the
extension `ext` (R390); `data` the payload where the model holds its bytes: an ST 2110-30 packet's samples (R395), or the two
status bytes that a PES packet's first TS packet carries (R397); `pts` the PTS of the PES packet that begins in it (R399). -/
structure Packet where
  port : Nat
  queue : Nat
  stream : Nat
  seq : Nat
  ts : Nat
  marker : Bool
  size : Nat
  release : Nat
  frame : Nat
  row : Nat
  ext : List Byte
  parts : List (Nat × Nat × Nat)
  pcr : Option Nat
  pcrVal : Option Nat := none
  head : List Byte := []
  data : List Byte := []
  pts : Option Nat := none
  deriving DecidableEq, Repr, Inhabited

/-- PKG_TEMPLATE as its fourteen payload words (R390). -/
structure Template where
  words : List Word
  deriving DecidableEq, Repr, Inhabited

/-- Packaging of a video stream (R382 to R408). -/
structure PkgV where
  set : Bool := false
  tcId : Nat := 0
  hookId : Nat := 0
  pt : Nat := 0
  csum : Bool := false
  extended : Bool := false
  dual : Bool := false
  format : Nat := 0
  ssrc : Word := 0
  seq0 : Nat := 0
  maxUdp : Nat := 1460
  tcOffset : Int := 0
  pmtPid : Nat := 0
  videoPid : Nat := 0
  program : Nat := 0
  ptsOffset : Nat := 0
  /-- PTS_OFFSET was given as 0: the minimum is chosen (R399). -/
  ptsAuto : Bool := false
  /-- Audio streams of the program: stream, PID. -/
  audio : List (Nat × Nat) := []
  tmpl : List (Option Template) := [none, none]
  dipper : Option Nat := none
  seq : Nat := 0
  /-- TS continuity counters by PID, and device times of the last PAT and PMT and of the last PCR. -/
  cc : List (Nat × Nat) := []
  psiAt : Option Nat := none
  pcrAt : Option Nat := none
  sent : Word := 0
  late : Word := 0
  resent : Word := 0
  /-- Late packets of the frame in progress: frame, count, largest lateness in ns. -/
  lateFrame : Option (Nat × Nat × Nat) := none
  /-- Sequence number of the last released packet (R405). -/
  released : Option Nat := none
  deriving DecidableEq, Repr, Inhabited

/-- An audio stream (R395 to R401). -/
structure PkgA where
  on : Bool := false
  pt : Nat := 0
  statusId : Nat := 0
  ts : Bool := false
  dual : Bool := false
  l24 : Bool := false
  ptime : Nat := 0
  channels : Nat := 1
  first : Nat := 0
  port : Nat := 0
  ssrc : Word := 0
  delay : Nat := 0
  seq0 : Nat := 0
  maxUdp : Nat := 1460
  tmpl : List (Option Template) := [none, none]
  dipper : Option Nat := none
  seq : Nat := 0
  /-- Media frame index of the next packet. -/
  next : Option Nat := none
  sent : Word := 0
  late : Word := 0
  resent : Word := 0
  released : Option Nat := none
  deriving DecidableEq, Repr, Inhabited

/-- Packaging. -/
structure PkgSt where
  /-- Packaging of video streams 0 to 31: PKG_STREAM, templates, dipper, next sequence number, TS counters and timers, counters | 32 records | 13_stream_packaging.md R382 to R405 | not configured; MAX_UDP 1,460 (R386); the rest DESIGN CHOICE 2: 0 -/
  video : List PkgV := List.replicate 32 {}
  /-- Audio streams AS0 to AS7 | 8 records | 13_stream_packaging.md R395 to R401 | off; DESIGN CHOICE 2: 0 -/
  audio : List PkgA := List.replicate 8 {}
  deriving DecidableEq, Repr, Inhabited

end Sys2Proof.Machine
end

