-- ==== Sys2Proof/Machine/StNet.lean ====
section
/-!
DEFINITION. State of the network ports: transmit queues, shapers, gate lists, policers, ingress counters, and the PTP
clock (chapter 14 of spec/).
-/
namespace Sys2Proof.Machine

/-- What a queued frame is: a media packet, a PTP message (type, sequence number, and the request it answers), a
Skovlink frame as its bytes, a reply of Vehitrix (kind and target), a trickle packet (RTP timestamp, sequence number). -/
inductive Content where
  | media (p : Packet)
  | ptp (type seq : Nat) (args : List Nat)
  | skov (bytes : List Byte)
  | reply (kind : Nat) (target : List Word)
  | trickle (ts seq : Nat)
  deriving DecidableEq, Repr, Inhabited

/-- A frame in a transmit queue (R416, R418): bytes from the destination address through the FCS, release time, paced
time, order of entry; `late` that packaging completed it after its release (R419), `held`
that it was found too long for its gate's open run (R426). -/
structure QFrame where
  len : Nat
  release : Nat
  paced : Nat := 0
  late : Bool := false
  held : Bool := false
  content : Content
  deriving DecidableEq, Repr, Inhabited

/-- A transmit queue. Rates are in kbit/s; bucket levels are in twelve-millionths of a byte, so that a rate of 1 kbit/s
adds 1 in each core clock; that of a disabled bucket, which every frame passes and pays, may fall below 0 (R418, R420). `since` is the core clock up to which the buckets have been filled. -/
structure Queue where
  tc : Nat := 0
  virt : Bool := false
  cir : Nat := 0
  cbs : Nat := 0
  pir : Nat := 0
  pbs : Nat := 0
  cLevel : Int := 0
  pLevel : Int := 0
  since : Nat := 0
  frames : List QFrame := []
  sent : Word := 0
  slipping : Bool := false
  deriving DecidableEq, Repr, Inhabited

/-- A policer (R414), levels as those of a queue; drops counted; device second of the last NET:0x03. -/
structure Policer where
  rate : Nat := 0
  burst : Nat := 0
  level : Nat := 0
  since : Nat := 0
  drops : Nat := 0
  raised : Option Nat := none
  deriving DecidableEq, Repr, Inhabited

/-- A gate list in operation or scheduled (R425 to R429); no entries removes the list. -/
structure GateList where
  entries : List Word
  start : Nat
  cycle : Nat
  deriving DecidableEq, Repr, Inhabited

/-- A port (R409 to R413, R417 to R419, R425 to R429). -/
structure Port where
  enable : Bool := false
  fec : Bool := false
  overhead : Nat := 20
  slip : Nat := 1
  mac : Option Nat := none
  ipv4 : Word := 0
  ipv6 : List Word := [0, 0, 0, 0]
  /-- PCS aligned without remote fault. -/
  up : Bool := false
  sent : Word := 0
  received : Word := 0
  corrected : Word := 0
  uncorrectable : Word := 0
  unclassified : Word := 0
  discarded : Word := 0
  slips : Word := 0
  /-- Device second with uncorrectable codewords that NET:0x02 has not told yet. -/
  badAt : Option Nat := none
  /-- Device seconds of the last NET:0x09, NET:0x04 and NET:0x08. -/
  pauseAt : Option Nat := none
  unclassAt : Option Nat := none
  waitAt : Option Nat := none
  /-- NET:0x05 raised in this outage. -/
  downRaised : Bool := false
  /-- Core clock at which the transmitter is idle again. -/
  idleAt : Nat := 0
  policers : List Policer := []
  /-- Pending entries, list in operation, list scheduled, frames held for a window. -/
  pending : List Word := List.replicate 256 0
  gates : Option GateList := none
  nextGates : Option GateList := none
  held : Word := 0
  deriving DecidableEq, Repr, Inhabited

/-- PTP_CONFIG (table "PTP_CONFIG payload"). -/
structure PtpCfg where
  on : Bool := false
  port : Nat := 0
  profile : Nat := 0
  followerOnly : Bool := false
  twoStep : Bool := false
  ipv6 : Bool := false
  autoFirst : Bool := false
  servo : Nat := 0
  domain : Nat := 127
  prio1 : Nat := 0
  prio2 : Nat := 0
  utc : Nat := 37
  thresh : Nat := 1000
  kp : Nat := 32768
  ki : Nat := 4096
  asym : Int := 0
  deriving DecidableEq, Repr, Inhabited

/-- The data set of a clock as an Announce carries it (IEEE 1588): priorities, class, accuracy, variance, identity of
the grandmaster, steps removed, identity of the sender. -/
structure DataSet where
  prio1 : Nat
  cls : Nat
  accuracy : Nat
  variance : Nat
  prio2 : Nat
  grand : Nat
  steps : Nat
  sender : Nat
  deriving DecidableEq, Repr, Inhabited

/-- The PTP clock (R431 to R444). `st`: 0 DISABLED, 1 LISTENING, 2 ACQUIRING, 3 LOCKED, 4 STEP_WAIT, 5 HOLDOVER, 6
LEADER. Times and offsets are in units of 2^-32 ns. -/
structure Ptp where
  cfg : PtpCfg := {}
  st : Nat := 0
  leader : Option DataSet := none
  /-- Core clock of the leader's last Announce, or of the entry to LISTENING. -/
  heard : Nat := 0
  /-- A two-step Sync that waits for its Follow_Up: sequence, receive stamp, correction. -/
  sync : Option (Nat × Int × Int) := none
  /-- Last Sync: receive stamp and corrected origin. -/
  last : Option (Int × Int) := none
  /-- Delay_Req sent: sequence and transmit stamp. -/
  delayReq : Option (Nat × Int) := none
  /-- Path delays of the last sixteen exchanges. -/
  delays : List Int := []
  syncs : Nat := 0
  offset : Int := 0
  sum : Int := 0
  /-- Adj in ppb, numerator and denominator. -/
  adj : Int := 0
  /-- Origin and core clock of the last sixteen Syncs, newest first. -/
  rates : List (Int × Nat) := []
  /-- Offsets in a row within THRESH. -/
  within : Nat := 0
  /-- The pending step request is the acquisition step; HOLDOVER follows a rejected step. -/
  acquisition : Bool := false
  rejected : Bool := false
  /-- Device time may be stepped: requested and not answered. -/
  request : Bool := false
  utc : Option Int := none
  limited : Bool := false
  /-- Core clocks of the next Sync, Announce and Delay_Req to be sent, and sequence numbers. -/
  nextSync : Nat := 0
  nextAnnounce : Nat := 0
  nextDelay : Nat := 0
  seqSync : Nat := 0
  seqAnnounce : Nat := 0
  seqDelay : Nat := 0
  deriving DecidableEq, Repr, Inhabited

/-- Units of a bucket per byte. -/
def byteU : Nat := 12000000

/-- The reset settings of queue q (table "Queue map within a port"). -/
def Queue.reset (q : Nat) : Queue :=
  let o := q % 64
  if o < 32 then { tc := 5 }
  else if o < 40 then { tc := 6 }
  else if o < 42 then { tc := 7 }
  else if o = 42 then { tc := 0, cir := 10000, cbs := 16384, cLevel := 16384 * byteU }
  else {}

/-- A policer at its default with a full bucket. -/
def Policer.of (rate burst : Nat) : Policer := { rate := rate, burst := burst, level := burst * byteU }

/-- The policers of a port (table "Policer defaults"): PTP, SKOV, RETURN, MGMT. -/
def Policer.reset (p : Nat) : List Policer :=
  if p < 2 then
    [Policer.of 10000 16384, Policer.of 1000000 262144, Policer.of 10000000 1048576, Policer.of 100000 65536]
  else
    [Policer.of 10000 16384, Policer.of 10000000 1048576, Policer.of 2000000 524288, Policer.of 100000 65536]

/-- The network ports. -/
structure NetSt where
  /-- Ports N0, N1, M0, M1: PORT_CONFIG, link, counters, policers, gate lists, transmitter | 4 records | 14_network_ports.md R409 to R429 | OVERHEAD 20, SLIP_LIMIT 1, policers of R414 with full buckets, no gate list; the rest DESIGN CHOICE 2: 0, not enabled, down -/
  ports : List Port := (List.range 4).map fun p => { policers := Policer.reset p }
  /-- Transmit queues 0 to 255: shapers, class, frames, counters | 256 records of 512 KiB | 14_network_ports.md R415 to R421 | the queue map of R415; ACCUMULATE (R421); full buckets (DESIGN CHOICE 2), no frame -/
  queues : List Queue := (List.range 256).map Queue.reset
  /-- Rotating pointer of each port over its queues | 4 x 6 | 14_network_ports.md R418, 01_architecture.md R37 | 0 (R37) -/
  ptrs : List Nat := [0, 0, 0, 0]
  /-- PTP clock | record | 14_network_ports.md R431 to R444 | DISABLED; UTC_OFFSET 37, THRESH 1 us, KP 0.5, KI 0.0625 (their defaults); the rest DESIGN CHOICE 2: 0 -/
  ptp : Ptp := {}
  deriving DecidableEq, Repr, Inhabited

end Sys2Proof.Machine
end

