-- ==== Sys2Proof/Machine/StPower.lean ====
section
/-!
DEFINITION. State of power, bring-up, firmware and the trickle service (chapter 19 of spec/).
-/
namespace Sys2Proof.Machine

/-- A transition in progress (R549): final target, state that the present step reaches, whether a command asked for it,
core clock of the step's start, engine masks for RUN. The step of bring-up that reaches STANDBY has `boot`. -/
structure PwStep where
  target : Nat
  next : Nat
  cmd : Bool
  boot : Bool
  began : Nat
  ce : Nat
  other : Nat
  /-- POWER:0x05 was raised for a downward step beyond its maximum. -/
  late : Bool := false
  deriving DecidableEq, Repr, Inhabited

/-- A flash slot (R561, R565): 0 empty, 1 erased, 2 valid; its image's FW and SVN; words written since its erase. -/
structure Slot where
  st : Nat
  fw : Nat
  svn : Nat
  words : List (Nat × Word) := []
  deriving DecidableEq, Repr, Inhabited

/-- The trickle service (R557 to R559). -/
structure Trickle where
  on : Bool := false
  rate : Nat := 1
  divisor : Nat := 1
  by8 : Bool := false
  /-- Payload words 3 to 10 of TRICKLE_CONFIG. -/
  words : List Word := List.replicate 8 0
  /-- Input frames seen, whether the one in progress is coded, its next row, bits left of its budget, its RTP timestamp,
  next RTP sequence number. -/
  frame : Nat := 0
  coding : Bool := false
  row : Nat := 0
  left : Nat := 0
  ts : Nat := 0
  seq : Nat := 0
  pictures : Word := 0
  packets : Word := 0
  bits : Nat := 0
  /-- Packets that wait for M0: bytes from the destination address through the FCS, RTP timestamp, sequence number; bucket
  level and the clock up to which it is filled. -/
  waiting : List (Nat × Nat × Nat) := []
  level : Nat := 65536 * 12000000
  since : Nat := 0
  deriving DecidableEq, Repr, Inhabited

/-- A junction sensor (R568): its last reading in tenths of a degree, left out under THERMAL:0x03, core clock since which
it has been consistent. -/
structure Sensor where
  temp : Int := 0
  out : Bool := false
  since : Nat := 0
  deriving DecidableEq, Repr, Inhabited

/-- Power, firmware and health. -/
structure PwSt where
  /-- `VIO_3V3` is on | 1 | 20_electrical_mechanical.md R572 | false: on from STANDBY upwards -/
  vio : Bool := false
  /-- GLB_STATE.ROLE, the straps sampled at power good | 2 | 20_electrical_mechanical.md R579; 02_host_interface.md GLB_STATE | 0, straps open (R579; DESIGN CHOICE 9) -/
  role : Nat := 0
  /-- GLB_STATE.TWIN_SEL, the strap sampled at power good | 1 | 20_electrical_mechanical.md R579; 02_host_interface.md GLB_STATE | false, strap open (R579; DESIGN CHOICE 9) -/
  selB : Bool := false
  /-- VIN above the turn-off level: the module is not OFF | 1 | 19_power_and_bringup.md R547, R554 | true: State.reset stands right after power good -/
  on : Bool := true
  /-- GLB_STATE.POWER | 3 | 19_power_and_bringup.md R547, 02_host_interface.md GLB_STATE | 1 -/
  st : Nat := 1
  /-- Transition in progress | record | 19_power_and_bringup.md R549, R555 | bring-up to BOOT_TARGET under way (R554, R555) -/
  step : Option PwStep := some ⟨2, 1, false, true, 0, 0, 0, false⟩
  /-- Engine enable masks in force: CE0 to CE15; DE0 to DE5, SA0 to SA3 and CM0 to CM3 as word 4 of SET_POWER_STATE | 16 + 16 | 02_host_interface.md R79, 19_power_and_bringup.md R552 | 0 (no engine runs below RUN) -/
  ce : Nat := 0
  other : Nat := 0
  /-- BOOT_TARGET of the boot record | 2 | 19_power_and_bringup.md R555 | 2 (TRICKLE, the factory value) -/
  bootTarget : Nat := 2
  /-- Boot record ACTIVE and TRY; slot that runs; recovery | 1 + 2 + 1 + 1 | 19_power_and_bringup.md Firmware images, R563, R564 | DESIGN CHOICE 8: slot A active and running, no TRY -/
  active : Nat := 0
  tryS : Option Nat := none
  runs : Nat := 0
  recovery : Bool := false
  /-- Flash slots A and B | 2 x 31 MiB | 19_power_and_bringup.md Flash map, R561 | DESIGN CHOICE 8: A valid with the FW of 02_host_interface.md, B empty -/
  slots : List Slot := [⟨2, 0x030302, 0, []⟩, ⟨0, 0, 0, []⟩]
  /-- Anti-rollback counter | 7 | 19_power_and_bringup.md R561 | DESIGN CHOICE 8: 0 -/
  counter : Nat := 0
  /-- FW_BEGIN or FW_END that runs: its opcode, core clock; slot open for FW_WRITE; words in the write buffer | records | 19_power_and_bringup.md R565, R569 | none -/
  fwOp : Option (Nat × Nat) := none
  fwOpen : Option Nat := none
  fwLen : Nat := 0
  fwBuffer : Nat := 0
  /-- Core clock of the restart that FW_ACTIVATE scheduled | clock | 19_power_and_bringup.md R566 | none -/
  restart : Option Nat := none
  /-- Trickle service, and the profile in flash that bring-up applies: the nine payload words | record, 9 x 32 | 19_power_and_bringup.md R557 to R559, R569 | off, no profile (DESIGN CHOICE 8) -/
  te : Trickle := {}
  profile : Option (List Word) := none
  /-- IN_CONFIG has configured IN0 | 1 | 19_power_and_bringup.md R560 | false -/
  in0 : Bool := false
  /-- VIN in mV, input power in mW, last samples of input power newest first | 32 + 32 + list | 19_power_and_bringup.md R568, HEALTH_QUERY | DESIGN CHOICE 2: 0 -/
  vin : Nat := 0
  power : Nat := 0
  powers : List Nat := []
  /-- Core clock since which VIN is low, VIN is high, a rail is out, the rails are in range | 4 clocks | 19_power_and_bringup.md table Supply and thermal faults | none -/
  lowFrom : Option Nat := none
  highFrom : Option Nat := none
  railFrom : Option Nat := none
  railOk : Option Nat := none
  /-- Junction sensors | 8 records | 19_power_and_bringup.md R568 | DESIGN CHOICE 2: 0, all valid -/
  sensors : List Sensor := List.replicate 8 {}
  deriving DecidableEq, Repr, Inhabited

end Sys2Proof.Machine
end

