-- ==== Sys2Proof/Machine/StTime.lean ====
section
/-!
DEFINITION. State of the Time base: device time's steering, snapshots, trackers, scheduled events, EV pins and
DP6's start queue (chapter 03 of spec/). Intervals are measured on `raw`, device time with all steps removed
(R89), in units of 2^-32 ns.
-/
namespace Sys2Proof.Machine

/-- The coast model of a timeline (R95): the last edge followed while LOCKED, as its raw time and its absolute
edge number (cycle x E + k), with the T_pred of that moment. -/
structure Coast where
  raw : Nat
  edge : Nat
  tpred : Nat
  deriving DecidableEq, Repr, Inhabited

/-- State of one signal of a phase input: level, raw time of the last edge its filter accepted (R96). -/
structure PhSig where
  level : Bool := false
  last : Option Nat := none
  deriving DecidableEq, Repr, Inhabited

/-- A tracker (R93 to R102). `st`: 0 IDLE, 1 ACQUIRE, 2 LOCKED, 3 REACQUIRE, 4 LOST. -/
structure Trk where
  mode : Nat := 0
  polarity : Bool := false
  elec : Bool := false
  zEn : Bool := false
  gain : Nat := 0
  loss : Nat := 8
  slew : Nat := 20
  nominal : Nat := 0
  e : Nat := 1
  st : Nat := 0
  reverse : Bool := false
  forward : Bool := true
  tpred : Nat := 0
  last : Option Nat := none
  lossFrom : Nat := 0
  edge : Nat := 0
  ivals : List Nat := []
  coast : Option Coast := none
  zPend : Bool := false
  waitZ : Option Nat := none
  filterRun : Nat := 0
  overrate : Bool := false
  passRun : Nat := 0
  filtered : Nat := 0
  glitches : Nat := 0
  sigA : PhSig := {}
  sigB : PhSig := {}
  sigZ : PhSig := {}
  deriving DecidableEq, Repr, Inhabited

/-- A scheduled event in its slot (R103 to R120). On timeline 0 `tgt` is the device-time target and `period`
its units; on a tracked timeline `cyc` and `phase` name the target and `period` counts cycles. `placed` is
false while R593 holds it; `frozen` is the device time of a FALLBACK event and `fper` its frozen period (R111); `left` counts the firings left,
none without end. -/
structure Evt where
  tl : Nat
  policy : Nat
  onEdge : Bool
  actEv : Bool
  actScript : Bool
  actHost : Bool
  actTrigger : Bool
  pin : Nat
  trigger : Nat
  script : Nat
  user : Word
  tgt : Nat
  cyc : Nat
  phase : Nat
  period : Nat
  left : Option Nat
  placed : Bool
  frozen : Option Nat
  fper : Nat
  byScript : Bool
  /-- Global operation that the event carries out: initiator, OP_ID (R512). -/
  op : Option (Nat × Nat) := none
  deriving DecidableEq, Repr, Inhabited

/-- An EV pin (R112 to R115): its configuration and the raw time at which its pulse ends. -/
structure EvPin where
  activeLow : Bool := false
  safeRun : Bool := false
  width : Nat := 1000
  ends : Option Nat := none
  deriving DecidableEq, Repr, Inhabited

/-- A start record of DP6's queue (R116, R117). -/
structure StartRec where
  script : Nat
  slot : Nat
  flags : Nat
  t : Nat
  cycle : Nat
  phase : Nat
  deriving DecidableEq, Repr, Inhabited

/-- The snapshot of one timeline (R91): cycle, phase, and mode, REVERSE and state. -/
structure Snap where
  cycle : Nat := 0
  phase : Nat := 0
  mode : Nat := 0
  reverse : Bool := false
  st : Nat := 0
  deriving DecidableEq, Repr, Inhabited

/-- The Time base. -/
structure TimeSt where
  /-- TB_ADDEND, units of 2^-32 ns each core clock | 32 | 03_time_base.md R85, R86 | 0xAAAAAAAB -/
  addend : Nat := 0xAAAAAAAB
  /-- TB_SOURCE.MODE | 2 | 03_time_base.md R86 | 0 (FREE) -/
  mode : Nat := 0
  /-- TB_SOURCE.HOLDOVER | 1 | 03_time_base.md R87 | 0 -/
  holdover : Bool := false
  /-- TB_SOURCE.REF_PRESENT | 1 | 03_time_base.md TB_ registers | 0 -/
  refPresent : Bool := false
  /-- TIME_TRIM value, ppb | 32 signed | 03_time_base.md R86 | DESIGN CHOICE 2: 0 -/
  trim : Int := 0
  /-- TIME_SOURCE that runs: mode asked for, core clock of its 100 ms limit | 2 numbers | 03_time_base.md TIME_SOURCE | none -/
  pending : Option (Nat × Nat) := none
  /-- Snapshot of device time: TB_SNAP_NS, TB_SNAP_SEC_LO, TB_SNAP_SEC_HI, TB_SNAP_FRAC | 48+32+16 | 03_time_base.md R91 | 0 -/
  snapTime : Nat := 0
  /-- Snapshots of the thirteen timelines: TB_TL_CYCLE, TB_TL_PHASE, TB_TL_STATUS | 13 x 72 | 03_time_base.md R91 | 0; STATUS0.STATE always LOCKED (R92) -/
  snaps : List Snap := List.replicate 13 {}
  /-- Trackers of timelines 1 to 12, at index timeline (index 0 unused), with TB_TL_GLITCH counters | 13 records | 03_time_base.md R93 to R102 | IDLE, counters 0; the rest DESIGN CHOICE 2: 0 -/
  trks : List Trk := List.replicate 13 {}
  /-- Nominal line interval of each input, from its accepted format; 0 before one | 8 counts | 03_time_base.md R100 | 0 -/
  inNominal : List Nat := List.replicate 8 0
  /-- Lines per frame of each input, blanking included | 8 counts | 03_time_base.md table Timelines | DESIGN CHOICE 2: 1 -/
  inE : List Nat := List.replicate 8 1
  /-- Event slots in use: slot, event | 1,024 slots | 03_time_base.md R107 | empty -/
  evts : List (Nat × Evt) := []
  /-- Rotating pointer over slot numbers | 10 | 03_time_base.md R110, 01_architecture.md R37 | 0 (R37) -/
  evtPtr : Nat := 0
  /-- EV0 to EV3 | 4 records | 03_time_base.md R112 | POLARITY 0, SAFE_RUN 0, WIDTH 1000, inactive (R112) -/
  pins : List EvPin := List.replicate 4 {}
  /-- Operations whose events fired in this clock: initiator, OP_ID | list | 17_cluster.md R513 | empty -/
  opsDue : List (Nat × Nat) := []
  /-- DP6's start queue, at most 32 records | list | 03_time_base.md R116 | empty -/
  startQ : List StartRec := []
  deriving DecidableEq, Repr, Inhabited

end Sys2Proof.Machine
end

