-- ==== Sys2Proof/Machine/StTwin.lean ====
section
/-!
DEFINITION. State of twin operation (chapter 16 of spec/).
-/
namespace Sys2Proof.Machine

/-- An issue record that a standby holds (R474): words 0 to 6 of each task record. -/
structure IssueRec where
  chan : Nat
  frame : Nat
  row : Nat
  tasks : List (List Word)
  deriving DecidableEq, Repr, Inhabited

/-- A part of a row record in the shadow buffer (R476). -/
structure Part where
  part : Nat
  slice : Bool
  stream : Nat
  payload : List Byte
  st : Option RowState
  deriving DecidableEq, Repr, Inhabited

/-- A row record in the shadow buffer (R475, R476): its parts, and of its ROW_END the count and CRC. -/
structure Shadow where
  chan : Nat
  frame : Nat
  row : Nat
  parts : List Part
  fin : Option (Nat × Nat)
  deriving DecidableEq, Repr, Inhabited

/-- A frame sent on the twin link and not acknowledged (R470): SEQ, type, what it carries, core clock of its sending. -/
structure TwinTx where
  seq : Nat
  type : Nat
  args : List Nat
  clk : Nat
  deriving DecidableEq, Repr, Inhabited

/-- A mirrored command or set that awaits its response (R468): its number, the slot, core clock. -/
structure Mirror where
  seq : Nat
  op : Nat
  clk : Nat
  deriving DecidableEq, Repr, Inhabited

/-- A handover that is agreed or requested (R482, R489): H; 0 swap, 2 SEVERE fault, 3 TWIN_SWAP; the first row of each
channel that the new active module issues: channel, frame, row; core clock of a proposal that awaits its answer. -/
structure Handover where
  t : Nat
  cause : Nat
  rows : List (Nat × Nat × Nat)
  asked : Option Nat
  cmd : Bool
  deriving DecidableEq, Repr, Inhabited

/-- Twin operation. -/
structure TwinSt where
  /-- Pair state: 0 UNPAIRED, 1 ACTIVE, 2 STANDBY, 3 LOCKSTEP (GLB_STATE.TWIN_ROLE) | 2 | 16_twin_redundancy.md R465 | 0 -/
  role : Nat := 0
  /-- TWIN_PAIR that runs: core clock of its acceptance | clock | 16_twin_redundancy.md R466 | none -/
  pairing : Option Nat := none
  /-- HB_PORT is M1; SWAP_PERIOD in minutes; pinned digest of the partner | 1 + 11 + 384 | 16_twin_redundancy.md TWIN_PAIR | DESIGN CHOICE 2: 0 -/
  hbM1 : Bool := false
  swapPeriod : Nat := 0
  pin : List Word := List.replicate 12 0
  /-- Partner's TWIN_SEL, serial number low word, pair state, FIT | 1 + 32 + 8 + 1 | 16_twin_redundancy.md R465, R471 | DESIGN CHOICE 2: 0 -/
  partnerB : Bool := false
  partnerSerial : Word := 0
  partnerSt : Nat := 0
  partnerFit : Bool := false
  /-- Alignment of the four twin lanes: correct and wrong markers in a row, count and raw time of the last marker, aligned | 4 records + 1 | 16_twin_redundancy.md R469 | DESIGN CHOICE 2: 0 -/
  good : List Nat := [0, 0, 0, 0]
  bad : List Nat := [0, 0, 0, 0]
  marks : List (Option (Nat × Nat)) := [none, none, none, none]
  aligned : Bool := false
  /-- Next SEQ sent, frames not acknowledged, next SEQ expected, NACK pending, device second of the last TWIN:0x0B | list | 16_twin_redundancy.md R469, R470 | DESIGN CHOICE 2: 0 -/
  txSeq : Nat := 0
  sent : List TwinTx := []
  rxSeq : Nat := 0
  nack : Bool := false
  resentAt : Option Nat := none
  /-- Heartbeat paths, twin link and Skovlink: core clock of the last heartbeat, none while lost; next heartbeat, COUNT | 2 clocks, clock, 16 | 16_twin_redundancy.md R471, R472 | none; DESIGN CHOICE 2: 0 -/
  link : Option Nat := none
  path : Option Nat := none
  nextBeat : Nat := 0
  count : Nat := 0
  /-- LAST_SEQ of the partner's last heartbeat, by stream 0 to 39 | 40 x 16 | 16_twin_redundancy.md R471, R405 | DESIGN CHOICE 2: 0 -/
  lastSeq : List Nat := List.replicate 40 0
  /-- Issue records held; row records in the shadow buffer | lists | 16_twin_redundancy.md R474, R476 | empty -/
  issues : List IssueRec := []
  shadows : List Shadow := []
  /-- Newest row applied of each channel: channel, frame, row, its capture time at the partner | list | 16_twin_redundancy.md R476, R484 | empty -/
  newest : List (Nat × Nat × Nat × Nat) := []
  /-- Rows applied, rows discarded, switch-overs, swaps | 4 x 32 | 16_twin_redundancy.md TWIN_QUERY | 0 (DESIGN CHOICE 2) -/
  applied : Word := 0
  discarded : Word := 0
  switches : Word := 0
  swaps : Word := 0
  /-- Core clock of the next proposal, none while periodic swaps are off | clock | 16_twin_redundancy.md R489 | none -/
  nextSwap : Option Nat := none
  /-- Handover in progress; SWAP agreed by this standby | record | 16_twin_redundancy.md R482, R489 | none -/
  hand : Option Handover := none
  /-- Take-over in progress: core clock of its start, cause, whether from LOCKSTEP, packets sent twice | record | 16_twin_redundancy.md R483 | none -/
  takeover : Option (Nat × Nat × Bool) := none
  /-- Difference added to own capture times by channel | 16 numbers | 16_twin_redundancy.md R484 | 0 -/
  shift : List Int := List.replicate 16 0
  /-- Mirrored commands that await the standby | list | 16_twin_redundancy.md R468 | empty -/
  mirrors : List Mirror := []
  /-- First picture counted by the convergence rule and the picture after one GDR period, by channel | list | 16_twin_redundancy.md R480 | empty -/
  converge : List (Nat × Nat) := []
  /-- The former active module after a switch-over: it issues no row and sends no media (R487) | 1 | 16_twin_redundancy.md R482, R487 | false -/
  handed : Bool := false
  /-- Device time of the last handover, before which a former active module still releases its packets | time | 16_twin_redundancy.md R482, R490 | DESIGN CHOICE 2: 0 -/
  sendsTo : Nat := 0
  /-- COUNT of the partner's heartbeat acted on last | 16 | 16_twin_redundancy.md R471 | none -/
  seen : Option Nat := none
  /-- Next row record to be sent, by channel: channel, frame, row | list | 16_twin_redundancy.md R475 | empty -/
  nextRow : List (Nat × Nat × Nat) := []
  /-- Tasks of those pictures that decoded equal: stream, column, row | list | 16_twin_redundancy.md R480 | empty -/
  proved : List (Nat × Nat × Nat) := []
  /-- Earliest device time at which a new standby starts channels | time | 16_twin_redundancy.md R467 | DESIGN CHOICE 2: 0 -/
  startAt : Nat := 0
  deriving DecidableEq, Repr, Inhabited

end Sys2Proof.Machine
end

