-- ==== Sys2Proof/Machine/State.lean ====
section
/-!
DEFINITION. The state of the block: plain data, one record for each area of the manual, and the queue of
commands that wait.
-/
namespace Sys2Proof.Machine

/-- Reasons for which a step stops the machine. No rule of the manual stops the module at a command, and no
meaning of this model does: there is none. -/
inductive Fault where
  deriving DecidableEq, Repr

/-- Reasons for which a command has no meaning here. -/
inductive Refusal where
  /-- Raised by `exec` alone, for a command whose meaning is not written yet; safe, for nothing is claimed of it. -/
  | notModelled (mnemonic : String)
  deriving DecidableEq, Repr

/-- What leaves the module at its connectors. -/
inductive OutKind where
  /-- MSI-X message: vector (R59). -/
  | msix
  /-- DOE response object (R82): words. -/
  | doe
  /-- Edge of an EV pin (R113): pin, level. -/
  | ev
  /-- Unit trigger (R110): trigger ID. -/
  | trigger
  /-- Edge of ERR_N (R533): 1 asserted. -/
  | errN
  /-- `VIO_3V3` of J1 (R572): 1 on. -/
  | vio
  /-- Training burst of a lane's own transmitter as it leaves electrical idle (R456): lane, blocks. -/
  | burst
  /-- Frame on the twin link (R469): type and what it carries. -/
  | twin (type : Nat)
  /-- Frame sync of a leader audio port (R366): port, frame. -/
  | audioFs
  /-- Ethernet frame that starts (R418): port, queue, counted length, and what the frame carries. -/
  | frame (port queue len : Nat) (c : Content)
  deriving DecidableEq, Repr, Inhabited

/-- One happening at a connector: its kind, what it carries, the device time. -/
structure Out where
  kind : OutKind
  args : List Nat
  t : Nat
  deriving DecidableEq, Repr, Inhabited

/-- The addressed memories. -/
structure MemSt where
  /-- Ring memory, at BAR0 offsets 0x010000 to 0x013FFF | 16 KiB | 02_host_interface.md table Ring layout | nothing listed; unlisted bytes read 0 (DESIGN CHOICE 3) -/
  ring : Mem := []
  /-- GDDR6 | 16 GiB | 02_host_interface.md R46 | nothing listed; unlisted bytes read 0 (DESIGN CHOICE 3) -/
  gddr : Mem := []
  /-- On-die SRAM, as column contexts and pumps write it; the records in it are held as records | bytes | 07_encoding.md R206, 09_dispatch.md R305 | nothing listed; unlisted bytes read 0 (DESIGN CHOICE 3) -/
  sram : Mem := []
  deriving DecidableEq, Repr, Inhabited

/-- The state of the block. -/
structure State where
  /-- Commands that wait, first in first out | list | the row's cut: the model's own queue | empty -/
  pending : List Instr := []
  /-- Counter of the free values drawn so far | count | the model's own (log entry 4) | DESIGN CHOICE 4: 0 -/
  free : Nat := 0
  /-- Device time, in units of 2^-32 ns below 2^48 s | 48+32+32 | 03_time_base.md R85 | DESIGN CHOICE 2: 0 -/
  now : Nat := 0
  /-- Device time with all steps removed, same units | count | 03_time_base.md R89 | DESIGN CHOICE 2: 0 -/
  raw : Nat := 0
  /-- Core clocks since power-on | count | 01_architecture.md R30 | 0 -/
  clk : Nat := 0
  /-- What has left at the connectors, in order | list | the model's own record of R13's connectors | empty -/
  out : List Out := []
  /-- Data of the last host read through BAR0 or BAR2 | 64 | 02_host_interface.md R44, R46 | DESIGN CHOICE 2: 0 -/
  rdata : Nat := 0
  host : HostSt := {}
  flt : FltSt := {}
  cvu : CvuSt := {}
  time : TimeSt := {}
  cap : CapSt := {}
  enc : EncSt := {}
  ds : DsSt := {}
  comp : CompSt := {}
  blit : BlitSt := {}
  pkg : PkgSt := {}
  dec : DecSt := {}
  dip : DipSt := {}
  net : NetSt := {}
  cl : ClSt := {}
  aud : AudSt := {}
  twin : TwinSt := {}
  pw : PwSt := {}
  lane : LaneSt := {}
  mem : MemSt := {}
  deriving DecidableEq, Repr

/-- The module right after a reset at power good. -/
def State.reset : State := {}

/-- Changes to one record of the state. -/
def State.onHost (s : State) (f : HostSt → HostSt) : State := { s with host := f s.host }
def State.onFlt (s : State) (f : FltSt → FltSt) : State := { s with flt := f s.flt }
def State.onCvu (s : State) (f : CvuSt → CvuSt) : State := { s with cvu := f s.cvu }
def State.onTime (s : State) (f : TimeSt → TimeSt) : State := { s with time := f s.time }
def State.onCap (s : State) (f : CapSt → CapSt) : State := { s with cap := f s.cap }
def State.onEnc (s : State) (f : EncSt → EncSt) : State := { s with enc := f s.enc }
def State.onDs (s : State) (f : DsSt → DsSt) : State := { s with ds := f s.ds }
def State.onComp (s : State) (f : CompSt → CompSt) : State := { s with comp := f s.comp }
def State.onBlit (s : State) (f : BlitSt → BlitSt) : State := { s with blit := f s.blit }
def State.onPkg (s : State) (f : PkgSt → PkgSt) : State := { s with pkg := f s.pkg }
def State.onDec (s : State) (f : DecSt → DecSt) : State := { s with dec := f s.dec }
def State.onDip (s : State) (f : DipSt → DipSt) : State := { s with dip := f s.dip }
def State.onNet (s : State) (f : NetSt → NetSt) : State := { s with net := f s.net }
def State.onCl (s : State) (f : ClSt → ClSt) : State := { s with cl := f s.cl }
def State.onAud (s : State) (f : AudSt → AudSt) : State := { s with aud := f s.aud }
def State.onTwin (s : State) (f : TwinSt → TwinSt) : State := { s with twin := f s.twin }
def State.onPw (s : State) (f : PwSt → PwSt) : State := { s with pw := f s.pw }
def State.onLane (s : State) (f : LaneSt → LaneSt) : State := { s with lane := f s.lane }
def State.onMem (s : State) (f : MemSt → MemSt) : State := { s with mem := f s.mem }

end Sys2Proof.Machine
end

