-- ==== Sys2Proof/Machine/Ops.lean ====
section
/-!
DEFINITION. The shared operations: the clock, output, free values, fault reports, interrupts, the event ring
and its backlog, the response ring, completions of ACCEPTED commands, and the answers of a handler.
-/
namespace Sys2Proof.Machine

/-! ### The clock (R30, R85) -/

/-- n core clocks pass: device time and raw time advance by the addend in each (R85). Device time wraps below
2^48 s. -/
def State.pass (s : State) (n : Nat) : State :=
  { s with
    now := (s.now + s.time.addend * n) % timeLimit
    raw := s.raw + s.time.addend * n
    clk := s.clk + n }

/-- The clock runs on to core clock c where that is still ahead. -/
def State.toClk (s : State) (c : Nat) : State := s.pass (c - s.clk)

/-- The clock runs on to the first core clock at or after device time t, where that is still ahead. -/
def State.toTime (s : State) (t : Nat) : State := s.pass (ceilDiv (t - s.now) s.time.addend)

/-- The clock runs on to the first core clock at or after raw time t. -/
def State.toRaw (s : State) (t : Nat) : State := s.pass (ceilDiv (t - s.raw) s.time.addend)

/-- The clock runs on to the core clock that contains device time t, where that is still ahead (R104). -/
def State.toClockOf (s : State) (t : Nat) : State := s.pass ((t - s.now) / s.time.addend)

/-- The clock runs on to the core clock that contains raw time t. -/
def State.toRawClockOf (s : State) (t : Nat) : State := s.pass ((t - s.raw) / s.time.addend)

/-- An interval from the present clock as a pin places it: in steps of 1/8 clock (R97, R104); which of the two neighbouring
steps is free. -/
def State.eighths (s : State) (d : Nat) : Nat := quot 97 (s.time.addend * quot 104 (8 * d) s.time.addend) 8

/-- The device second. -/
def State.second (s : State) : Nat := tSec s.now

/-- The module issues no row and sends no media: the standby of a pair, in STANDBY or LOCKSTEP (R468), or the former active
module after a switch-over (R487). -/
def State.standby (s : State) : Bool := decide (2 ≤ s.twin.role) || s.twin.handed

/-- The straps sampled at the last power good (R579): ROLE 0 STANDALONE, 1 WORKER, 2 CLUSTER_MANAGER, 3 ARRAY_MANAGER;
TWIN_SEL. -/
def State.strapRole (s : State) : Nat := s.pw.role
def State.selB (s : State) : Bool := s.pw.selB

/-- Core clocks in a microsecond (1.5 GHz, R30). -/
def usC : Nat := 1500
/-- Core clocks in a millisecond. -/
def msC : Nat := 1500000
/-- Core clocks in a second. -/
def secC : Nat := 1500000000

/-! ### Output and free values -/

/-- Something leaves at a connector at the present device time. -/
def State.emit (s : State) (k : OutKind) (args : List Nat) : State :=
  { s with out := s.out ++ [⟨k, args, s.now⟩] }

/-- Something leaves at a connector at a device time of this clock or of one shortly after it. -/
def State.emitAt (s : State) (t : Nat) (k : OutKind) (args : List Nat) : State :=
  { s with out := s.out ++ [⟨k, args, t⟩] }

/-- A free value of this moment at a site (log entry 4). -/
def State.freeVal (s : State) (site arg : Nat) : Nat := Config.free site s.free arg

/-- A free choice of this moment at a site (log entry 4). -/
def State.freeBit (s : State) (site arg : Nat) : Bool := Config.freeBool site s.free arg

/-- The free-value counter moves on, so that the next value drawn is another one. -/
def State.drawn (s : State) : State := { s with free := s.free + 1 }

/-! ### Fault reports (R17, R527, R530) -/

/-- The DATA of a report: CLUSTER and SECURITY name member m of a module ID (R493, R535). -/
def faultData (cls data : Nat) : Nat := if cls = 0x0E || cls = 0x15 then data % 64 else data % 256

/-- A unit reports a fault detected at device time t; the hub holds it until FAULT_LOG (R527). -/
def State.raiseAt (s : State) (cls code data chan t : Nat) : State :=
  s.onFlt fun f => { f with reports := f.reports ++ [⟨cls, code, faultData cls data, chan, t, s.clk, false, 0⟩] }

/-- A unit reports a fault detected now. -/
def State.raise (s : State) (cls code : Nat) (data : Nat := 0) (chan : Nat := 0xFF) : State :=
  s.raiseAt cls code data chan s.now

/-- A cause becomes present (R530). -/
def State.causeOn (s : State) (cls code : Nat) (data : Nat := 0) (chan : Nat := 0xFF) : State :=
  s.onFlt fun f =>
    { f with causes := if f.causes.contains ⟨cls, code, data, chan⟩ then f.causes
                       else f.causes ++ [⟨cls, code, data, chan⟩] }

/-- A cause ends (R530). -/
def State.causeOff (s : State) (cls code : Nat) (data : Nat := 0) (chan : Nat := 0xFF) : State :=
  s.onFlt fun f => { f with causes := f.causes.filter (· != ⟨cls, code, data, chan⟩) }

/-- A fault whose cause persists is reported and its cause becomes present. -/
def State.raiseOn (s : State) (cls code : Nat) (data : Nat := 0) (chan : Nat := 0xFF) : State :=
  (s.raise cls code data chan).causeOn cls code data chan

/-- Whether a cause is present. -/
def State.hasCause (s : State) (cls code : Nat) (data : Nat := 0) (chan : Nat := 0xFF) : Bool :=
  s.flt.causes.contains ⟨cls, code, data, chan⟩

/-! ### Interrupts (R59 to R61) -/

/-- A vector is masked by its own mask or by the function mask (R59). -/
def HostSt.vecMasked (h : HostSt) (v : Nat) : Bool := h.msixFm || bit (h.msix.getD (4 * v + 3) 1) 0

/-- The message of a vector is sent, or its pending bit set while the vector or the function is masked (R59). With MSI-X
disabled there is no message (PRESUMED: PCI Express, log entry 5). -/
def State.sendMsix (s : State) (v : Nat) : State :=
  if s.host.msixOn then
    if s.host.vecMasked v then
      s.onHost fun h => { h with pba := w32 (setBit h.pba.toNat v) }
    else s.emit .msix [v]
  else s

/-- Messages are sent for every bit whose condition holds anew (R59). -/
def State.evalIrq (s : State) : State :=
  let cond := s.host.irqStatus &&& ~~~s.host.irqMask
  let news := bitsOf (cond &&& ~~~s.host.irqSent).toNat 32
  news.foldl State.sendMsix (s.onHost fun h => { h with irqSent := cond })

/-- A cause of a vector fires: its IRQ_STATUS bit is set (R59, R61). -/
def State.setIrq (s : State) (v : Nat) : State :=
  (s.onHost fun h =>
    { h with irqStatus := w32 (setBit h.irqStatus.toNat v), irqFired := aset h.irqFired v s.clk }).evalIrq

/-- Vectors that are never coalesced and that are set in the clock of their cause (R61). -/
def directVector (v : Nat) : Bool := v == 0 || v == 3 || v == 30 || v == 31 || v == 24 || v == 25

/-- The bits of all pending coalesced events are set and the hold-off ends (R61). -/
def State.coFlush (s : State) : State :=
  (s.host.coPend.map (·.1)).foldl State.setIrq
    (s.onHost fun h => { h with coPend := [], coDue := none })

/-- A coalesced event has been placed in the ring at counter c (R61). -/
def State.coAdd (s : State) (v : Nat) (c : BitVec 16) : State :=
  if s.host.coCount = 0 then s.setIrq v
  else
    let s := s.onHost fun h =>
      { h with coPend := h.coPend ++ [(v, c)]
               coDue := match h.coDue with
                 | some d => some d
                 | none => some (s.clk + h.coHoldoff * usC) }
    if s.host.coCount ≤ s.host.coPend.length then s.coFlush else s

/-- A DB_STATUS bit is set, which is the cause of vector 30. -/
def State.dbSet (s : State) (i : Nat) : State :=
  (s.onHost fun h => { h with dbStatus := BitVec.ofNat 4 (setBit h.dbStatus.toNat i) }).setIrq 30

/-! ### Rings (R50 to R58) -/

/-- Occupancy of a ring: (tail - head) mod 65,536 (R50). -/
def occupancy (tail head : BitVec 16) : Nat := (tail - head).toNat

/-- BAR0 base of the command, response and event rings (table "Ring layout"). -/
def cmdBase : Nat := 0x10000
def rspBase : Nat := 0x11000
def evtBase : Nat := 0x12000

/-- BAR0 address of the slot of a counter (R50). -/
def slotAddr (base slots size : Nat) (c : BitVec 16) : Nat := base + (c.toNat % slots) * size

/-- The eight words of an event slot (table "Event slot"). -/
def Ev.words (e : Ev) : List Word :=
  [w32 (e.chan * 65536 + e.code), w32 (tNs e.t), w32 (tSec e.t),
   w32 (e.seq.toNat * 65536 + tSec e.t / 4294967296 % 65536),
   e.data.getD 0 0, e.data.getD 1 0, e.data.getD 2 0, e.data.getD 3 0]

/-- An event is written whole in the slot of DB_EVT_TAIL, which then advances (R55). Its vector follows the
coalescing rule, unless its bit was set in the clock of its cause (R61). -/
def State.placeEvt (s : State) (e : Ev) : State :=
  let c := s.host.evtTail
  let s := s.onMem fun m => { m with ring := Mem.writeWords m.ring (slotAddr evtBase 256 32 c) e.words }
  let s := s.onHost fun h => { h with evtTail := h.evtTail + 1 }
  if directVector e.vec then s else s.coAdd e.vec c

/-- Whether the event ring has a free slot. -/
def HostSt.evtRoom (h : HostSt) : Bool := occupancy h.evtTail h.evtHead < 256

/-- Held events move from the backlog into the ring, oldest first, while it has room (R57). -/
def State.drainLoop (s : State) : List Ev → State
  | [] => s.onHost fun h => { h with backlog := [] }
  | e :: rest =>
    if s.host.evtRoom then (s.placeEvt e).drainLoop rest
    else s.onHost fun h => { h with backlog := e :: rest }

/-- The vector of an EVT_LOST event and of the other system events without one (table "System events"). -/
def sysVector : Nat := 1

/-- The EVT_LOST event of a run of losses is placed at the tail of the backlog once that has room (R58). -/
def State.placeLost (s : State) : State :=
  if 0 < s.host.lostRun && s.host.backlog.length < 1024 then
    s.onHost fun h =>
      { h with backlog := h.backlog ++ [⟨0xFF, 0x0007, s.now, h.seq, sysVector, [w32 h.lostRun]⟩]
               seq := h.seq + 1, lostRun := 0, lostRaised := false }
  else s

/-- The backlog drains into the ring; a pending EVT_LOST event is placed and drains too (R57, R58). -/
def State.drain (s : State) : State :=
  let s := (s.drainLoop s.host.backlog).placeLost
  s.drainLoop s.host.backlog

/-- A generated event goes to the ring, to the backlog, or is dropped and counted (R57, R58). -/
def State.pushEvt (s : State) (e : Ev) : State :=
  if s.host.backlog.isEmpty && s.host.evtRoom then s.placeEvt e
  else if s.host.backlog.length < 1024 then
    let s := if s.host.backlog.isEmpty then s.raise 0x17 0x02 else s
    s.onHost fun h => { h with backlog := h.backlog ++ [e] }
  else
    let s := (s.onHost fun h => { h with evtLost := satAdd h.evtLost 1 0xFFFF, lostRun := h.lostRun + 1 }).dbSet 3
    if s.host.lostRaised then s
    else (s.raise 0x17 0x03).onHost fun h => { h with lostRaised := true }

/-- Events that SET_EVENT_FILTER cannot suppress: those of group 0x00 (R81). -/
def HostSt.passes (h : HostSt) (code : Nat) : Bool :=
  code / 256 == 0 || nbit h.filter.toNat (code / 256)

/-- An event is generated for a happening at device time t: it takes the next SEQ, sets the bit of an uncoalesced
vector in this clock, and goes to the ring (R55, R61, R69, R81). -/
def State.eventAt (s : State) (t code chan vec : Nat) (data : List Nat) : State :=
  if s.host.passes code then
    let e : Ev := ⟨chan, code, t, s.host.seq, vec, data.map w32⟩
    let s := s.onHost fun h => { h with seq := h.seq + 1 }
    let s := if directVector vec then s.setIrq vec else s
    s.pushEvt e
  else s

/-- The same for a happening of this moment. -/
def State.event (s : State) (code chan vec : Nat) (data : List Nat) : State :=
  s.eventAt s.now code chan vec data

/-- The sixteen words of a response slot; the words beyond RLEN are zero (DESIGN CHOICE, log entry 7). -/
def rspWords (tag : Word) (op status : Nat) (res : List Word) : List Word :=
  let r := res.take 13
  [tag, w32 (op * 65536 + status), w32 r.length] ++ r ++ List.replicate (13 - r.length) 0

/-- Whether the response ring has a free slot. -/
def HostSt.rspRoom (h : HostSt) : Bool := occupancy h.rspTail h.rspHead < 64

/-- A response slot is written whole and DB_RSP_TAIL then advances (R55); vector 0 fires when the ring became
non-empty. -/
def State.placeRsp (s : State) (ws : List Word) : State :=
  let was := occupancy s.host.rspTail s.host.rspHead
  let c := s.host.rspTail
  let s := s.onMem fun m => { m with ring := Mem.writeWords m.ring (slotAddr rspBase 64 64 c) ws }
  let s := s.onHost fun h => { h with rspTail := h.rspTail + 1 }
  if was = 0 then s.setIrq 0 else s

/-- Finished answers go to the response ring in the order of their commands, while it has room (R54, R55). -/
def State.flushLoop (s : State) : List Answer → State
  | [] => s.onHost fun h => { h with answers := [] }
  | .done ws :: rest =>
    if s.host.rspRoom then (s.placeRsp ws).flushLoop rest
    else s.onHost fun h => { h with answers := .done ws :: rest }
  | a :: rest => s.onHost fun h => { h with answers := a :: rest }

/-- The same for the answers that the state holds. -/
def State.flush (s : State) : State := s.flushLoop s.host.answers

/-- An answer joins the order of answers (R55). -/
def State.answer (s : State) (a : Answer) : State :=
  (s.onHost fun h => { h with answers := h.answers ++ [a] }).flush

/-- The answer awaited under a name is finished with these words. -/
def State.finish (s : State) (a : Answer) (ws : List Word) : State :=
  (s.onHost fun h => { h with answers := h.answers.map fun x => if x = a then .done ws else x }).flush

/-! ### Status codes (R65) and what a handler answers -/

/-- The statuses of R65. -/
inductive Status where
  | ok | accepted | badOpcode | badParam | badState | noResource | busy | denied | timeout | refusedFull | cancelled
  deriving DecidableEq, Repr, Inhabited

/-- The code of a status (table "Status codes"). -/
def Status.code : Status → Nat
  | .ok => 0x0000
  | .accepted => 0x0001
  | .badOpcode => 0x0100
  | .badParam => 0x0101
  | .badState => 0x0102
  | .noResource => 0x0103
  | .busy => 0x0104
  | .denied => 0x0105
  | .timeout => 0x0106
  | .refusedFull => 0x0107
  | .cancelled => 0x0108

/-- What a handler answers: OK with result words, ACCEPTED with result words, a refusal that has no effect (R66) with the number of
the slot word at fault, a refusal with an effect (COMMIT_ARM of R73), or an answer that comes later. -/
inductive Res where
  | ok (words : List Nat) (s : State)
  | acc (s : State) (words : List Nat := [])
  | err (st : Status) (word : Nat)
  | errWith (st : Status) (result : Nat) (s : State)
  | later (a : Answer) (s : State)

/-- No single word is at fault (table "Response slot"). -/
def noWord : Nat := 0

/-- Result word 0 of an error: the index of the offending payload word, payload word 0 being slot word 2, or
0xFFFF_FFFF. -/
def errIndex (word : Nat) : Nat := if word < 2 then 0xFFFFFFFF else word - 2

/-- The command is tried for the open set or runs within a set: sums over the whole configuration are judged for the set
as a whole (R73; DEDUCED, log entry 60). -/
def State.sumsLater (s : State) : Bool := s.host.lenient || s.host.staging

/-- A check before a command acts: refused where b holds. -/
def refuse (b : Bool) (st : Status) (word : Nat) (k : Res) : Res := if b then .err st word else k

/-- The bits hi to lo as a mask. -/
def msk (hi lo : Nat) : Nat := (2 ^ (hi + 1 - lo) - 1) * 2 ^ lo

/-- The first slot word of a list that holds a bit outside those named (R10). -/
def rsvWord (c : Vx) (l : List (Nat × Nat)) : Option Nat :=
  (l.find? fun p => (c.w p.1).toNat &&& (0xFFFFFFFF ^^^ p.2) != 0).map (·.1)

/-- Reserved payload fields must be zero (R10): the list gives each word's defined bits. -/
def refuseRsv (c : Vx) (l : List (Nat × Nat)) (k : Res) : Res :=
  match rsvWord c l with
  | some w => .err .badParam w
  | none => k

/-- A handler of an opcode: the payload words it requires (R62), whether STAGE may be set (R596), whether it
must be set in this state (R64), and what it does. -/
structure Handler where
  minLen : Nat
  stageable : Bool := false
  needStage : Vx → State → Bool := fun _ _ => false
  run : Vx → State → Res

/-! ### ACCEPTED commands and CMD_DONE -/

/-- A command starts and is answered ACCEPTED. -/
def State.start (s : State) (op : Nat) (tag : Word) (key : Nat) : State :=
  s.onHost fun h => { h with running := h.running ++ [⟨op, tag, key⟩] }

/-- Whether a command of an opcode runs under a key. -/
def State.isRunning (s : State) (op key : Nat) : Bool :=
  s.host.running.any fun r => r.op == op && r.key == key

/-- The CMD_DONE event of a command (table "System events"). -/
def State.doneEvt (s : State) (op : Nat) (tag : Word) (st : Status) (res : List Nat) : State :=
  s.event 0x0001 0xFF 31 [tag.toNat, op * 65536 + st.code, res.getD 0 0, res.getD 1 0]

/-- The command that runs under an opcode and key completes: CMD_DONE is written (R65). Where none runs (after a
management processor restart, R78) nothing is written. -/
def State.complete (s : State) (op key : Nat) (st : Status) (res : List Nat := []) : State :=
  match s.host.running.find? (fun r => r.op == op && r.key == key) with
  | some r =>
    (s.onHost fun h => { h with running := h.running.erase r }).doneEvt op r.tag st res
  | none => s

/-! ### Commit sets that fail (R76, R551) -/

/-- Armed sets fail in arming order: COMMIT_FAILED, and their IDs become free. -/
def State.failSets (s : State) (p : CommitSet → Bool) (reason : Nat) : State :=
  (s.host.armed.filter p).foldl (fun s x =>
    (s.onHost fun h => { h with armed := h.armed.filter (·.id != x.id), ended := aset h.ended x.id ⟨5, x.due⟩ }).event
      0x0004 (if x.kind < 2 then x.chan else 0xFF) 1 [x.id, reason]) s

/-- The sets of a channel that stops fail with it (R76). -/
def State.failChan (s : State) (c : Nat) : State := s.failSets (fun x => decide (x.kind < 2) && x.chan == c) 1

/-- A number below 2^64 as its two words, low word first. -/
def lowHigh (n : Nat) : List Nat := [n % 4294967296, n / 4294967296 % 4294967296]

/-- Device time as three result words: ns, seconds 31:0, seconds 47:32. -/
def timeNats (t : Nat) : List Nat := [tNs t, tSec t % 4294967296, tSec t / 4294967296]

/-- A device time from three slot words of a command, from word k. -/
def Vx.time (c : Vx) (k : Nat) : Nat :=
  mkTime ((c.w (k + 1)).toNat + (c.w (k + 2)).toNat % 65536 * 4294967296) (c.w k).toNat 0

/-- Start of a cistern of `len` bytes, which lies within the 16 GiB of GDDR6 (R46). -/
def cisternAt (purpose i len : Nat) : Nat := Config.cisternBase purpose i % (17179869185 - len)

/-- Start of the operation cistern (R515) and of the snapshot cistern (R517). -/
def opBase : Nat := cisternAt 4 0 16384
def snapBase : Nat := cisternAt 5 0 262144

/-- Whether a nanoseconds word is out of range (R594). -/
def badNs (w : Word) : Bool := 1000000000 ≤ w.toNat

end Sys2Proof.Machine
end

