-- ==== Sys2Proof/Machine/Time.lean ====
section
/-!
DEFINITION. The Time base (chapter 03 of spec/): steering of device time, trackers, scheduled events, EV pins,
and the commands of group 0x01 but those that other areas take part in (TIME_SOURCE and TIME_STEP stand in
Machine/Steering.lean).
-/
namespace Sys2Proof.Machine

/-! ### Steering (R85 to R88) -/

/-- The nominal addend (R86). -/
def nominalAddend : Nat := 0xAAAAAAAB

/-- An addend kept within 1,000 ppm of nominal (R86). -/
def clampAddend (a : Int) : Nat :=
  (max (ceilDiv (nominalAddend * 999) 1000 : Int) (min a (nominalAddend * 1001 / 1000 : Nat))).toNat

/-- The addend of FREE mode: nominal x (1 + trim x 10^-9), rounded once, half up, then clamped (R86). -/
def trimAddend (ppb : Int) : Nat :=
  clampAddend ((2 * (nominalAddend : Int) * (1000000000 + ppb) + 1000000000) / 2000000000)

/-- TB_SOURCE as a register word. -/
def TimeSt.sourceWord (t : TimeSt) : Nat := at' (b01 t.refPresent) 3 + at' (b01 t.holdover) 2 + t.mode

/-- The vector of Time base events (table "MSI-X vector map"). -/
def timeVector : Nat := 4

/-! ### Positions and targets (R92 to R95, R103) -/

/-- The coast model of a timeline, which an IDLE timeline does not have (R95). -/
def Trk.coastOf (k : Trk) : Option Coast := if k.st = 0 then none else k.coast

/-- Cycle and phase of a tracked timeline at a raw time (R93 to R95). -/
def Trk.pos (k : Trk) (raw : Nat) : Nat × Nat :=
  let go (edge dt tp : Nat) : Nat × Nat :=
    let per := k.e * tp
    let tot := edge * tp + dt
    (tot / per, tot % per * 4294967296 / per)
  match decide (k.st = 2), k.last, k.coastOf with
  | true, some l, _ => if k.tpred = 0 then (0, 0) else go k.edge (min (raw - l) (k.tpred - 1)) k.tpred
  | _, _, some c => if c.tpred = 0 then (0, 0) else go c.edge (raw - c.raw) c.tpred
  | _, _, none => (0, 0)

/-- Cycle and phase of a timeline now; timeline 0 shows seconds and the fraction of the second (R92). -/
def State.position (s : State) (tl : Nat) : Nat × Nat :=
  if tl = 0 then (tSec s.now, tNs s.now * 4294967296 / 1000000000) else (tab s.time.trks tl).pos s.raw

/-- The absolute edge number before a target (R103). -/
def Trk.targetEdge (k : Trk) (cyc phase : Nat) : Nat := cyc * k.e + phase * k.e / 4294967296

/-- The raw time of a target from an anchor edge (R103); the rounding of f x T_pred below 2^-32 ns is free (log entry 33). -/
def Trk.targetRaw (k : Trk) (cyc phase base edge tp : Nat) : Int :=
  (base : Int) + ((k.targetEdge cyc phase : Int) - edge) * tp
    + (quot 103 (phase * k.e % 4294967296 * tp) 4294967296 : Nat)

/-- The device time that corresponds to a raw time (R89). -/
def State.rawToDev (s : State) (r : Int) : Nat := (r + s.now - s.raw).toNat

/-- The raw time of a target as the timeline stands: by prediction while LOCKED, else by the coast model. -/
def Trk.rawOf (k : Trk) (cyc phase : Nat) : Option Int :=
  match decide (k.st = 2), k.last, k.coastOf with
  | true, some l, _ => some (k.targetRaw cyc phase l k.edge k.tpred)
  | _, _, some c => some (k.targetRaw cyc phase c.raw c.edge c.tpred)
  | _, _, none => none

/-- The device time of an event's target as the timeline stands, whatever its policy. -/
def State.evtTime (s : State) (e : Evt) : Option Nat :=
  if e.tl = 0 then some e.tgt
  else match e.frozen with
  | some t => some t
  | none =>
    if e.placed then ((tab s.time.trks e.tl).rawOf e.cyc e.phase).map s.rawToDev else none

/-- The device time at which an event fires by time alone: not ON_EDGE (R106), not held (R593), and under HOLD
only while the timeline is LOCKED (R111). -/
def State.fireTime (s : State) (e : Evt) : Option Nat :=
  if e.onEdge then none
  else if e.tl != 0 && e.frozen.isNone && e.policy == 0 && (tab s.time.trks e.tl).st != 2 then none
  else s.evtTime e

/-- The device time at which an event is missed on the coast model: HOLD while not LOCKED, or ON_EDGE while LOST
(R106, R111). -/
def State.missTime (s : State) (e : Evt) : Option Nat :=
  let k := tab s.time.trks e.tl
  if e.tl = 0 then none
  else if e.onEdge then (if k.st = 4 then s.evtTime e else none)
  else if e.policy = 0 && k.st != 2 then s.evtTime e
  else none

/-! ### Firing (R104 to R118) -/

/-- What EVT_HOST and EVT_MISSED show of a target: cycle and phase, or on timeline 0 the seconds and the
fraction of the second (R92). -/
def Evt.shown (e : Evt) : Nat × Nat :=
  if e.tl = 0 then (tSec e.tgt % 4294967296, tNs e.tgt * 4294967296 / 1000000000)
  else (e.cyc % 4294967296, e.phase)

/-- The event after an occurrence: at its next target (R108), or none when its slot is freed (R107). A firing
counts against REPEAT, a missed occurrence does not. -/
def Evt.next (e : Evt) (fired : Bool) : Option Evt :=
  if e.period = 0 then none
  else
    let e' := { e with
      tgt := if e.tl = 0 then e.tgt + e.period else e.tgt
      cyc := if e.tl = 0 then e.cyc else e.cyc + e.period
      frozen := e.frozen.map (· + e.fper) }
    match e.left, fired with
    | some 0, _ => none
    | some 1, true => none
    | some (n + 1), true => some { e' with left := some n }
    | _, _ => some e'

/-- The slot after an occurrence. -/
def TimeSt.advance (t : TimeSt) (slot : Nat) (e : Evt) (fired : Bool) : TimeSt :=
  { t with evts := match e.next fired with
      | some e' => aset t.evts slot e'
      | none => adel t.evts slot }

/-- Module safe state holds a pin inactive unless SAFE_RUN is set for it (R115). -/
def State.pinRuns (s : State) (pin : Nat) : Bool := s.flt.safe.isNone || (tab s.time.pins pin).safeRun

/-- A pulse starts on an EV pin at a device time, or a running one is extended to WIDTH after this start (R104, R113, R114). -/
def State.pulse (s : State) (pin start : Nat) : State :=
  if s.pinRuns pin then
    let p := tab s.time.pins pin
    let d := s.eighths (start - s.now)
    let s := if p.ends.isSome then s else s.emitAt (s.now + d) .ev [pin, b01 (!p.activeLow)]
    s.onTime fun t =>
      { t with pins := upd t.pins pin fun p => { p with ends := some (s.raw + d + p.width * nsU) } }
  else s

/-- A start record enters DP6's queue, or is discarded when that is full (R116, R118). -/
def State.startScript (s : State) (slot flags fireT : Nat) (e : Evt) : State :=
  if s.time.startQ.length < 32 then
    s.onTime fun t => { t with startQ := t.startQ ++ [⟨e.script, slot, flags, fireT, e.shown.1, e.shown.2⟩] }
  else s.raise 0x01 0x08 e.tl

/-- A firing: the slot and its event; the flags (bit 0 LATE, 1 STEPPED, 2 COAST, 3 FALLBACK); the fire time that is reported;
the device times of its internal actions and of its edge at an EV pin. What a phase edge causes within 56 ns is worked out in
the row of the edge and carries its own times (R106; log entry 72). -/
structure Firing where
  slot : Nat
  e : Evt
  flags : Nat
  fireT : Nat
  actT : Nat
  pinT : Nat
  deriving DecidableEq, Repr, Inhabited

/-- An event fires: its EV, script, host and trigger actions, then its next occurrence (R104, R108, R113). -/
def State.fire (s : State) (f : Firing) : State :=
  let e := f.e
  let s := if e.actEv then s.pulse e.pin f.pinT else s
  let s := if e.actScript then s.startScript f.slot f.flags f.fireT e else s
  let s := if e.actHost then
      s.eventAt f.fireT 0x0102 0xFF timeVector [f.slot, e.user.toNat, f.flags, e.shown.1]
    else s
  let s := if e.actTrigger then s.emitAt f.actT .trigger [e.trigger] else s
  s.onTime fun t =>
    { t.advance f.slot e true with opsDue := match e.op with | some o => t.opsDue ++ [o] | none => t.opsDue }

/-- An event is missed: discarded with TIME:0x07 and EVT_MISSED (R106, R111, R593). -/
def State.miss (s : State) (slot : Nat) (e : Evt) : State :=
  let s := (s.raise 0x01 0x07 e.tl).event 0x0103 0xFF timeVector [slot, e.user.toNat, e.shown.1, e.shown.2]
  s.onTime fun t => t.advance slot e false

/-- The flags of a firing in the state of its timeline. -/
def State.flagsOf (s : State) (e : Evt) : Nat :=
  if e.frozen.isSome then 8
  else if e.tl != 0 && (tab s.time.trks e.tl).st != 2 then 4 else 0

/-- The order of R37 over slot numbers from the pointer (R110). -/
def TimeSt.slotOrder (t : TimeSt) (l : List (Nat × Evt)) : List (Nat × Evt) :=
  sortBy (fun p => (p.1 + 1024 - t.evtPtr) % 1024) l

/-- Several events fire in one clock, in the order of R37, which moves the pointer past each (R110). -/
def State.fireAll (s : State) (l : List Firing) : State :=
  (sortBy (fun f => (f.slot + 1024 - s.time.evtPtr) % 1024) l).foldl
    (fun s f => (s.fire f).onTime fun t => { t with evtPtr := (f.slot + 1) % 1024 }) s

/-- The pending events that fire by time, with their device times. -/
def State.timed (s : State) : List (Nat × Evt × Nat) :=
  s.time.evts.filterMap fun p => (s.fireTime p.2).map fun t => (p.1, p.2, t)

/-- EVENT_FIRE: the clock runs on to the one that contains the earliest fire time, and every event due in it fires (R104, R110). -/
def fireEvents (s : State) : State :=
  match minBy (fun p => p.2.2) s.timed with
  | none => s
  | some first =>
    let s := s.toClockOf first.2.2
    let due := s.timed.filter (fun p => decide (p.2.2 < s.now + s.time.addend))
    s.fireAll (due.map fun p => ⟨p.1, p.2.1, s.flagsOf p.2.1, p.2.2, s.now, p.2.2⟩)

/-- EVENT_MISSED: the clock runs on to the earliest target missed on a coast model, which is discarded. -/
def missEvents (s : State) : State :=
  let miss := s.time.evts.filterMap fun p => (s.missTime p.2).map fun t => (p.1, p.2, t)
  match minBy (fun p => p.2.2) miss with
  | none => s
  | some p => (s.toClockOf p.2.2).miss p.1 p.2.1

/-- The events of a skipped interval [old, new) of a forward step fire in the step clock with STEPPED, a periodic one once; it
then resumes at its first target at or after the new time (R90, R111). The fire time that they report is their target, which the
step skipped; their actions and pin edges are those of the step clock (DESIGN CHOICE, log entry 72). -/
def skipEvents (s : State) (old new : Nat) : State :=
  let hit := s.time.evts.filterMap fun p =>
    if p.2.onEdge then none
    else
      let tm := if p.2.tl = 0 then some p.2.tgt else p.2.frozen
      match tm with
      | some t =>
        if old ≤ t && decide (t < new) then some (⟨p.1, p.2, s.flagsOf p.2 + 2, t, s.now, s.now⟩ : Firing) else none
      | none => none
  let s := s.fireAll hit
  s.onTime fun t =>
    { t with evts := t.evts.map fun p =>
        let e := p.2
        if e.period = 0 then p
        else if e.tl = 0 then
          if hit.any (·.slot == p.1) && decide (e.tgt < new) then
            (p.1, { e with tgt := e.tgt + ceilDiv (new - e.tgt) e.period * e.period })
          else p
        else match e.frozen with
          | some f =>
            if hit.any (·.slot == p.1) && decide (f < new) && 0 < e.fper then
              let n := ceilDiv (new - f) e.fper
              (p.1, { e with frozen := some (f + n * e.fper), cyc := e.cyc + n * e.period })
            else p
          | none => p }

/-! ### Trackers (R96 to R102) -/

/-- A change of one tracker. -/
def State.onTrk (s : State) (tl : Nat) (f : Trk → Trk) : State :=
  s.onTime fun t => { t with trks := upd t.trks tl f }

/-- The tracker of a timeline. -/
def State.trk (s : State) (tl : Nat) : Trk := tab s.time.trks tl

/-- FALLBACK events of a timeline take the device times of the coast model (R111). -/
def freezeFallback (s : State) (tl : Nat) : State :=
  let k := s.trk tl
  match k.coastOf with
  | none => s
  | some c =>
    s.onTime fun t =>
      { t with evts := t.evts.map fun p =>
          let e := p.2
          if e.tl = tl && e.policy = 2 && !e.onEdge && e.placed && e.frozen.isNone then
            (p.1, { e with
              frozen := some (s.rawToDev (k.targetRaw e.cyc e.phase c.raw c.edge c.tpred))
              fper := e.period * k.e * c.tpred })
          else p }

/-- Whether a target lies at or before the position of an accepted edge (R593). -/
def Trk.behind (k : Trk) (e : Evt) : Bool := decide (e.cyc * k.e * 4294967296 + e.phase * k.e ≤ k.edge * 4294967296)

/-- An event held under R593 is placed in its slot: a target at or before the position, or more than 2^31 cycles ahead, is missed,
and so is each further target of a periodic event that is still behind. -/
def placeEvt (k : Trk) (slot : Nat) : Nat → State → State
  | 0, s => s
  | fuel + 1, s =>
    match alookup s.time.evts slot with
    | none => s
    | some e =>
      if k.behind e then placeEvt k slot fuel (s.miss slot e)
      else if k.edge / k.e + 2147483648 < e.cyc then s.miss slot e
      else s

/-- The events held under R593 are placed when their timeline enters LOCKED. -/
def placeHeld (s : State) (tl : Nat) : State :=
  let k := s.trk tl
  let cur := k.edge / k.e
  let held := s.time.evts.filter fun p => p.2.tl == tl && !p.2.placed
  held.foldl (fun s p =>
    let e := { p.2 with placed := true, cyc := cur / 4294967296 * 4294967296 + p.2.cyc }
    placeEvt k p.1 (cur - e.cyc + 2) (s.onTime fun t => { t with evts := aset t.evts p.1 e })) s

/-- Whether a timeline is the line tracker of the channel that BLIT_BW names (R189). -/
def State.blitDead (s : State) (tl : Nat) : Bool :=
  s.blit.deadCh.any fun c => s.cap.ips.any fun p => p.used && p.chan == c && p.input + 5 == tl

/-- That tracker leaves or enters LOCKED: the period without dead windows begins with BLIT:0x03, or ends. -/
def State.deadLock (s : State) (old new : Nat) : State :=
  if old = 2 then (s.raise 0x04 0x03).onBlit fun b => { b with offSeen := true }
  else if new = 2 then s.onBlit fun b => { b with offSeen := false }
  else s

/-- A timeline changes its state: TL_STATE is written (R98 to R101), FALLBACK events freeze when it leaves LOCKED,
and the causes of TIME:0x01 and 0x03 end when it leaves LOST. -/
def setTl (s : State) (tl new : Nat) : State :=
  let old := (s.trk tl).st
  if old = new then s
  else
    let s := s.onTrk tl fun k => { k with st := new }
    let s := if old = 4 then 
        let s := (s.causeOff 0x01 0x01 tl).causeOff 0x01 0x03 tl
        if 5 ≤ tl then s.causeOff 0x02 0x02 (tl - 5) else s
      else s
    let s := if new = 1 || new = 3 || new = 4 then freezeFallback s tl else s
    let s := if s.blitDead tl then s.deadLock old new else s
    let p := s.position tl
    s.event 0x0101 0xFF timeVector [at' tl 8 + at' new 4 + old, p.1, p.2]

/-- The events of a timeline after the edge numbered `edge` has been accepted at raw time r. ON_EDGE events of that edge fire
40 ns after it, with their EV edge 56 ns after it, and those passed are missed. Where the timeline is followed, others whose edge
lies behind fire LATE in the clock after this one; at a relock, of HOLD only the targets still ahead fire again, so that those
behind are missed (R105, R106, R111). -/
def edgeEvents (s : State) (tl edge r : Nat) (follow relock forward : Bool) : State :=
  let k := s.trk tl
  let evs := s.time.evts.filter fun p => p.2.tl == tl && p.2.placed
  let t := s.rawToDev r
  let hit := evs.filter fun p => p.2.onEdge && forward && k.targetEdge p.2.cyc p.2.phase == edge
  let behind := evs.filter fun p => p.2.frozen.isNone && decide (k.targetEdge p.2.cyc p.2.phase < edge)
  let gone := behind.filter fun p => p.2.onEdge || (relock && p.2.policy == 0)
  let late := if follow then behind.filter fun p => !p.2.onEdge && !(relock && p.2.policy == 0) else []
  let next := s.now + s.time.addend
  let s := s.fireAll (hit.map fun p => ⟨p.1, p.2, 0, t + 40 * nsU, t + 40 * nsU, t + 56 * nsU⟩)
  let s := gone.foldl (fun s p => s.miss p.1 p.2) s
  let s := s.fireAll (late.map fun p => ⟨p.1, p.2, 1, next, next, next⟩)
  late.foldl (fun s _ => s.raise 0x01 0x06 tl) s

/-- The mean of the last three intervals when each lies within SLEW of it (R100). -/
def Trk.consistent (k : Trk) : Option Nat :=
  if k.ivals.length < 3 then none
  else
    let l := k.ivals.take 3
    let sum := l.foldl (· + ·) 0
    let ok := l.all fun i => (max (3 * i) sum - min (3 * i) sum) * 1000 ≤ k.slew * sum
    if ok && 0 < sum then some (quot 100 sum 3) else none

/-- T_pred moves by (I - T_pred) x 2^-GAIN (R98); the rounding below 2^-32 ns is free. -/
def followPred (tp i gain : Nat) : Nat :=
  if tp ≤ i then tp + quot 98 (i - tp) (2 ^ gain) else tp - quot 99 (tp - i) (2 ^ gain)

/-- The timeline locks at an edge: T_pred is the mean, and the coast model anchors there (R95, R100). The events held under
R593 are placed, at the first lock and after a time in IDLE. -/
def lockTl (s : State) (tl mean r edge : Nat) : State :=
  let s := s.onTrk tl fun k =>
    { k with tpred := mean, edge := edge, coast := some ⟨r, edge, mean⟩, waitZ := none }
  placeHeld (setTl s tl 2) tl

/-- The edge of a coast model nearest to a raw time; halfway between two it is the later one (DESIGN CHOICE, log entry 72). -/
def Coast.nearest (c : Coast) (r : Nat) : Nat := c.edge + (2 * (r - c.raw) + c.tpred) / (2 * c.tpred)

/-- The number that an accepted edge has but for an index (R95, R100, R130): in LOST that of the nearest coast-model edge; for a
line its own number, at the first line of a frame in a new cycle; else the next one, backwards the one before, never below 0. -/
def plainNumber (k : Trk) (r : Nat) (line : Option (Nat × Bool)) : Nat :=
  match decide (k.st = 4), k.coastOf, line with
  | true, some c, none => c.nearest r
  | true, some c, some (ln, _) =>
    let n := c.nearest r
    (n + k.e / 2 - min ln (n + k.e / 2)) / k.e * k.e + ln
  | _, _, some (ln, true) => (k.edge / k.e + 1) * k.e + ln
  | _, _, some (ln, false) => k.edge / k.e * k.e + ln
  | _, _, none => if k.forward then k.edge + 1 else k.edge - 1

/-- The number of an accepted edge: at an index edge 0 of a new cycle (R100, R101). -/
def numberEdge (k : Trk) (r : Nat) (line : Option (Nat × Bool)) : Nat :=
  let n := plainNumber k r line
  if k.zPend && n % k.e != 0 then (n / k.e + 1) * k.e else n

/-- An edge's interval is within SLEW of T_pred (R98). -/
def Trk.within (k : Trk) (i : Nat) : Bool := (max i k.tpred - min i k.tpred) * 1000 ≤ k.slew * k.tpred

/-- An accepted edge of a tracker at raw time r: the glitch test, numbering, classification and state changes of
R98 to R101. `turned` says that the direction changes with this edge, whose interval is then none between forward edges. An edge
accepted in LOST is not classified against the T_pred of before the loss: the example of R111 raises no TIME:0x02 there (DEDUCED,
log entry 72). -/
def acceptEdge (s : State) (tl r : Nat) (line : Option (Nat × Bool)) (turned : Bool := false) : State :=
  let k := s.trk tl
  let iv := k.last.map (r - ·)
  let glitch := match iv with
    | some i => decide (0 < k.tpred) && decide (2 * i < k.tpred)
    | none => false
  if glitch then s.onTrk tl fun k => { k with glitches := satAdd k.glitches 1 0xFFFF }
  else
    let n := numberEdge k r line
    let wrong := k.zPend && k.coastOf.isSome && plainNumber k r line % k.e != 0
    let s := if wrong then s.raise 0x01 0x04 tl else s
    let s := s.onTrk tl fun k =>
      { k with last := some r, lossFrom := r, edge := n, zPend := false
               ivals := match turned, iv with
                 | true, _ => []
                 | false, some i => (i :: k.ivals).take 3
                 | false, none => k.ivals }
    let k' := s.trk tl
    let i := iv.getD 0
    let tp := followPred k.tpred i k.gain
    let mean := if k.forward then k'.consistent else none
    if k.st = 2 then
      let s := if k.within i then s.onTrk tl fun k => { k with tpred := tp, coast := some ⟨r, n, tp⟩ }
        else setTl (s.raise 0x01 0x02 tl) tl 3
      edgeEvents s tl n r true false k.forward
    else if k.st = 4 then
      if k.overrate && k.passRun ≤ 64 then edgeEvents s tl n r false false k.forward
      else
        let s := s.onTrk tl fun k => { k with overrate := false }
        match k.coastOf with
        | some _ => edgeEvents (setTl s tl 3) tl n r false false k.forward
        | none => setTl (s.onTrk tl fun k => { k with ivals := [], edge := 0 }) tl 1
    else if k.st = 3 then
      match mean with
      | some m => edgeEvents (lockTl s tl m r n) tl n r true true k.forward
      | none =>
        let s := if k.within i then s.onTrk tl fun k => { k with tpred := tp } else s.raise 0x01 0x02 tl
        edgeEvents s tl n r false false k.forward
    else
      -- ACQUIRE: the first lock waits for an index where the mode has one (R100)
      let near (m : Nat) : Bool := (max m k.nominal - min m k.nominal) * 4 ≤ k.nominal && decide (0 < k.nominal)
      let lock (m e : Nat) : State := edgeEvents (lockTl s tl m r e) tl e r true true k.forward
      let wait := edgeEvents s tl n r false false k.forward
      match k.waitZ, k.zPend && k.forward with
      | some m, true => lock m 0
      | some _, false => wait
      | none, _ =>
        match mean with
        | some m =>
          if near m then
            if k.mode = 2 || (k.mode = 3 && k.zEn) then wait.onTrk tl fun k => { k with waitZ := some m }
            else lock m (if k.mode = 5 then n else 0)
          else wait
        | none => wait

/-- The nominal interval of a tracker follows the input's accepted format in mode INPUT_LINES (R100). A tracker that had no
format when it entered ACQUIRE runs its loss window from this format (DESIGN CHOICE, log entry 72). -/
def setLineFormat (s : State) (input nominal e : Nat) : State :=
  let s := s.onTime fun t =>
    { t with inNominal := upd t.inNominal input fun _ => nominal, inE := upd t.inE input fun _ => max 1 e }
  if (s.trk (5 + input)).mode = 5 then
    s.onTrk (5 + input) fun k =>
      { k with nominal := nominal, e := max 1 e
               lossFrom := if k.nominal = 0 && k.last.isNone then s.raw else k.lossFrom }
  else s

/-- A line edge from the input processor of an input, for a tracker in mode INPUT_LINES (R130). -/
def lineEdge (s : State) (input line : Nat) (newFrame : Bool) : State :=
  let tl := 5 + input
  if (s.trk tl).mode = 5 then acceptEdge s tl s.raw (some (line, newFrame)) else s

/-- A timeline enters LOST, which raises TIME:0x01 (R96, R99). -/
def loseTl (s : State) (tl : Nat) : State :=
  setTl ((s.raiseOn 0x01 0x01 tl).onTrk tl fun k => { k with waitZ := none }) tl 4

/-- The input filter of a signal (R96): discarded less than 24 ns after the last edge accepted on it. -/
def filterEdge (s : State) (tl r : Nat) (get : Trk → PhSig) (put : PhSig → Trk → Trk) : Bool × State :=
  let k := s.trk tl
  let close := match (get k).last with
    | some l => decide (r - l < 24 * nsU)
    | none => false
  if close then
    let s := s.onTrk tl fun k =>
      { k with filtered := satAdd k.filtered 1 0xFFFF, filterRun := k.filterRun + 1, passRun := 0 }
    let s := if (s.trk tl).filterRun = 1024 then
        let s := (s.raiseOn 0x01 0x03 tl).onTrk tl fun k => { k with overrate := true }
        if (s.trk tl).st = 4 then s else loseTl s tl
      else s
    (false, s)
  else
    (true, s.onTrk tl fun k =>
      put { get k with last := some r } { k with filterRun := 0, passRun := k.passRun + 1 })

/-- A quadrature edge's direction: A leads B when turning forwards (PRESUMED, log entry 10). -/
def quadForward (a b : Bool) (sigA : Bool) : Bool := if sigA then a != b else a == b

/-- A reversal of direction in QUAD mode (R101), or a return to forward. -/
def turnQuad (s : State) (tl : Nat) (fwd : Bool) : State :=
  let k := s.trk tl
  if k.forward = fwd then s
  else
    let s := s.onTrk tl fun k => { k with forward := fwd, reverse := !fwd, ivals := [], waitZ := none }
    if fwd then s
    else
      let s := s.raise 0x01 0x09 tl
      if k.st = 2 then setTl s tl 3 else s

/-- PH_EDGE: signal 0 A, 1 B, 2 Z of PHn changes its level after some eighths of a core clock (R96 to R101). -/
def phEdgeAt (s : State) (eighths ph sig : Nat) : State :=
  let r := s.raw + quot 97 (s.time.addend * eighths) 8
  let s := s.pass (eighths / 8)
  let tl := ph + 1
  if 3 < ph || 2 < sig then s
  else
    let k := s.trk tl
    let lvl := match sig with | 0 => !k.sigA.level | 1 => !k.sigB.level | _ => !k.sigZ.level
    let s := s.onTrk tl fun k =>
      match sig with
      | 0 => { k with sigA := { k.sigA with level := lvl } }
      | 1 => { k with sigB := { k.sigB with level := lvl } }
      | _ => { k with sigZ := { k.sigZ with level := lvl } }
    let active := lvl != k.polarity
    if sig = 2 then
      if active && (k.mode = 2 || (k.mode = 3 && k.zEn)) then
        let (ok, s) := filterEdge s tl r (·.sigZ) (fun g k => { k with sigZ := g })
        if ok then s.onTrk tl fun k => { k with zPend := true } else s
      else s
    else if sig = 1 then
      if k.mode = 2 then
        let (ok, s) := filterEdge s tl r (·.sigB) (fun g k => { k with sigB := g })
        let fwd := quadForward k.sigA.level lvl false
        if ok then acceptEdge (turnQuad s tl fwd) tl r none (fwd != k.forward) else s
      else s
    else if k.mode = 2 || ((k.mode = 1 || k.mode = 3 || k.mode = 4) && active) then
      let (ok, s) := filterEdge s tl r (·.sigA) (fun g k => { k with sigA := g })
      if ok then
        let fwd := quadForward lvl k.sigB.level true
        if k.mode = 2 then acceptEdge (turnQuad s tl fwd) tl r none (fwd != k.forward) else acceptEdge s tl r none
      else s
    else s

/-- The raw time at which a tracker's loss window expires (R99). -/
def Trk.lossAt (k : Trk) : Option Nat :=
  if k.st = 1 then
    if k.nominal = 0 then none else some (k.lossFrom + k.loss * k.nominal / 4)
  else if k.st = 2 || k.st = 3 then some (k.lossFrom + k.loss * k.tpred / 4)
  else none

/-- The tracker whose loss window expires first. -/
def State.firstLoss (s : State) : Option (Nat × Nat) :=
  minBy (·.2) ((List.range 13).filterMap fun tl => ((s.trk tl).lossAt).map fun t => (tl, t))

/-! ### Commands of group 0x01 -/

/-- TIME_GET (0x0100). -/
def hTimeGet (_ : Vx) (s : State) : Res := .ok (timeNats s.now ++ [s.time.addend, s.time.sourceWord]) s

/-- TIME_TRIM (0x0103): the FREE-mode trim in ppb (R86). -/
def hTimeTrim (c : Vx) (s : State) : Res :=
  let v := sgn32 (c.w 2).toNat
  refuse (decide (v < -1000000) || decide (1000000 < v)) .badParam 2 <|
  refuse (s.time.mode != 0) .badState noWord <|
  .ok [] (s.onTime fun t => { t with trim := v, addend := trimAddend v })

/-- The mode's default GAIN (table "Tracker modes"). -/
def defaultGain : Nat → Nat
  | 1 => 2
  | 2 => 3
  | 3 => 3
  | 4 => 5
  | _ => 4

/-- A TL_CONFIG takes effect: the tracker restarts in ACQUIRE, or is IDLE (R102, R119). An edge accepted in this
very clock is the first edge of ACQUIRE. A coast model is kept with its absolute edge number, which a changed E reads as another
cycle and edge (DESIGN CHOICE, log entry 72). -/
def configureTl (s : State) (tl : Nat) (cfg : Trk) : State :=
  let old := s.trk tl
  let same := match old.last with
    | some r => decide (s.raw ≤ r)
    | none => false
  let s := s.onTrk tl fun k =>
    { cfg with
      st := k.st, reverse := false, forward := true, tpred := 0
      last := if same then k.last else none
      lossFrom := if same then k.lossFrom else s.raw
      edge := if cfg.mode = 5 then k.edge else 0
      ivals := [], coast := k.coast, zPend := false, waitZ := none
      filterRun := 0, overrate := false, passRun := 0
      filtered := k.filtered, glitches := k.glitches, sigA := k.sigA, sigB := k.sigB, sigZ := k.sigZ }
  setTl s tl (if cfg.mode = 0 then 0 else 1)

/-- TL_CONFIG (0x0110; R119, table "TL_CONFIG payload"). -/
def hTlConfig (c : Vx) (s : State) : Res :=
  let w2 := c.w 2
  let tl := fld w2 3 0
  let mode := fld w2 7 4
  let gain := fld w2 15 12
  let edges := fld (c.w 4) 15 0
  let loss := fld (c.w 5) 13 8
  let slew := fld (c.w 5) 7 0
  refuseRsv c [(2, msk 15 12 + msk 10 0), (4, msk 15 0), (5, msk 13 0)] <|
  refuse (tl == 0 || decide (12 < tl)) .badParam 2 <|
  refuse (if tl ≤ 4 then decide (4 < mode) else mode != 0 && mode != 5) .badParam 2 <|
  refuse (decide (8 < gain) && gain != 15) .badParam 2 <|
  refuse (decide (1 ≤ mode) && decide (mode ≤ 4) && decide ((c.w 3).toNat < 48)) .badParam 3 <|
  refuse ((mode == 2 || mode == 3) && edges == 0) .badParam 4 <|
  refuse (loss != 0 && (decide (loss < 5) || decide (32 < loss))) .badParam 5 <|
  refuse (decide (250 < slew)) .badParam 5 <|
  let cfg : Trk :=
    { mode := mode, polarity := bit w2 8, elec := bit w2 9, zEn := bit w2 10
      gain := if gain = 15 then defaultGain mode else gain
      loss := if loss = 0 then 8 else loss
      slew := if slew = 0 then 20 else slew
      nominal := if mode = 5 then tab s.time.inNominal (tl - 5) else (c.w 3).toNat * nsU
      e := match mode with
        | 2 => 4 * edges
        | 3 => edges
        | 5 => max 1 (tab s.time.inE (tl - 5))
        | _ => 1 }
  .ok [] (configureTl s tl cfg)

/-- TB_TL_GLITCH of a timeline; timeline 0 has no tracker and counts nothing. -/
def TimeSt.glitchWord (t : TimeSt) (tl : Nat) : Nat :=
  let k := tab t.trks tl
  at' k.filtered 16 + k.glitches

/-- TL_QUERY (0x0111). T_pred of timeline 0, and of a timeline before its first lock, is not stated and free. -/
def hTlQuery (c : Vx) (s : State) : Res :=
  let tl := fld (c.w 2) 3 0
  refuseRsv c [(2, msk 3 0)] <|
  refuse (decide (12 < tl)) .badParam 2 <|
  let k := s.trk tl
  let tp := if tl = 0 || k.tpred = 0 then s.freeVal 111 tl else k.tpred
  let p := s.position tl
  .ok [if tl = 0 then 2 else k.st, tp / nsU, tp % nsU, p.1, p.2, s.time.glitchWord tl] s.drawn

/-- What EVT_ADD asks for, from its eight payload words (table "EVT_ADD payload"). -/
def evtOf (ws : Nat → Word) (byScript : Bool) : Evt :=
  let w2 := ws 2
  let tl := fld w2 3 0
  let period := (ws 6).toNat
  let rep := fld (ws 7) 15 0
  { tl := tl, policy := fld w2 5 4, onEdge := bit w2 6
    actEv := bit w2 8, actScript := bit w2 9, actHost := bit w2 10, actTrigger := bit w2 11
    pin := fld w2 13 12, trigger := fld (ws 8) 27 16, script := fld (ws 8) 5 0, user := ws 9
    tgt := if tl = 0 then
        mkTime ((ws 4).toNat + fld (ws 5) 15 0 * 4294967296) (ws 3).toNat (fld (ws 5) 31 16)
      else 0
    cyc := if tl = 0 then 0 else (ws 3).toNat
    phase := if tl = 0 then 0 else (ws 4).toNat
    period := if tl = 0 then (if period = 0 then 0 else period * nsU + fld (ws 7) 31 16 * 65536) else period
    left := if period = 0 then some 1 else if rep = 0 then none else some rep
    placed := true, frozen := none, fper := 0, byScript := byScript }

/-- The checks and the placing of EVT_ADD, shared by the command and DP6's port (R107, R120, R594). The answer is
the slot, or a status with the slot word at fault. -/
def addEvt (s : State) (ws : Nat → Word) (scriptLoaded byScript : Bool) : Except (Status × Nat) (Nat × State) :=
  let e := evtOf ws byScript
  let k := s.trk e.tl
  let period := (ws 6).toNat
  let bad : Option (Status × Nat) :=
    if e.tl = 0 && badNs (ws 3) then some (.badParam, 3)
    else if (ws 2).toNat &&& (0xFFFFFFFF ^^^ (msk 13 8 + msk 6 0)) != 0 then some (.badParam, 2)
    else if e.tl != 0 && (ws 5).toNat != 0 then some (.badParam, 5)
    else if e.tl != 0 && fld (ws 7) 31 16 != 0 then some (.badParam, 7)
    else if (ws 8).toNat &&& (0xFFFFFFFF ^^^ (msk 27 16 + msk 5 0)) != 0 then some (.badParam, 8)
    else if 12 < e.tl || e.policy = 3 then some (.badParam, 2)
    else if !(e.actEv || e.actScript || e.actHost || e.actTrigger) then some (.badParam, 2)
    else if e.actTrigger && !Config.triggerKnown e.trigger then some (.badParam, 8)
    else if e.actScript && !scriptLoaded then some (.badParam, 8)
    else if e.onEdge && (e.tl = 0 || (e.phase * k.e) % 4294967296 != 0) then some (.badParam, 2)
    else if e.tl != 0 && 65535 < period then some (.badParam, 6)
    else if e.tl = 0 && e.period != 0 && period < 1000 then some (.badParam, 6)
    else none
  match bad with
  | some b => .error b
  | none =>
    let held := e.tl != 0 && k.coastOf.isNone && k.st != 2
    let cur := (s.position e.tl).1
    let ahead := (e.cyc + 4294967296 - cur % 4294967296) % 4294967296
    let e := if e.tl = 0 then e else if held then { e with placed := false } else { e with cyc := cur + ahead }
    let far := if e.tl = 0 then cur + 2147483648 < tSec e.tgt
      else !held && decide (2147483648 < ahead)
    let soon := match (if held then none else s.evtTime e) with
      | some t => decide (t < s.now + 2 * usU)
      | none => false
    if far || soon then .error (.badParam, if e.tl = 0 then noWord else 3)
    else match lowestFree (s.time.evts.map (·.1)) 1024 with
      | none => .error (.refusedFull, noWord)
      | some slot =>
        let s := s.onTime fun t => { t with evts := aset t.evts slot e }
        .ok (slot, if e.tl != 0 && !held && (k.st = 3 || k.st = 4) then freezeFallback s e.tl else s)

/-- EVT_CANCEL (0x0121): the slot is freed (R107, R109). -/
def hEvtCancel (c : Vx) (s : State) : Res :=
  let slot := fld (c.w 2) 9 0
  refuseRsv c [(2, msk 9 0)] <|
  refuse ((alookup s.time.evts slot).isNone) .badParam 2 <|
  .ok [] (s.onTime fun t => { t with evts := adel t.evts slot })

/-- EVT_QUERY (0x0122). An event without a fire time shows zero (log entry 11). -/
def hEvtQuery (c : Vx) (s : State) : Res :=
  let slot := fld (c.w 2) 9 0
  refuseRsv c [(2, msk 9 0)] <|
  match alookup s.time.evts slot with
  | none => .ok [0, 0, 0, 0, 0] s
  | some e =>
    let t := match s.evtTime e with | some t => timeNats t | none => [0, 0, 0]
    let left := match e.left with | some n => n | none => 0xFFFFFFFF
    .ok ([if e.frozen.isSome then 2 else 1] ++ t ++ [left]) s

/-- The level that an EV pin drives. -/
def EvPin.level (p : EvPin) : Bool := p.ends.isSome != p.activeLow

/-- EV_CONFIG (0x0130; R112, R115, R119). In module safe state a pin that loses SAFE_RUN drives its inactive level. A pin whose
level the new POLARITY changes moves in this clock (DEDUCED from R112, log entry 72). -/
def hEvConfig (c : Vx) (s : State) : Res :=
  let w := (c.w 3).toNat
  let pin := fld (c.w 2) 1 0
  let old := tab s.time.pins pin
  let safeRun := bit (c.w 2) 3
  let new : EvPin := ⟨bit (c.w 2) 2, safeRun, w, if s.flt.safe.isSome && !safeRun then none else old.ends⟩
  refuseRsv c [(2, msk 3 0)] <|
  refuse (decide (w < 8) || decide (1000000000 < w)) .badParam 3 <|
  let s := s.onTime fun t => { t with pins := upd t.pins pin fun _ => new }
  .ok [] (if new.level = old.level then s else s.emit .ev [pin, b01 new.level])

/-! ### Happenings -/

/-- TB_SNAP_NS_READ: device time and all thirteen timelines are latched, and the nanoseconds are read (R91, R92). -/
def execTbSnapNsRead (s : State) : Host.Outcome State Fault Refusal :=
  let snap (tl : Nat) : Snap :=
    let p := s.position tl
    let k := s.trk tl
    if tl = 0 then { cycle := p.1 % 4294967296, phase := p.2, st := 2 }
    else { cycle := p.1 % 4294967296, phase := p.2, mode := k.mode, reverse := k.reverse, st := k.st }
  .next { s.onTime (fun t => { t with snapTime := s.now, snaps := (List.range 13).map snap }) with
          rdata := tNs s.now }

/-- REF10M_GATE: a 1 ms gate over which device time advanced by `advance` ends; the loop sets the addend, which is
clamped (R86), in REF10M mode and for a PTP leader (R439). The loop's own arithmetic is not stated and free. -/
def execRef10mGate (wait advance : Nat) (s : State) : Host.Outcome State Fault Refusal :=
  let s := (s.pass wait).onTime fun t => { t with refPresent := true }
  if (s.time.mode = 1 && !s.time.holdover) || (s.time.mode = 2 && s.net.ptp.st = 6) then
    .next (s.onTime fun t => { t with addend := clampAddend (Config.refLoopAddend t.addend advance) })
  else .next s

/-- REF10M_LOST: no edge for 1 us; in REF10M mode the addend is held and TIME:0x05 is raised (R87). -/
def execRef10mLost (wait : Nat) (s : State) : Host.Outcome State Fault Refusal :=
  let s := (s.pass wait).onTime fun t => { t with refPresent := false }
  if s.time.mode = 1 && !s.time.holdover then
    .next (((s.onTime fun t => { t with holdover := true }).raiseOn 0x01 0x05).event 0x0104 0xFF timeVector [0])
  else .next s

/-- REF10M_RESUME: 10 ms of valid reference; the loop resumes and HOLDOVER clears (R87). -/
def execRef10mResume (wait : Nat) (s : State) : Host.Outcome State Fault Refusal :=
  let s := (s.pass wait).onTime fun t => { t with refPresent := true }
  if s.time.mode = 1 && s.time.holdover then
    .next (((s.onTime fun t => { t with holdover := false }).causeOff 0x01 0x05).event 0x0104 0xFF timeVector [1])
  else .next s

/-- PH_EDGE. -/
def execPhEdge (eighths ph sig : Nat) (s : State) : Host.Outcome State Fault Refusal :=
  .next (phEdgeAt s eighths ph sig)

/-- EVENT_MISSED. -/
def execEventMissed (s : State) : Host.Outcome State Fault Refusal := .next (missEvents s)

/-- EV_PULSE_END: the earliest pulse reaches its end and its pin returns to the inactive level (R114). -/
def execEvPulseEnd (s : State) : Host.Outcome State Fault Refusal :=
  match minBy (·.2) ((List.range 4).filterMap fun i => ((tab s.time.pins i).ends).map fun t => (i, t)) with
  | none => .next s
  | some (i, t) =>
    let s := s.toRawClockOf t
    .next ((s.emitAt (s.now + s.eighths (t - s.raw)) .ev [i, b01 (tab s.time.pins i).activeLow]).onTime fun t =>
      { t with pins := upd t.pins i fun p => { p with ends := none } })

end Sys2Proof.Machine
end

