-- ==== Sys2Proof/Machine/Chan.lean ====
section
/-!
DEFINITION. The geometry, timing and load of channels, shared by capture, composition, encoding, rate control and
packaging, and the admission checks over them (R25 to R35, R148, R154, R192 to R203, R215, R234, R240).
-/
namespace Sys2Proof.Machine

/-! ### Lookups -/

/-- A channel. -/
def State.ch (s : State) (c : Nat) : Ch := tab s.enc.chans c

/-- A change of one channel. -/
def State.onCh (s : State) (c : Nat) (f : Ch → Ch) : State :=
  s.onEnc fun e => { e with chans := upd e.chans c f }

/-- A stream. -/
def State.strm (s : State) (i : Nat) : Strm := tab s.enc.streams i

/-- A change of one stream. -/
def State.onStrm (s : State) (i : Nat) (f : Strm → Strm) : State :=
  s.onEnc fun e => { e with streams := upd e.streams i f }

/-- Whether a channel runs (or waits for its first frame, from which its configuration may no longer change). -/
def State.runs (s : State) (c : Nat) : Bool := (s.ch c).st != 0

/-- Whether any channel runs. -/
def State.anyRuns (s : State) : Bool := (List.range 16).any s.runs

/-- The input processor that feeds a channel (R122). -/
def State.ipOf (s : State) (c : Nat) : Option Nat :=
  (List.range 8).find? fun i => (tab s.cap.ips i).used && (tab s.cap.ips i).chan == c

/-- The processors that read an input. -/
def State.ipsOf (s : State) (inp : Nat) : List Nat :=
  (List.range 8).filter fun i => (tab s.cap.ips i).used && (tab s.cap.ips i).input == inp

/-- The channels that an input feeds. -/
def State.chansOf (s : State) (inp : Nat) : List Nat := (s.ipsOf inp).map fun i => (tab s.cap.ips i).chan

/-- The processor and the input of a channel once both are configured (R595). -/
def State.feed (s : State) (c : Nat) : Option (IpSt × InSt) :=
  match s.ipOf c with
  | none => none
  | some i =>
    let ip := tab s.cap.ips i
    let inp := tab s.cap.ins ip.input
    if inp.kind = 0 then none else some (ip, inp)

/-- The timeline of a channel's line tracker. -/
def State.tlOf (s : State) (c : Nat) : Option Nat := (s.ipOf c).map fun i => 5 + (tab s.cap.ips i).input

/-! ### Geometry (R148, R195, R197, R203) -/

/-- The CTU size of a channel, which is its row height (R195). -/
def ChCfg.ctu (g : ChCfg) : Nat :=
  if g.codec = 0 then (if g.small then 32 else 64) else (if g.small then 64 else 128)

/-- Part i of n in a division of C columns: its start and its width (R148, R197). -/
def part (c n i : Nat) : Nat × Nat :=
  (i * (c / n) + min i (c % n), c / n + (if i < c % n then 1 else 0))

/-- CTU columns and CTU rows of a channel picture. -/
def ChCfg.ctuCols (g : ChCfg) : Nat := ceilDiv g.width g.ctu
def ChCfg.ctuRows (g : ChCfg) : Nat := ceilDiv g.height g.ctu

/-- The rectangle of mosaic tile (tx, ty) in luma samples (R203). -/
def ChCfg.tile (g : ChCfg) (mx my tx ty : Nat) : Rect :=
  let (x, w) := part g.ctuCols mx tx
  let (y, h) := part g.ctuRows my ty
  let u := g.ctu
  ⟨x * u, y * u, min (w * u) (g.width - x * u), min (h * u) (g.height - y * u)⟩

/-- Tile column i of k of a stream rectangle: its start within the stream and its width in luma samples. -/
def tileCol (u : Nat) (r : Rect) (k i : Nat) : Nat × Nat :=
  let (x, w) := part (ceilDiv r.w u) k i
  (x * u, min (w * u) (r.w - x * u))

/-- Rows of a stream rectangle, and the height of its row n. -/
def rowsOf (u : Nat) (r : Rect) : Nat := ceilDiv r.h u
def rowHeight (u : Nat) (r : Rect) (n : Nat) : Nat := min u (r.h - n * u)

/-- The mosaic tiles of a layout as (tx, ty, rectangle). -/
def Layout.tiles (l : Layout) (g : ChCfg) : List (Nat × Nat × Rect) :=
  (List.range l.my).flatMap fun ty => (List.range l.mx).map fun tx => (tx, ty, g.tile l.mx l.my tx ty)

/-- The streams of a channel row in a frame: stream ID, row within the stream (R203, R204). -/
def Layout.rowStreams (l : Layout) (g : ChCfg) (frame crow : Nat) : List (Nat × Nat) :=
  let phase := frame % l.m
  (l.tiles g).filterMap fun (tx, ty, r) =>
    let y := r.y / g.ctu
    if y ≤ crow && crow < y + rowsOf g.ctu r then
      some (l.first + phase * l.mx * l.my + ty * l.mx + tx, crow - y)
    else none

/-- The number of streams of a layout (R202). -/
def Layout.count (l : Layout) : Nat := l.mx * l.my * l.m

/-- The area of a rectangle that a list of rectangles covers. -/
def coveredArea (a : Rect) (rs : List Rect) : Nat :=
  let xs := sortBy id (([a.x, a.x + a.w] ++ rs.flatMap fun r => [r.x, r.x + r.w]).filter
    fun v => a.x ≤ v && v ≤ a.x + a.w)
  let ys := sortBy id (([a.y, a.y + a.h] ++ rs.flatMap fun r => [r.y, r.y + r.h]).filter
    fun v => a.y ≤ v && v ≤ a.y + a.h)
  let spans (l : List Nat) : List (Nat × Nat) := l.zip (l.drop 1)
  ((spans xs).flatMap fun (x0, x1) => (spans ys).map fun (y0, y1) =>
    if rs.any fun r => r.x ≤ x0 && x1 ≤ r.x + r.w && r.y ≤ y0 && y1 ≤ r.y + r.h then
      (x1 - x0) * (y1 - y0) else 0).foldl (· + ·) 0

/-! ### Timing (R195 to R197, R234, R238) -/

/-- The frame period of a channel in time units (R595). -/
def ChCfg.framePer (g : ChCfg) : Q := ⟨g.fden * secU, g.fnum⟩

/-- The line period of the input (R196). -/
def lineTime (g : ChCfg) (i : InSt) : Q := ⟨g.fden * secU, g.fnum * i.total⟩

/-- The crop window of a processor, with the sizes that 0 selects (table "IP_CONFIG payload"). -/
def IpSt.crop (p : IpSt) (i : InSt) : Rect :=
  ⟨p.cropX, p.cropY, if p.cropW = 0 then i.pixels - p.cropX else p.cropW,
    if p.cropH = 0 then i.lines - p.cropY else p.cropH⟩

/-- The row period of a channel whose processor and input are configured (R196). -/
def rowTime (g : ChCfg) (p : IpSt) (i : InSt) : Q :=
  if p.rotate = 0 then
    let h := (p.crop i).h
    if h = p.outH then (lineTime g i).mul ⟨g.ctu, 1⟩
    else (lineTime g i).mul ⟨g.ctu * h, p.outH⟩
  else (lineTime g i).mul ⟨i.lines, g.ctuRows⟩

/-- The row period of a channel, once the figures that it needs are configured (R595). -/
def State.tRow (s : State) (c : Nat) : Option Q :=
  match (s.ch c).cfg, s.feed c with
  | some g, some (p, i) => if i.total = 0 || p.outH = 0 then none else some (rowTime g p i)
  | _, _ => none

/-- A row period in whole units, rounded up; the rounding of a period that is no whole number is free. -/
def State.tRowU (s : State) (c : Nat) : Nat := match s.tRow c with | some q => q.quot 196 | none => 0

/-- The failover reserve in force: 150 us or nothing. -/
def Ch.x (h : Ch) : Nat := if h.x150 then 150 * usU else 0

/-- The reserve-path time of a task: luma samples at 64 per core clock (R234). -/
def rsvTime (samples : Nat) : Nat := quot 234 (samples * nominalAddend) 64

/-- The row deadline of a row that starts at S (R234). -/
def State.rowDeadline (s : State) (c start : Nat) : Nat := start + 3 * s.tRowU c + (s.ch c).x

/-- The issue time I_n of a row that starts at S (R207). -/
def State.issueTime (s : State) (c start : Nat) : Nat := start + s.tRowU c

/-- The last input line on which an output row depends (R32, R138): without scaling the row's last line; with
vertical scaling the last of the six filter taps of its last output line (DEDUCED, log entry 20). -/
def rowLastLine (g : ChCfg) (p : IpSt) (i : InSt) (row : Nat) : Nat :=
  let cr := p.crop i
  if p.rotate != 0 then
    -- (r + 1) / R_out of the active lines have ended (R139)
    min (i.lines - 1) (ceilDiv ((row + 1) * i.lines) g.ctuRows - 1)
  else
    let y := min ((row + 1) * g.ctu) p.outH - 1
    if cr.h = p.outH then cr.y + y
    else cr.y + min (cr.h - 1) (((2 * y + 1) * cr.h - p.outH) / (2 * p.outH) + 3)

/-- A capture time on the schedule that a new active module continues (R484). -/
def State.shifted (s : State) (c t : Nat) : Nat := ((t : Int) + tab s.twin.shift c).toNat

/-- The predicted capture time of a row in a tracker cycle, as a device time: the edge of the line after the last
one, as the timeline stands (R32, R95, "Late and damaged rows"). -/
def State.predictRow (s : State) (c cycle row : Nat) : Option Nat :=
  match (s.ch c).cfg, s.ipOf c, s.feed c with
  | some g, some ix, some (p, i) =>
    let k := s.trk (5 + (tab s.cap.ips ix).input)
    let e := cycle * k.e + rowLastLine g p i row + 1
    let go (base edge tp : Nat) : Nat := s.shifted c (s.rawToDev ((base : Int) + ((e : Int) - edge) * tp))
    match decide (k.st = 2), k.last, k.coastOf with
    | true, some l, _ => some (go l k.edge k.tpred)
    | _, _, some co => some (go co.raw co.edge co.tpred)
    | _, _, none => none
  | _, _, _ => none

/-- The row start S that belongs to a capture time: one frame period later for a rotated input (R197). -/
def State.startOf (s : State) (c capT : Nat) : Nat :=
  match (s.ch c).cfg, s.feed c with
  | some g, some (p, _) => if p.rotate = 0 then capT else capT + g.framePer.quot 197
  | _, _ => capT

/-- The predicted row start of a row of a channel frame. -/
def State.predictStart (s : State) (c frame row : Nat) : Option Nat :=
  (s.predictRow c ((s.ch c).cycleOf frame) row).map (s.startOf c)

/-! ### Load (R27, R199) -/

/-- Luma samples per second of the whole channel picture. -/
def ChCfg.lumaRate (g : ChCfg) : Q := ⟨g.width * g.height * g.fnum, g.fden⟩

/-- The multipliers of R27 but the lossless one. -/
def ChCfg.mult (g : ChCfg) : Q :=
  let q : Q := match g.chroma with | 0 => ⟨75, 100⟩ | 1 => ⟨1, 1⟩ | 2 => ⟨133, 100⟩ | _ => ⟨2, 1⟩
  let q := if g.depth = 2 then q.mul ⟨11, 10⟩ else q
  let q := if g.codec = 1 then q.mul ⟨3, 2⟩ else q
  let q := if g.codec = 1 && 2 ≤ g.chroma then q.mul ⟨107, 100⟩ else q
  if g.struct = 2 then q.mul ⟨8, 10⟩ else q

/-- The lossless rectangles of a channel. -/
def Ch.regions (h : Ch) : List Rect := h.lossless.filterMap id

/-- The coding load of an area: luma samples times every multiplier, the lossless one on the fraction of the area
that lossless regions cover (R27, R199). -/
def Ch.areaLoad (h : Ch) (g : ChCfg) (a : Rect) : Q :=
  (g.mult).mul ⟨5 * (a.w * a.h) + coveredArea a h.regions, 5⟩

/-- The coding load of a channel in units per second (R27). -/
def Ch.load (h : Ch) : Q :=
  match h.cfg with
  | none => ⟨0, 1⟩
  | some g => (h.areaLoad g ⟨0, 0, g.width, g.height⟩).mul ⟨g.fnum, g.fden⟩

/-- The loads of all configured channels together (R28). -/
def State.totalLoad (s : State) : Q := Q.sum (s.enc.chans.map Ch.load)

/-- The rectangle of a task in the channel picture. -/
def taskRect (g : ChCfg) (r : Rect) (k col n : Nat) : Rect :=
  let (x, w) := tileCol g.ctu r k col
  ⟨r.x + x, r.y + n * g.ctu, w, rowHeight g.ctu r n⟩

/-- The tile columns of a layout with k columns per stream: every task's load (R199). -/
def Ch.taskLoads (h : Ch) (g : ChCfg) (l : Layout) (k : Nat) : List Q :=
  (l.tiles g).flatMap fun (_, _, r) =>
    (List.range k).flatMap fun col =>
      (List.range (rowsOf g.ctu r)).map fun n => h.areaLoad g (taskRect g r k col n)

/-- The largest task of a layout. -/
def Ch.maxTask (h : Ch) (g : ChCfg) (l : Layout) (k : Nat) : Q := (h.taskLoads g l k).foldl Q.max ⟨0, 1⟩

/-- A coding load as a duration in time units: 1.0 G units/s, so one unit takes 1 ns (R199). -/
def loadTime (q : Q) : Q := q.mul ⟨nsU, 1⟩

/-- The coding load of the tasks of one full row of a channel: the largest over its rows (R201). -/
def Ch.rowLoad (h : Ch) (g : ChCfg) : Q :=
  (List.range g.ctuRows).foldl
    (fun m n => Q.max m (h.areaLoad g ⟨0, n * g.ctu, g.width, min g.ctu (g.height - n * g.ctu)⟩)) ⟨0, 1⟩

/-- The peak row load of a channel in units per second, once it can be judged (R201). A channel without a layout has no
tasks yet (R242; DEDUCED, log entry 71). -/
def State.peakLoad (s : State) (c : Nat) : Option Q :=
  match (s.ch c).cfg, (s.ch c).lay, s.tRow c with
  | some g, some _, some t => some (((s.ch c).rowLoad g).mul (Q.div ⟨secU, 1⟩ t))
  | _, _, _ => none

/-- The peak row load of the module over the channels that can be judged. -/
def State.peakTotal (s : State) : Q := Q.sum ((List.range 16).filterMap s.peakLoad)

/-- 14.0 G units/s and 1.0 G units/s. -/
def capacity : Q := ⟨14000000000, 1⟩
def engineRate : Q := ⟨1000000000, 1⟩

/-! ### Composing and sounding load (R149, R215) -/

/-- The width of band i of n of a channel picture (R148). -/
def ChCfg.bandWidth (g : ChCfg) (n i : Nat) : Nat :=
  let (x, w) := part g.ctuCols n i
  min (w * g.ctu) (g.width - x * g.ctu)

/-- The load of a band: width x total lines x frame rate (R149, R215). -/
def bandLoad (g : ChCfg) (i : InSt) (w : Nat) : Q := ⟨w * i.total * g.fnum, g.fden⟩

/-- The composers of a mask, ascending. -/
def composersOf (mask : Nat) : List Nat := bitsOf mask 4

/-- The load that a channel puts on a composer, once it can be judged. -/
def State.compLoad (s : State) (c cm : Nat) : Option Q :=
  let cc := tab s.comp.chans c
  if !cc.on then none
  else match (s.ch c).cfg, s.feed c, (composersOf cc.mask).idxOf? cm with
  | some g, some (_, i), some k => some (bandLoad g i (g.bandWidth (composersOf cc.mask).length k))
  | _, _, _ => none

/-- The load of a composer over all channels. -/
def State.composerLoad (s : State) (cm : Nat) : Q :=
  Q.sum ((List.range 16).filterMap fun c => s.compLoad c cm)

/-- R149 holds on every composer. -/
def State.composersOk (s : State) : Bool := (List.range 4).all fun cm => (s.composerLoad cm).le ⟨3000000000, 1⟩

/-- 4 G luma samples/s. -/
def sounderRate : Q := ⟨4000000000, 1⟩

/-- The number of sounder bands of a channel and their loads: the fewest from 1 to 4 whose bands each keep to
4 G samples/s (R215). -/
def sounderBands (g : ChCfg) (i : InSt) : Option (List Q) :=
  [1, 2, 3, 4].findSome? fun n =>
    let l := (List.range n).map fun k => bandLoad g i (g.bandWidth n k)
    if l.all (·.le sounderRate) then some l else none

/-- The ways to put n bands on different sounders of a list, ascending. -/
def chooseAsc : Nat → List Nat → List (List Nat)
  | 0, _ => [[]]
  | _ + 1, [] => []
  | n + 1, x :: xs => (chooseAsc n xs).map (x :: ·) ++ chooseAsc (n + 1) xs

/-- The loads of the sounders after bands are put on a choice of them, or none where one exceeds its rate. -/
def addBands (loads : List Q) (bands : List Q) (choice : List Nat) : Option (List Q) :=
  let l := (choice.zip bands).foldl (fun l (k, b) => upd l k (·.add b)) loads
  if l.all (·.le sounderRate) then some l else none

/-- The first placement of a channel's bands beside given loads, sounders in ascending order. -/
def placeBands (enabled : List Nat) (loads : List Q) (bands : List Q) : Option (List Nat × List Q) :=
  (chooseAsc bands.length enabled).findSome? fun ch => (addBands loads bands ch).map fun l => (ch, l)

/-- Whether the bands of several channels can all be placed (R215): every way is tried. -/
def placeAll (enabled : List Nat) (loads : List Q) : List (List Q) → Bool
  | [] => true
  | b :: rest =>
    (chooseAsc b.length enabled).any fun ch =>
      match addBands loads b ch with
      | some l => placeAll enabled l rest
      | none => false

/-- The bands of every channel that can be judged. -/
def State.allBands (s : State) : List (Option (List Q)) :=
  (List.range 16).filterMap fun c =>
    match (s.ch c).cfg, s.feed c with
    | some g, some (_, i) => some (sounderBands g i)
    | _, _ => none

/-- R215 can be met on SA0 to SA3 by the configured channels. -/
def State.soundersOk (s : State) : Bool :=
  let l := s.allBands
  l.all Option.isSome && placeAll [0, 1, 2, 3] (List.replicate 4 ⟨0, 1⟩) (l.filterMap id)

/-! ### GDDR6 traffic (R154, R188, R240, R305) -/

/-- Chroma factor of R240: samples of all components per luma sample, in halves. -/
def chromaHalves (chroma : Nat) : Nat := match chroma with | 0 => 2 | 1 => 3 | 2 => 4 | _ => 6

/-- Row cistern bytes of a channel per second, 16-bit containers. -/
def ChCfg.cisternRate (g : ChCfg) : Q := (g.lumaRate).mul ⟨chromaHalves g.chroma, 1⟩

/-- Bits per pixel of an overlay format (table "Overlay source formats"). -/
def formatBits (f : Nat) : Nat := match f with | 0x01 => 32 | 0x02 => 64 | 0x03 => 32 | 0x04 => 32 | 0x05 => 8 | 0x06 => 8 | 0x07 => 32 | _ => 24

/-- The whole source size of a layer: the configured rectangle, or the source frame where a size is 0. -/
def State.layerSrc (s : State) (l : Layer) : Nat × Nat :=
  let (w, h) := match l.source with
    | 0 => match alookup s.blit.surfs l.srcId with | some f => (f.w, f.h) | none => (0, 0)
    | _ => ((tab s.dec.feeds l.srcId).w, (tab s.dec.feeds l.srcId).h)
  (if l.src.w = 0 then w else l.src.w, if l.src.h = 0 then h else l.src.h)

/-- The traffic of a channel: input write, composition in place and its layers, encoding (R154, R240). -/
def State.traffic (s : State) (c : Nat) : Q :=
  match (s.ch c).cfg with
  | none => ⟨0, 1⟩
  | some g =>
    let cc := tab s.comp.chans c
    let enc := (g.cisternRate).mul ⟨2 * 2 + 3 * (if g.struct = 2 then 0 else g.refs), 2⟩
    let inp := if (s.ipOf c).isSome then g.cisternRate else ⟨0, 1⟩
    let comp := if cc.on then
        ((g.cisternRate).mul ⟨2, 1⟩).add (Q.sum (cc.layers.map fun l =>
          if l.on && l.source != 2 then
            let (w, h) := s.layerSrc l
            ⟨w * h * formatBits l.format * g.fnum, 8 * g.fden⟩
          else ⟨0, 1⟩))
      else ⟨0, 1⟩
    (enc.add inp).add comp

/-- The admitted GDDR6 traffic of the module: channels, BL0's ACTIVE_RATE and the host's pump share of 4 GB/s
(R154, R188, R305). -/
def State.gddrTraffic (s : State) : Q :=
  (Q.sum ((List.range 16).map s.traffic)).add
    ⟨s.blit.active * 500000000 + 4000000000, 1⟩

/-- R154 holds. -/
def State.gddrOk (s : State) : Bool := (s.gddrTraffic).le ⟨450000000000, 1⟩

/-! ### Minimum delay (R35, R384) -/

/-- T_pack of a channel: the largest over its streams (R384). -/
def State.tPack (s : State) (c : Nat) : Nat :=
  match (s.ch c).lay with
  | none => 3 * usU
  | some l =>
    if (List.range l.count).any fun i =>
        (tab s.pkg.video (l.first + i)).set && (tab s.pkg.video (l.first + i)).format == 2
    then 4 * usU else 3 * usU

/-- The failover reserve that a channel's RESERVE setting gives while the module is paired or not (R239). -/
def Ch.wantsX (h : Ch) (paired : Bool) : Bool := h.reserve == 2 || (h.reserve == 0 && paired)

/-- The minimum delay of R35 in units, once it can be judged; a period that is no whole number is rounded up, which
the rule's "at least" asks for. -/
def State.minDelay (s : State) (c : Nat) (x : Bool) : Option Nat :=
  match (s.ch c).cfg, s.feed c, s.tRow c with
  | some g, some (p, _), some t =>
    let rot : Q := if p.rotate = 0 then ⟨0, 1⟩ else g.framePer
    some ((((t.mul ⟨4, 1⟩).add rot).ceil) + s.tPack c + (if x then 150 * usU else 0))
  | _, _, _ => none

/-- A time in whole nanoseconds, rounded up. -/
def nsUp (u : Nat) : Nat := ceilDiv u nsU

end Sys2Proof.Machine
end

