-- ==== Sys2Proof/Machine/Checks.lean ====
section
/-!
DEFINITION. The check-value units (R539 to R544): what a context does with a unit, and the commands CVU_ALLOC,
CVU_FREE, CVU_CTX_READ and CVU_CTX_WRITE.
-/
namespace Sys2Proof.Machine

/-! ### Units (R540, R541) -/

/-- What a context finds in a unit (table "CVU context record", LAST_RESULT); a gap with the number of units missing (R541). -/
inductive Found where
  | pass | crcFail | again
  | gap (missing : Nat)
  deriving DecidableEq, Repr, Inhabited

/-- The LAST_RESULT code. -/
def Found.code : Found → Nat
  | .pass => 0
  | .crcFail => 1
  | .again => 2
  | .gap _ => 3

/-- The modulus of a context's alive counter; 1 without one. -/
def Ctx.alivemod (x : Ctx) : Nat := match x.alive with | 1 => 16 | 2 => 256 | _ => 1

/-- The alive counter in a byte (R541). -/
def Ctx.aliveIn (x : Ctx) (b : Byte) : Nat :=
  if x.alive = 1 then (if x.aliveHigh then b.toNat / 16 else b.toNat % 16) else b.toNat

/-- The byte with the alive counter put in. -/
def Ctx.aliveOut (x : Ctx) (b : Byte) : Byte :=
  if x.alive = 0 then b
  else if x.alive = 1 then
    BitVec.ofNat 8 (if x.aliveHigh then x.aliveNext % 16 * 16 + b.toNat % 16
                    else b.toNat / 16 * 16 + x.aliveNext % 16)
  else BitVec.ofNat 8 x.aliveNext

/-- The running value over the covered bytes of a unit. -/
def Ctx.cover (x : Ctx) (l : List Byte) : Nat := algRun x.alg (algInit x.alg) (l.drop x.start)

/-- CHECK: the carried check value is compared, then the alive counter of a unit that passed is judged (R540,
R541). -/
def Ctx.check (x : Ctx) (data : List Byte) (crc : Nat) : Ctx × Found :=
  let run := x.cover data
  let fin := run ^^^ algXor x.alg
  let x := { x with running := w32 run, lastValue := w32 fin, units := x.units + 1 }
  if fin != crc then
    ({ x with lastResult := 1, crcFails := satAdd x.crcFails 1 0xFFFFFFFF }, .crcFail)
  else if x.alive = 0 then ({ x with lastResult := 0 }, .pass)
  else
    let v := x.aliveIn (data.getD x.offset 0)
    if !x.aliveValid || v = (x.aliveLast + 1) % x.alivemod then
      ({ x with lastResult := 0, aliveValid := true, aliveLast := v }, .pass)
    else if v = x.aliveLast then
      ({ x with lastResult := 2, repeats := satAdd x.repeats 1 0xFFFF }, .again)
    else
      let n := (v + 2 * x.alivemod - x.aliveLast - 1) % x.alivemod
      ({ x with lastResult := 3, aliveLast := v, gaps := satAdd x.gaps n 0xFFFF }, .gap n)

/-- COMPUTE: the final value over the data, which stays as it is; an alive counter has no part in it (R540, R541; DEDUCED, log
entry 6). -/
def Ctx.compute (x : Ctx) (data : List Byte) : Ctx :=
  let run := x.cover data
  { x with running := w32 run, lastValue := w32 (run ^^^ algXor x.alg), lastResult := 0, units := x.units + 1 }

/-- APPEND: the alive counter is put into the data, the check value is computed over it (R540,
R541). The answer is the context, the data as sent and the check value. -/
def Ctx.send (x : Ctx) (data : List Byte) : Ctx × List Byte × Nat :=
  let data := if x.alive = 0 then data else data.modify x.offset x.aliveOut
  let run := x.cover data
  let fin := run ^^^ algXor x.alg
  ({ x with running := w32 run, lastValue := w32 fin, lastResult := 0, units := x.units + 1
            aliveNext := (x.aliveNext + 1) % x.alivemod }, data, fin)

/-! ### Contexts (R542) -/

/-- A context by CVU and number; one that is not allocated is free and reads as zero but for ALLOCATED. -/
def CvuSt.ctx (v : CvuSt) (key : Nat) : Ctx := (alookup v.ctxs key).getD {}

/-- A context is set. -/
def State.setCtx (s : State) (key : Nat) (x : Ctx) : State :=
  s.onCvu fun v => { v with ctxs := aset v.ctxs key x }

/-- A context has served a unit: its CVU's pointer moves past it (R37, R543). User numbers are taken to be context numbers (log
entry 6). -/
def State.useCtx (s : State) (key : Nat) (x : Ctx) : State :=
  (s.setCtx key x).onCvu fun v => { v with ptrs := upd v.ptrs (key / 64) fun _ => (key % 64 + 1) % 64 }

/-- A unit of a context is in progress: a pump runs a task that names it (R305, R543). -/
def State.ctxBusy (s : State) (key : Nat) : Bool :=
  s.ds.units.any fun u => s.ds.pool.any fun e =>
    u.holds == some e.key && e.desc.type == 8 && (e.desc.pump.map fun p => p.cvuEn && 64 * p.cvu + p.ctx == key) == some true

/-- The keys that the module keeps for its own users: eight inputs, two of the twin link, eight of Skovlink
(log entry 6). -/
def ownKeys : Nat := 18

/-- CVU x 64 + context of a command word. -/
def ctxKey (w : Word) : Nat := fld w 2 0 * 64 + fld w 13 8

/-- Word 0 of a context record. -/
def Ctx.word0 (x : Ctx) : Nat :=
  at' x.alg 30 + at' x.mode 28 + at' x.alive 26 + at' (b01 x.aliveHigh) 25 + at' (b01 x.allocated) 24
    + at' x.offset 12 + x.start

/-- The record (table "CVU context record"). -/
def Ctx.words (x : Ctx) : List Nat :=
  [x.word0, x.running.toNat,
   at' x.lastResult 30 + at' (b01 x.aliveValid) 16 + at' x.aliveLast 8 + x.aliveNext,
   x.units.toNat, x.crcFails, at' x.repeats 16 + x.gaps, x.lastValue.toNat, 0]

/-- CVU_ALLOC (0x0F10): the lowest free context (R542; log entry 21). -/
def hCvuAlloc (c : Vx) (s : State) : Res :=
  let w := c.w 2
  refuse (fld w 29 28 == 3) .badParam 2 <|
  refuse (fld w 27 26 == 3) .badParam 2 <|
  match (List.range 512).find? fun k => decide (ownKeys ≤ k) && !(s.cvu.ctx k).allocated with
  | none => .err .noResource noWord
  | some k =>
    .ok [k / 64 + k % 64 * 256] (s.setCtx k
      { alg := fld w 31 30, mode := fld w 29 28, alive := fld w 27 26, aliveHigh := bit w 25
        allocated := true, hostOwn := true, offset := fld w 23 12, start := fld w 11 0 })

/-- CVU_FREE (0x0F11; R542, R543). -/
def hCvuFree (c : Vx) (s : State) : Res :=
  let k := ctxKey (c.w 2)
  refuseRsv c [(2, msk 2 0 + msk 13 8)] <|
  refuse (!(s.cvu.ctx k).hostOwn) .denied 2 <|
  refuse (s.ctxBusy k) .busy 2 <|
  .ok [] (s.onCvu fun v => { v with ctxs := adel v.ctxs k })

/-- CVU_CTX_READ (0x0F12): the host may read any context. -/
def hCvuRead (c : Vx) (s : State) : Res :=
  refuseRsv c [(2, msk 2 0 + msk 13 8)] <|
  .ok (s.cvu.ctx (ctxKey (c.w 2))).words s

/-- CVU_CTX_WRITE (0x0F13; R542, R543). -/
def hCvuWrite (c : Vx) (s : State) : Res :=
  let w := c.w 2
  let k := ctxKey w
  let x := s.cvu.ctx k
  refuseRsv c [(2, msk 2 0 + msk 13 8 + msk 18 16), (4, msk 16 0)] <|
  refuse (!x.hostOwn) .denied 2 <|
  refuse (s.ctxBusy k) .busy 2 <|
  let x := if bit w 16 then { x with running := c.w 3 } else x
  let x := if bit w 17 then
      { x with aliveValid := bit (c.w 4) 16, aliveLast := fld (c.w 4) 15 8, aliveNext := fld (c.w 4) 7 0 }
    else x
  let x := if bit w 18 then { x with units := 0, crcFails := 0, repeats := 0, gaps := 0 } else x
  .ok [] (s.setCtx k x)

end Sys2Proof.Machine
end

