-- ==== Sys2Proof/Machine/Capture.lean ====
section
/-!
DEFINITION. The wellhead (chapter 04 of spec/): Wellhead Link packets, 12G-SDI lines, the stages of the input
processors, the row cistern, late and damaged rows. Its configuration commands stand in Machine/CaptureCfg.lean.
-/
namespace Sys2Proof.Machine

/-! ### Lookups and events -/

/-- An input. -/
def State.inp (s : State) (i : Nat) : InSt := tab s.cap.ins i

/-- A change of one input. -/
def State.onIn (s : State) (i : Nat) (f : InSt → InSt) : State :=
  s.onCap fun c => { c with ins := upd c.ins i f }

/-- An input processor. -/
def State.ip (s : State) (i : Nat) : IpSt := tab s.cap.ips i

/-- A change of one input processor. -/
def State.onIp (s : State) (i : Nat) (f : IpSt → IpSt) : State :=
  s.onCap fun c => { c with ips := upd c.ips i f }

/-- The vector of an event of the groups 0x02 to 0x0A that names a channel, or of one that names none (tables
"MSI-X vector map" and "System events"). -/
def chanVec (c : Nat) : Nat := if c < 16 then 8 + c else 1

/-- The channel that an input feeds, 0xFF for none. -/
def State.fed (s : State) (i : Nat) : Nat := (s.chansOf i).headD 0xFF

/-- Bit 1 of IN_QUERY word 0: the verdict on the last FORMAT (R131). -/
def InSt.formatOk (i : InSt) : Bool := i.verdict == some true

/-- IN_LINK (table "Input events"). -/
def State.inLink (s : State) (i : Nat) : State :=
  let x := s.inp i
  s.event 0x0201 (s.fed i) (chanVec (s.fed i)) [i + at' (b01 x.aligned) 8 + at' (b01 x.formatOk) 9]

/-- A change of an input that writes IN_LINK where one of its two bits changed. -/
def State.relink (s : State) (i : Nat) (f : InSt → InSt) : State :=
  let was := s.inp i
  let s := s.onIn i f
  let now := s.inp i
  if was.aligned != now.aligned || was.formatOk != now.formatOk then s.inLink i else s

/-! ### Rows of a channel (R32, R138 to R144) -/

/-- A row in progress. -/
def State.row? (s : State) (c f r : Nat) : Option RowRec :=
  s.enc.rows.find? fun x => x.chan == c && x.frame == f && x.row == r

/-- A change of one row. -/
def State.onRow (s : State) (c f r : Nat) (g : RowRec → RowRec) : State :=
  s.onEnc fun e =>
    { e with rows := e.rows.map fun x => if x.chan = c ∧ x.frame = f ∧ x.row = r then g x else x }

/-- The first input line on which an output row depends. -/
def rowFirstLine (g : ChCfg) (p : IpSt) (i : InSt) (row : Nat) : Nat :=
  let cr := p.crop i
  if p.rotate != 0 then if row = 0 then 0 else rowLastLine g p i (row - 1) + 1
  else
    let y := row * g.ctu
    if cr.h = p.outH then cr.y + y
    else cr.y + (((2 * y + 1) * cr.h - p.outH) / (2 * p.outH) - 2)

/-- The last input line on which output line y depends, without rotation. -/
def outLastLine (p : IpSt) (i : InSt) (y : Nat) : Nat :=
  let cr := p.crop i
  if cr.h = p.outH then cr.y + y
  else cr.y + min (cr.h - 1) (((2 * y + 1) * cr.h - p.outH) / (2 * p.outH) + 3)

/-- Whether a row is present: every line that it depends on arrived without loss and was written (R143). -/
def rowPresent (g : ChCfg) (p : IpSt) (i : InSt) (x : RowRec) : Bool :=
  (x.slot.isSome || p.rotate != 0) && !x.damaged && !x.overrun
    && x.got == rowLastLine g p i x.row + 1 - rowFirstLine g p i x.row

/-- Row slots of a channel whose credit is held. -/
def State.slotsHeld (s : State) (c : Nat) : Nat :=
  (s.enc.rows.filter fun x => x.chan == c && x.slot.isSome).length

/-- The processor claims a slot at the first line of a row, or discards the row (R140, R142). The lines of a rotated row go to
the rotation cistern first; its slot is claimed when it becomes available (R139). -/
def State.claimRow (s : State) (ipx c f r : Nat) : State :=
  let p := s.ip ipx
  if p.rotate != 0 then s.onEnc fun e => { e with rows := e.rows ++ [{ chan := c, frame := f, row := r }] }
  else if s.slotsHeld c < p.slots then
    (s.onEnc fun e => { e with rows := e.rows ++ [{ chan := c, frame := f, row := r, slot := some p.nextSlot }] }).onIp
      ipx fun p => { p with nextSlot := (p.nextSlot + 1) % p.slots }
  else
    (s.onEnc fun e => { e with rows := e.rows ++ [{ chan := c, frame := f, row := r, overrun := true }] }).raise
      0x02 0x08 p.input c

/-- The frame of a channel to which the frame in progress of its input belongs; none before its first and after
its last. -/
def State.frameOf (s : State) (c : Nat) (i : InSt) : Option Nat :=
  let h := s.ch c
  if h.st = 0 then none
  else match h.frameAt i.cycle with
    | none => none
    | some f => match h.last with
      | some l => if l < f then none else some f
      | none => some f

/-! ### The stages of an input processor (R132, R136) -/

/-- Bits per sample and samples per pixel of a packing, in halves, with the pixels and bytes of its group; the
sampling is that of CH_CONFIG's code (R132). -/
def packing? : Nat → Option (Nat × Nat × Nat × Nat)
  | 0x10 => some (8, 0, 1, 1)
  | 0x11 => some (10, 0, 4, 5)
  | 0x12 => some (12, 0, 2, 3)
  | 0x13 => some (16, 0, 1, 2)
  | 0x21 => some (10, 2, 2, 5)
  | 0x22 => some (12, 2, 2, 6)
  | 0x31 => some (10, 3, 4, 15)
  | 0x32 => some (12, 3, 2, 9)
  | 0x33 => some (10, 3, 4, 15)
  | 0x34 => some (12, 3, 2, 9)
  | _ => none

/-- The samples of a payload: a little-endian bit stream, each sample least significant bit first (R132). -/
def unpackBits (bits count : Nat) (l : List Byte) : List Nat :=
  let v := leNat l
  (List.range count).map fun k => v / 2 ^ (bits * k) % 2 ^ bits

/-- The samples of a LINE payload in their packing order, and the pixels they make. -/
def unpackLine (packing : Nat) (l : List Byte) : List Nat × Nat :=
  match packing? packing with
  | none => ([], 0)
  | some (bits, smp, px, bytes) =>
    let n := l.length / bytes * px
    (unpackBits bits (match smp with | 0 => n | 2 => 2 * n | _ => 3 * n) l, n)

/-- Every n-th sample from an offset. -/
def every (n k : Nat) (l : List Nat) : List Nat := (List.range ((l.length + n - 1 - k) / n)).map fun i => l.getD (n * i + k) 0

/-- The planes of samples in packing order, left-justified in the 16-bit internal samples (DEDUCED, log entry
22): Y alone, Y Cb Cr of 4:2:2, or the three components. -/
def planes (bits smp : Nat) (l : List Nat) : List (List Nat) :=
  let l := l.map (· * 2 ^ (16 - bits))
  match smp with
  | 0 => [l]
  | 2 => [every 2 1 l, every 4 0 l, every 4 2 l]
  | _ => [every 3 0 l, every 3 1 l, every 3 2 l]

/-- A clamp to the 16-bit internal range. -/
def clamp16 (i : Int) : Nat := (max 0 (min i 65535)).toNat

/-- The colour matrix on one position; the rounding of the Q3.12 products is not stated and free. -/
def cscAt (m : List Int) (k : Nat) (v : List Nat) : Nat :=
  let sum := (List.range 3).foldl (fun (a : Int) j => a + m.getD (3 * k + j) 0 * (v.getD j 0 : Nat)) 0
  let q := sum / 4096
  let up := sum % 4096 != 0 && Config.roundUp 136 sum.natAbs 4096
  clamp16 (q + (if up then 1 else 0) + m.getD (9 + k) 0)

/-- Stage 4, on each component at its own positions. A component that has no sample at a position takes part only where its
coefficient is not zero; the rule does not say with which value then, and the result is free. -/
def cscStage (m : Option (List Int)) (y : Nat) (pl : List (List Nat)) : List (List Nat) :=
  match m with
  | none => pl
  | some m =>
    let full := (pl.headD []).length
    let step (l : List Nat) : Nat := if l.length = 0 then 1 else full / l.length
    (List.range pl.length).zip pl |>.map fun (k, l) =>
      (List.range l.length).map fun j =>
        let x := j * step l
        let known := (List.range 3).all fun c =>
          m.getD (3 * k + c) 0 == 0 || (decide (c < pl.length) && x % step (pl.getD c []) == 0)
        if known then cscAt m k (pl.map fun q => q.getD (x / step q) 0) else clamp16 (Config.resample 4 k j y l)

/-- A rounding half up to the output depth (stage 8). -/
def outSample (depth v : Nat) : Nat := min (2 ^ depth - 1) ((v + 2 ^ (15 - depth)) / 2 ^ (16 - depth))

/-- The bits of a depth code: 0 8, 1 10, 2 12. -/
def depthBits (d : Nat) : Nat := 8 + 2 * d

/-- The planes of a picture of a sampling: width, height divisors of each. -/
def planeDivs (chroma : Nat) : List (Nat × Nat) :=
  match chroma with
  | 0 => [(1, 1)]
  | 1 => [(1, 1), (2, 2), (2, 2)]
  | 2 => [(1, 1), (2, 1), (2, 1)]
  | _ => [(1, 1), (1, 1), (1, 1)]

/-- The output planes of an input line of planes `pl` for output line y: crop, mirror, matrix, then resampling and
scaling (whose values no rule gives where they act), then the output depth (R136). A 4:2:0 line of odd y has no
chroma. -/
def ipLineOut (p : IpSt) (i : InSt) (smp y : Nat) (pl : List (List Nat)) : List (List Nat) :=
  let cr := p.crop i
  let full := (pl.headD []).length
  let pl := pl.map fun l =>
    let d := if l.length = 0 then 1 else full / l.length
    (l.drop (cr.x / d)).take (cr.w / d)
  let pl := if p.mirror then pl.map List.reverse else pl
  let pl := cscStage p.csc y pl
  let same := cr.w == p.outW && cr.h == p.outH
  let out := (List.range (planeDivs p.chroma).length).zip (planeDivs p.chroma)
  out.filterMap fun (k, dx, dy) =>
    if y % dy != 0 then none
    else
      let n := p.outW / dx
      let src := pl.getD k []
      let vals :=
        if same && (k = 0 || smp == p.chroma) then src
        else (List.range n).map fun x => Config.resample (if same then 5 else 6) k x y src
      some (vals.map fun v => outSample (depthBits p.depth) v)

/-! ### The row cistern (R140) -/

/-- A line of w samples in 16-bit containers, padded to a multiple of 256 bytes. -/
def lineStride (w : Nat) : Nat := ceilDiv (2 * w) 256 * 256

/-- Offset of a plane in a slot, and the size of a slot, for rows of u lines of width w. -/
def planeOffset (chroma w u k : Nat) : Nat :=
  ((planeDivs chroma).take k).foldl (fun a (dx, dy) => a + lineStride (w / dx) * (u / dy)) 0
def slotSize (chroma w u : Nat) : Nat := planeOffset chroma w u 3

/-- Address of plane k, line y of a row slot of a channel. -/
def State.rowAddr (s : State) (c slot k y : Nat) : Nat :=
  match (s.ch c).cfg with
  | none => 0
  | some g =>
    let (dx, dy) := (planeDivs g.chroma).getD k (1, 1)
    Config.cisternBase 1 c + slot * slotSize g.chroma g.width g.ctu
      + planeOffset g.chroma g.width g.ctu k + y / dy * lineStride (g.width / dx)

/-- Samples as 16-bit containers. -/
def sampleBytes (l : List Nat) : List Byte := l.flatMap (leBytes 2)

/-- The planes of a row line are written to its slot. -/
def State.writeRowLine (s : State) (c slot y : Nat) (pl : List (List Nat)) : State :=
  (pl.zip (if pl.length = 1 then [0] else [0, 1, 2])).foldl
    (fun s (l, k) => s.onMem fun m => { m with gddr := Mem.writeAll m.gddr (s.rowAddr c slot k y) (sampleBytes l) }) s

/-- A sample of a row in its slot. -/
def State.rowSample (s : State) (c slot k x y : Nat) : Nat :=
  match (s.ch c).cfg with
  | none => 0
  | some g =>
    let (dx, _) := (planeDivs g.chroma).getD k (1, 1)
    leNat (Mem.readN s.mem.gddr (s.rowAddr c slot k y + 2 * (x / dx)) 2)

/-- Address of plane k, line y of a processed frame in a processor's rotation cistern of two frames (R139). -/
def State.rotAddr (s : State) (ipx f k y : Nat) : Nat :=
  let p := s.ip ipx
  let (dx, dy) := (planeDivs p.chroma).getD k (1, 1)
  Config.cisternBase 2 ipx + f % 2 * slotSize p.chroma p.outW p.outH
    + planeOffset p.chroma p.outW p.outH k + y / dy * lineStride (p.outW / dx)

/-- The planes of a processed line are written to the rotation cistern. -/
def State.writeRotLine (s : State) (ipx f y : Nat) (pl : List (List Nat)) : State :=
  (pl.zip (if pl.length = 1 then [0] else [0, 1, 2])).foldl
    (fun s (l, k) => s.onMem fun m => { m with gddr := Mem.writeAll m.gddr (s.rotAddr ipx f k y) (sampleBytes l) }) s

/-- Sample (x, y) of plane k of a rotated picture (R136 stage 7): 90 degrees turn the picture clockwise (PRESUMED, log entry 73).
The chroma of 4:2:2 is sampled otherwise in the turned picture; no rule gives its values, which are free. -/
def State.turned (s : State) (ipx f k x y : Nat) : Nat :=
  let p := s.ip ipx
  let (dx, dy) := (planeDivs p.chroma).getD k (1, 1)
  let (sx, sy) := if p.rotate = 1 then (y, p.outH / dy - 1 - x) else (p.outW / dx - 1 - y, x)
  if dx = dy then leNat (Mem.readN s.mem.gddr (s.rotAddr ipx f k (sy * dy) + 2 * sx) 2)
  else Config.resample 7 f k x [s.free, y] % 2 ^ depthBits p.depth

/-- A rotated row is available (R139): it takes a slot and stands there turned, or without a credit is late (R142). -/
def State.turnRow (s : State) (ipx : Nat) (g : ChCfg) (x : RowRec) : State :=
  let p := s.ip ipx
  let c := x.chan
  if s.slotsHeld c < p.slots then
    let sl := p.nextSlot
    let s := (s.onRow c x.frame x.row fun x => { x with slot := some sl }).onIp ipx fun p =>
      { p with nextSlot := (p.nextSlot + 1) % p.slots }
    ((List.range (min g.ctu (g.height - x.row * g.ctu))).foldl (fun s y =>
      s.writeRowLine c sl y ((List.range (planeDivs g.chroma).length).zip (planeDivs g.chroma) |>.filterMap fun (k, dx, dy) =>
        if y % dy != 0 then none
        else some ((List.range (g.width / dx)).map fun px => s.turned ipx x.frame k px ((x.row * g.ctu + y) / dy)))) s).drawn
  else (s.onRow c x.frame x.row fun x => { x with overrun := true, skip := true }).raise 0x02 0x08 p.input c

/-- The rotated rows whose start has come and that have no slot yet. -/
def State.turnRows (s : State) : State :=
  (s.enc.rows.filter fun x => x.slot.isNone && x.capT.isSome && !x.skip && !x.overrun && !x.readied
      && decide (x.start ≤ s.now)).foldl (fun s x =>
    match (s.ch x.chan).cfg, s.ipOf x.chan with
    | some g, some ipx => if (s.ip ipx).rotate = 0 then s else s.turnRow ipx g x
    | _, _ => s) s

/-- The newest time code of the camera within the last two frames that have ended, with the frames since it (R231). -/
def InSt.cameraCode (i : InSt) : Option (List Byte × Nat) :=
  match i.codes.getD 0 none, i.codes.getD 1 none with
  | some c, _ => some (c, 1)
  | none, some c => some (c, 2)
  | none, none => none

/-- The capture time of a row: row 0 takes the camera's time code, the last one the AUX items received so far, for the record of
the stream of mosaic tile 0 (R231, R233). Once for each row. -/
def State.rowCaptured (s : State) (c f r : Nat) : State :=
  let h := s.ch c
  let locked := match s.tlOf c with | some tl => (s.trk tl).st == 2 | none => false
  let code := match s.feed c with | some (_, i) => i.cameraCode | none => none
  let note : PicNote := match h.notes.find? (·.frame == f) with
    | some n => { n with unlocked := n.unlocked || !locked }
    | none => ⟨f, code, !locked⟩
  let s := s.onCh c fun h => { h with notes := (note :: h.notes.filter (·.frame != f)).take 16 }
  match h.cfg, h.lay with
  | some g, some l =>
    let i := l.first + f % max 1 l.m * (l.mx * l.my)
    if r + 1 = g.ctuRows && (alookup (s.strm i).aux f).isNone then
      (s.onStrm i fun t => { t with aux := aset t.aux f h.aux }).onCh c fun h => { h with aux := [] }
    else s
  | _, _ => s

/-- A line that arrived whole is processed for one channel: rows that depend on it count it, and output lines whose
last line it is are written to their slots, or to the rotation cistern (R138, R139). -/
def State.lineForChannel (s : State) (ipx c f l smp : Nat) (pl : List (List Nat)) : State :=
  match (s.ch c).cfg with
  | none => s
  | some g =>
    let p := s.ip ipx
    let i := s.inp p.input
    let s := if p.rotate = 0 then s
      else ((List.range p.outH).filter fun y => outLastLine p i y == l).foldl
        (fun s y => s.writeRotLine ipx f y (ipLineOut p i smp y pl)) s
    let rows := s.enc.rows.filter fun x => x.chan == c && x.frame == f && !x.needed
      && decide (rowFirstLine g p i x.row ≤ l) && decide (l ≤ rowLastLine g p i x.row)
    rows.foldl (fun s x =>
      let last := rowLastLine g p i x.row
      let s := s.onRow c f x.row fun x => { x with got := x.got + 1 }
      let s := match x.slot with
        | none => s
        | some sl =>
            let ys := (List.range (min g.ctu (p.outH - x.row * g.ctu))).filter fun y =>
              outLastLine p i (x.row * g.ctu + y) == l
            ys.foldl (fun s y => (s.writeRowLine c sl y (ipLineOut p i smp (x.row * g.ctu + y) pl)).onRow c f x.row
              fun x => { x with wrote := x.wrote + 1 }) s
      if l = last then
        (s.onRow c f x.row fun x =>
          { x with capT := some (s.shifted c s.now), start := s.startOf c (s.shifted c s.now) }).rowCaptured c f x.row
      else s) s

/-- The first packet of an active line arrives: the rows that begin with it claim their slots (R140). -/
def State.beginLine (s : State) (i l : Nat) : State :=
  (s.ipsOf i).foldl (fun s ipx =>
    let c := (s.ip ipx).chan
    match (s.ch c).cfg, s.frameOf c (s.inp i) with
    | some g, some f =>
      ((List.range g.ctuRows).filter fun r =>
        decide (rowFirstLine g (s.ip ipx) (s.inp i) r ≤ l) && decide (l ≤ rowLastLine g (s.ip ipx) (s.inp i) r)
          && (s.row? c f r).isNone
          && !(decide (f < (s.ch c).needF) || (f == (s.ch c).needF && decide (r < (s.ch c).needR)))).foldl
        (fun s r => s.claimRow ipx c f r) s
    | _, _ => s) s

/-- The rows of every fed channel that depend on a line are damaged (R143). -/
def State.damageLine (s : State) (i l : Nat) : State :=
  (s.ipsOf i).foldl (fun s ipx =>
    let c := (s.ip ipx).chan
    match (s.ch c).cfg, s.frameOf c (s.inp i) with
    | some g, some f =>
      let hit (x : RowRec) : Bool :=
        x.chan == c && x.frame == f && decide (rowFirstLine g (s.ip ipx) (s.inp i) x.row ≤ l)
          && decide (l ≤ rowLastLine g (s.ip ipx) (s.inp i) x.row)
      s.onEnc fun e =>
        { e with rows := e.rows.map fun x => if hit x then { x with damaged := true } else x }
    | _, _ => s) s

/-- The rows not yet needed of the frame in progress are late: the frame is not accepted (R131). -/
def State.loseFrame (s : State) (i : Nat) : State :=
  (s.ipsOf i).foldl (fun s ipx =>
    let c := (s.ip ipx).chan
    match s.frameOf c (s.inp i) with
    | some f => s.onEnc fun e =>
        { e with rows := e.rows.map fun x => if x.chan = c && x.frame = f && !x.needed then { x with damaged := true } else x }
    | none => s) s

/-- A line that arrived whole goes to every processor of its input. -/
def State.endLine (s : State) (i l smp : Nat) (pl : List (List Nat)) : State :=
  (s.ipsOf i).foldl (fun s ipx =>
    let c := (s.ip ipx).chan
    match s.frameOf c (s.inp i) with
    | some f => s.lineForChannel ipx c f l smp pl
    | none => s) s

/-! ### Frames and line edges (R130, R131, R133) -/

/-- AUX and time code of the frame that ends are kept (R133, R231). -/
def InSt.closeFrame (i : InSt) : InSt :=
  { i with
    inFrame := false
    codes := (((i.aux.find? (·.tag == 1)).map (·.data)) :: i.codes).take 2
    aux := [] }

/-- A frame of IN0 begins for the trickle service: every DIVISOR-th is coded, within its budget (R557, R558). -/
def State.trickleFrame (s : State) (i : Nat) : State :=
  if i != 0 || !s.pw.te.on then s
  else
    let x := s.inp 0
    s.onPw fun p =>
      let t := p.te
      { p with te := { t with
          frame := t.frame + 1, coding := t.frame % t.divisor == 0 && x.fnum != 0, row := 0
          left := t.rate * 1000000 * t.divisor * x.fden / x.fnum } }

/-- A frame begins, by FRAME_START or by a lower line (R130); FRAME is compared with the last one (R131). -/
def State.newFrame (s : State) (i frame : Nat) (started : Bool) : State :=
  let x := s.inp i
  let s := match x.frame with
    | some f => if (f + 1) % 4294967296 = frame then s else s.raise 0x02 0x0C i
    | none => s
  -- what came before a channel's frame 0 belongs to no picture of it
  let s := (s.chansOf i).foldl (fun s c => if (s.ch c).st = 1 then s.onCh c fun h => { h with aux := [] } else s) s
  (s.trickleFrame i).onIn i fun x =>
    let x := if x.inFrame then x.closeFrame else x
    { x with frame := some frame, inFrame := started, accepted := x.formatOk, high := 0, line := none
             nextPix := 0, lineBad := false, samples := [], edged := none, newFrame := true }

/-- The tracker takes the edge of a line, once for each line number (R130). -/
def State.giveEdge (s : State) (i l : Nat) : State :=
  let x := s.inp i
  if x.edged == some l then s
  else
    let s := lineEdge s i l x.newFrame
    let k := s.trk (5 + i)
    s.onIn i fun x =>
      { x with edged := some l
               newFrame := x.newFrame && k.last != some s.raw
               cycle := if k.mode = 5 then k.edge / max 1 k.e else if x.newFrame then x.cycle + 1 else x.cycle }

/-! ### Wellhead Link packets (R124 to R133) -/

/-- The 64 bits of a block before the scrambler 1 + x^39 + x^58 (R124). -/
def blockBits (b : WlBlock) : Nat :=
  let word := b.lo % 2 ^ 32 + b.hi % 2 ^ 32 * 2 ^ 32
  let v := b.before % 2 ^ 58 + word * 2 ^ 58
  (word ^^^ (v / 2 ^ 19) ^^^ v) % 2 ^ 64

/-- The bytes of a block, in the order of the lane. -/
def blockBytes (b : WlBlock) : List Byte := leBytes 8 (blockBits b)

/-- The type of a control block (sync header 0b10), none for a data block (0b01). Another sync header makes a block of no type
(DEDUCED from IEEE 802.3 Clause 49, log entry 73). -/
def blockType (b : WlBlock) : Option Nat :=
  if b.sync = 1 then none else if b.sync = 2 then some (blockBits b % 256) else some 256

/-- A control block of a type that the table does not list is a block error (R124). -/
def blockBad (b : WlBlock) : Bool :=
  match blockType b with
  | none => false
  | some t => !(t == 0x1E || t == 0x78 || t == 0x87 || t == 0xD2)

/-- The block stream of a packet on a link of n lanes: the alignment markers are discarded from every lane, and block i comes from
the lane i places after that of START (R125). -/
def bonded (n : Nat) (p : WlPkt) : List WlBlock :=
  let ls := p.lanes.map (·.filter (blockType · != some 0xD2))
  (List.range (sumNat (ls.map List.length))).filterMap fun i => (ls.getD ((p.first + i) % n) [])[i / n]?

/-- A packet out of its blocks (R127): the header words, the payload of LENGTH bytes, what the CRC covers, the CRC, the number of
bad blocks, and whether START, as many data blocks as LENGTH asks for and TERMINATE stood there. -/
structure WlRx where
  h0 : Word
  h1 : Word
  h2 : Word
  h3 : Word
  payload : List Byte
  cover : List Byte
  crc : Nat
  bad : Nat
  whole : Bool
  deriving DecidableEq, Repr, Inhabited

/-- TYPE and LENGTH of the header. -/
def WlRx.type (r : WlRx) : Nat := fld r.h0 7 0
def WlRx.length (r : WlRx) : Nat := fld r.h0 31 16

/-- The packet that a link of n lanes delivers. -/
def received (n : Nat) (p : WlPkt) : WlRx :=
  let bs := bonded n p
  let data := (bs.filter (blockType · == none)).flatMap blockBytes
  let h (k : Nat) : Word := w32 (leNat ((data.drop (4 * k)).take 4))
  let len := fld (h 0) 31 16
  { h0 := h 0, h1 := h 1, h2 := h 2, h3 := h 3, payload := (data.drop 16).take len, cover := data.take (16 + len)
    crc := leNat ((data.drop (16 + len)).take 4), bad := (bs.filter blockBad).length
    whole := (bs.map blockType) == some 0x78 :: List.replicate (ceilDiv (20 + len) 8) none ++ [some 0x87] }

/-- The blocks between packets pass: those of another type are counted (R124). -/
def State.idleBlocks (s : State) (p : WlPkt) : State :=
  (s.pass p.wait).onIn p.input fun x => { x with blockErrs := x.blockErrs + (p.idle.filter blockBad).length }

/-- A lane of an input is under test: its function sees no valid data (R463). -/
def State.inputTested (s : State) (i : Nat) : Bool :=
  let x := s.inp i
  (List.range x.lanes).any fun k => (tab s.lane.lanes (x.first + k)).test != 0

/-- A packet from its START to its TERMINATE: counted and checked by the input's context (R124, R126, R128). Before
TERMINATE `first` acts on the state of the START block, where the packet is good and of the type of its row. The row stands for the
clock of the START block at the lane's deserialiser, where R130 takes the timestamp: the 12 ns by which the crossing completes
later are neither added nor taken off, and the tracker acts without them (DESIGN CHOICE, log entry 74). A packet whose blocks do
not make up its LENGTH fails its CRC (DEDUCED, log entry 73). -/
def State.wlPacket (s : State) (p : WlPkt) (type : Nat) (first last : WlRx → State → State) : State :=
  let s := s.idleBlocks p
  let x := s.inp p.input
  let r := received x.lanes p
  if x.kind != 1 || !x.aligned || s.inputTested p.input then s.pass p.span
  else if r.bad != 0 then (s.pass p.span).onIn p.input fun x => { x with blockErrs := x.blockErrs + r.bad }
  else
    let (ctx, found) := (s.cvu.ctx p.input).check r.cover (if r.whole then r.crc else 4294967296)
    let s := (s.useCtx p.input ctx).onIn p.input fun x => { x with packets := x.packets + 1 }
    let mine := r.type == type
    let first := if mine then first r else id
    let last := if mine then last r else id
    match found with
    | .crcFail =>
      ((s.pass p.span).onIn p.input fun x => { x with crcErrs := x.crcErrs + 1 }).raise 0x02 0x03 p.input
    | .again =>
      ((s.pass p.span).onIn p.input fun x => { x with aliveReps := x.aliveReps + 1 }).raise 0x02 0x04 p.input
    | .gap n => last (((first s).onIn p.input fun x => { x with aliveGaps := x.aliveGaps + w32 n }).raise 0x02 0x05 p.input
        |>.pass p.span)
    | .pass => last ((first s).pass p.span)

/-- A block time of a RATE code, in ns (R126). -/
def blockTime : Nat → Q
  | 0 => ⟨64, 10⟩
  | 1 => ⟨256, 100⟩
  | _ => ⟨20625, 10000⟩

/-- The skew of a marker against those of the same count on the other lanes is at most 32 block times (R126). -/
def skewOk (marks : List (Option (Nat × Nat))) (rate lane count raw : Nat) : Bool :=
  (List.range marks.length).all fun j =>
    match tab marks j with
    | some (n, t) => j == lane || n != count || (Q.mk (max t raw - min t raw) nsU).le ((blockTime rate).mul ⟨32, 1⟩)
    | none => true

/-- The count of a marker block, and whether the block is a marker of this lane of a link of n lanes, `since` blocks after the one
before where there was one, its skew absorbed (R125, R126). -/
def markerOf (b : WlBlock) (marks : List (Option (Nat × Nat))) (rate lane since linkId n raw : Nat) : Nat × Bool :=
  let bytes := blockBytes b
  let byte (k : Nat) : Nat := (bytes.getD k 0).toNat
  let count := byte 3 + 256 * byte 4
  let inPos := (tab marks lane).isNone || since == 16384
  (count, inPos && byte 1 == lane && byte 2 == linkId && byte 5 == n && skewOk marks rate lane count raw)

/-- WL_AM_BLOCK: an alignment-marker position of a lane passes, `since` blocks after the lane's marker before, with the block that
stood in it (R125, R126). The first marker of a lane gives the position. A marker whose skew cannot be absorbed is not in
position (DEDUCED, log entry 73). -/
def wlAmBlock (s : State) (wait i lane since : Nat) (b : WlBlock) : State :=
  let s := s.pass wait
  let x := s.inp i
  if x.kind != 1 || x.lanes ≤ lane then s
  else
    let there := blockType b == some 0xD2 && !s.inputTested i
    let (count, fine) := markerOf b x.marks x.rate lane since x.linkId x.lanes s.raw
    let right := there && fine
    let s := s.onIn i fun x =>
      { x with good := upd x.good lane fun n => if right then min 2 (n + 1) else 0
               bad := upd x.bad lane fun n => if right then 0 else n + 1
               marks := if there then upd x.marks lane fun _ => some (count, s.raw) else x.marks }
    let x := s.inp i
    if !x.aligned && x.good.all (2 ≤ ·) && x.marks.all (fun m => m.any (·.1 == count)) then
      (s.relink i fun x => { x with aligned := true }).causeOff 0x02 0x06 i
    else if x.aligned && 3 ≤ tab x.bad lane then
      let s := s.relink i fun x =>
        { x with aligned := false, good := x.good.map fun _ => 0, bad := x.bad.map fun _ => 0
                 verdict := none, format := none, lineBad := true }
      s.raiseOn 0x02 0x06 i
    else s

/-- WL_FORMAT (R131). -/
def wlFormat (s : State) (p : WlPkt) : State :=
  s.wlPacket p 1 (fun _ => id) fun r s =>
    let i := p.input
    let x := s.inp i
    let b := r.payload
    let le (k n : Nat) : Nat := leNat ((b.drop k).take n)
    let num := le 8 4
    let den := le 12 4
    let rates := (s.chansOf i).filterMap fun c => (s.ch c).cfg
    let ok := le 0 2 == x.pixels && le 2 2 == x.lines && le 4 2 == x.total && le 6 1 == x.packing
      && rates.all fun g => num * g.fden == g.fnum * den
    let fresh := x.format != some b
    let s := s.relink i fun x => { x with verdict := some ok, format := some b, fnum := num, fden := den }
    let s := if ok then (s.causeOff 0x02 0x07 i) else s.raiseOn 0x02 0x07 i
    let s := if ok && num != 0 && x.total != 0 then
        setLineFormat s i (quot 131 (den * secU) (num * x.total)) x.total
      else s
    if fresh then
      s.event 0x0203 (s.fed i) (chanVec (s.fed i)) [i, le 0 4, le 4 4, le 8 4]
    else s

/-- WL_FRAME_START (R130). -/
def wlFrameStart (s : State) (p : WlPkt) : State :=
  s.wlPacket p 2 (fun r s => (s.newFrame p.input r.h1.toNat true).giveEdge p.input 0) fun _ => id

/-- A packet of a line lower than one received begins a frame whose FRAME_START was lost (R130). -/
def State.impliedFrame (s : State) (i frame l : Nat) : State :=
  let x := s.inp i
  if x.frame.isNone || l < x.high then s.newFrame i frame false else s

/-- A line with a gap is lost for its rows (R143). -/
def State.loseLine (s : State) (i : Nat) : State :=
  match (s.inp i).line with
  | some l => (s.damageLine i l).onIn i fun x => { x with line := none, samples := [] }
  | none => s

/-- WL_LINE: a segment arrives (R129, R130, R143). -/
def wlLine (s : State) (p : WlPkt) : State :=
  let i := p.input
  s.wlPacket p 3
    (fun r s =>
      let l := fld r.h2 15 0
      let fp := fld r.h2 31 16
      let s := s.impliedFrame i r.h1.toNat l
      let s := if (s.inp i).line.any (· != l) then s.loseLine i else s
      let s := if fp = 0 then s.giveEdge i l else s
      if (s.inp i).line.isSome then s
      else (s.beginLine i l).onIn i fun x =>
        { x with line := some l, high := max x.high l, nextPix := 0, lineBad := false, lineStart := s.raw, samples := [] })
    (fun r s =>
      let l := fld r.h2 15 0
      let fp := fld r.h2 31 16
      let x := s.inp i
      let (smps, n) := unpackLine x.packing r.payload
      let wrongPack := fld r.h3 7 0 != x.packing
      let bad := x.lineBad || fp != x.nextPix || bit r.h3 9 || wrongPack || !x.accepted
      let s := if wrongPack && x.accepted then (s.raise 0x02 0x07 i).loseFrame i else s
      let s := s.onIn i fun x =>
        { x with lineBad := bad, nextPix := fp + n, samples := x.samples ++ smps
                 accepted := x.accepted && !wrongPack }
      let s := if bad then s.damageLine i l else s
      if bit r.h3 8 then
        let x := s.inp i
        let tp := (s.trk (5 + i)).tpred
        let late := decide (0 < tp) && decide (3 * tp < s.raw - x.lineStart)
        if x.lineBad || late || x.nextPix != x.pixels then s.loseLine i
        else
          let (bits, smp) := match packing? x.packing with
            | some (b, m, _, _) => (b, m)
            | none => (16, 0)
          (s.endLine i l smp (planes bits smp x.samples)).onIn i fun x => { x with line := none, samples := [] }
      else s)

/-- WL_BLANK: a blanking line gives its edge (R130). -/
def wlBlank (s : State) (p : WlPkt) : State :=
  s.wlPacket p 4
    (fun r s =>
      let l := fld r.h2 15 0
      let s := (s.impliedFrame p.input r.h1.toNat l).loseLine p.input
      (s.giveEdge p.input l).onIn p.input fun x => { x with high := max x.high l })
    fun _ => id

/-- WL_FRAME_END: the frame and its AUX collection end (R133). -/
def wlFrameEnd (s : State) (p : WlPkt) : State :=
  s.wlPacket p 5 (fun _ => id) fun _ s =>
    (s.loseLine p.input).onIn p.input fun x => if x.inFrame then x.closeFrame else x

/-- The bytes of AUX items in a frame record (R133, R232). -/
def auxBytes (l : List AuxItem) : Nat := sumNat (l.map fun x => x.data.length + 8)

/-- An AUX item joins the frame's metadata while it fits, and that of the next record of each running channel of the input while it
fits there beside the late items of the frame before (R133, R233). -/
def State.takeAux (s : State) (i : Nat) (x : AuxItem) : State :=
  let full (l : List AuxItem) : Bool := decide (2048 < auxBytes l + x.data.length + 8)
  if full (s.inp i).aux then s.raise 0x02 0x09 i
  else
    let s := s.onIn i fun y => { y with aux := y.aux ++ [x] }
    let l := (s.chansOf i).filter s.runs
    let s := if l.any fun c => full (s.ch c).aux then s.raise 0x02 0x09 i else s
    l.foldl (fun s c => if full (s.ch c).aux then s else s.onCh c fun h => { h with aux := h.aux ++ [x] }) s

/-- WL_AUX: an item of a known TAG (R133). -/
def wlAux (s : State) (p : WlPkt) : State :=
  s.wlPacket p 6 (fun _ => id) fun r s =>
    let x := s.inp p.input
    let tag := fld r.h3 31 16
    if !x.inFrame || !(tag == 1 || tag == 2 || decide (0x8000 ≤ tag)) then s
    else s.takeAux p.input ⟨tag, r.h1.toNat, r.payload⟩

/-- The formats of R134 by mode: 4:2:2 10-bit up to 60p or 4:4:4 12-bit up to 30p, on octal links 4:2:2 10-bit from 100p to
120p; at a rate over 1.001 the links run at 11.88/1.001 Gb/s (RATE 4), else at 11.88 Gb/s (RATE 3; DEDUCED, log entry 24). -/
def sdiFormat (x : InSt) (d : SdiLine) : Bool :=
  let upTo (n : Nat) : Bool := decide (d.rateNum ≤ n * d.rateDen)
  let high := d.chroma == 2 && d.depth == 10
  let deep := d.chroma == 3 && d.depth == 12
  (if d.mode = 2 then high && upTo 120 && decide (99 * d.rateDen < d.rateNum) else (high && upTo 60) || (deep && upTo 30))
    && (d.rateDen == 1001) == (x.rate == 4)

/-- SDI_LINE (R135): the edge at EAV, then the line's samples; the payload identifier is compared on the line that
starts a frame. -/
def sdiLine (s : State) (d : SdiLine) : State :=
  let i := d.input
  let s := s.pass d.wait
  let x := s.inp i
  if x.kind != 2 || s.inputTested i then s.pass d.span
  else
    let s := if x.aligned then s else s.relink i fun x => { x with aligned := true }
    let s := if d.frameStart || x.frame.isNone || d.line < x.high then
        s.newFrame i (((x.frame.getD 0xFFFFFFFF) + 1) % 4294967296) true
      else s
    let rates := (s.chansOf i).filterMap fun c => (s.ch c).cfg
    let ok := d.pixels == x.pixels && d.lines == x.lines && d.mode == x.sdiMode && sdiFormat x d
      && rates.all fun g => d.rateNum * g.fden == g.fnum * d.rateDen
    let s := if d.frameStart then
        let s := s.relink i fun x => { x with verdict := some ok, accepted := true, fnum := d.rateNum, fden := d.rateDen }
        if ok then
          if d.rateNum != 0 && x.total != 0 then
            setLineFormat s i (quot 131 (d.rateDen * secU) (d.rateNum * x.total)) x.total
          else s
        else s.raise 0x02 0x0A i
      else s
    let s := (s.giveEdge i d.line).onIn i fun x => { x with high := max x.high d.line, packets := x.packets + 1 }
    let s := if d.line < x.lines then s.beginLine i d.line else s
    let s := s.pass d.span
    let s := if d.timecode.isEmpty then s else s.takeAux i ⟨1, ((s.inp i).frame).getD 0, d.timecode⟩
    -- a skew of more than 2 us between the links is not absorbed, and the line is damaged (DEDUCED, log entry 73)
    let s := if 2 * usC < d.skew then s.damageLine i d.line else s
    if !d.crcOk then ((s.damageLine i d.line).onIn i fun x => { x with crcErrs := x.crcErrs + 1 }).raise 0x02 0x0B i
    else if d.line < x.lines && d.skew ≤ 2 * usC then s.endLine i d.line d.chroma (planes d.depth d.chroma d.samples)
    else s

/-! ### Needed rows (R143 to R145) -/

/-- The device time at which the next row of a channel is needed: predicted capture time plus LATE_MARGIN. -/
def State.neededAt (s : State) (c : Nat) : Option Nat :=
  let h := s.ch c
  if (h.st = 0 && h.last.isNone) || h.last.any (· < h.needF) then none
  else match s.ipOf c with
    | none => none
    | some ipx =>
      (s.predictRow c (h.cycleOf h.needF) h.needR).map fun t =>
        t + ((s.tRow c).getD ⟨0, 1⟩ |>.mul ⟨(s.ip ipx).margin, 64⟩).quot 144

/-- The next row of a channel is needed at t: a row that is not present or is damaged is coded as skip (R144); after
the last row of a frame its skips are reported (R145). A row whose last line ended after the clock of t came late (R143). -/
def State.needRow (s : State) (c t : Nat) : State :=
  let h := s.ch c
  match h.cfg, s.ipOf c with
  | some g, some ipx =>
    let p := s.ip ipx
    let i := s.inp p.input
    let f := h.needF
    let r := h.needR
    let ok := match s.row? c f r with
      | some x => rowPresent g p i x && x.capT.any fun e => decide (e < t + s.time.addend)
      | none => false
    let s :=
      if ok then s.onRow c f r fun x => { x with needed := true }
      else
        let t := (s.predictRow c (h.cycleOf f) r).getD s.now
        let s := if (s.row? c f r).isSome then s
          else s.onEnc fun e => { e with rows := e.rows ++ [{ chan := c, frame := f, row := r }] }
        let s := s.onRow c f r fun x =>
          { x with needed := true, skip := true, capT := some t, start := s.startOf c t }
        let s := s.rowCaptured c f r
        let s := s.onCh c fun h =>
          { h with frameSkips := aset h.frameSkips f (((alookup h.frameSkips f).getD 0) + 1) }
        ((s.onIn p.input fun x => { x with skipped := x.skipped + 1 }).onCl fun x => { x with skipped := x.skipped + 1 }).raise 0x02 0x01 p.input c
    if r + 1 < g.ctuRows then s.onCh c fun h => { h with needR := r + 1 }
    else
      let n := (alookup (s.ch c).frameSkips f).getD 0
      let s := s.onCh c fun h =>
        { h with needF := f + 1, needR := 0, frameSkips := adel h.frameSkips f }
      if n = 0 then s else s.event 0x0202 c (chanVec c) [p.input, f, n]
  | _, _ => s

/-! ### The commands -/

/-- WL_AM_BLOCK. -/
def execWlAmBlock (wait input lane since sync lo hi before : Nat) (s : State) : Host.Outcome State Fault Refusal :=
  .next (wlAmBlock s wait input lane since ⟨sync, lo, hi, before⟩)

/-- WL_FORMAT. -/
def execWlFormat (p : WlPkt) (s : State) : Host.Outcome State Fault Refusal := .next (wlFormat s p)

/-- WL_FRAME_START. -/
def execWlFrameStart (p : WlPkt) (s : State) : Host.Outcome State Fault Refusal := .next (wlFrameStart s p)

/-- WL_LINE. -/
def execWlLine (p : WlPkt) (s : State) : Host.Outcome State Fault Refusal := .next (wlLine s p)

/-- WL_BLANK. -/
def execWlBlank (p : WlPkt) (s : State) : Host.Outcome State Fault Refusal := .next (wlBlank s p)

/-- WL_FRAME_END. -/
def execWlFrameEnd (p : WlPkt) (s : State) : Host.Outcome State Fault Refusal := .next (wlFrameEnd s p)

/-- WL_AUX. -/
def execWlAux (p : WlPkt) (s : State) : Host.Outcome State Fault Refusal := .next (wlAux s p)

/-- SDI_LINE. -/
def execSdiLine (d : SdiLine) (s : State) : Host.Outcome State Fault Refusal := .next (sdiLine s d)

/-- ROW_NEEDED: the clock runs on to the first moment at which a row of a running channel is needed. -/
def execRowNeeded (s : State) : Host.Outcome State Fault Refusal :=
  match minBy (·.2) ((List.range 16).filterMap fun c => (s.neededAt c).map fun t => (c, t)) with
  | none => .next s
  | some (c, t) => .next ((s.toTime t).needRow c t)

/-- TL_LOSS_EXPIRE: the clock runs on to the first loss window that expires; a line tracker that is lost raises
INPUT:0x02 (R99, R145). -/
def execTlLossExpire (s : State) : Host.Outcome State Fault Refusal :=
  match s.firstLoss with
  | none => .next s
  | some (tl, t) =>
    let s := loseTl (s.toRaw t) tl
    .next (if 5 ≤ tl ∧ (s.trk tl).mode = 5 then s.raiseOn 0x02 0x02 (tl - 5) else s)

/-! ### Pictures of a feed (R352, R355) -/

/-- CTU columns and CTUs of a feed's picture; the area of a CTU. -/
def FeedPic.cols (p : FeedPic) : Nat := ceilDiv p.sps.w (max 1 p.sps.ctu)
def FeedPic.count (p : FeedPic) : Nat := p.cols * ceilDiv p.sps.h (max 1 p.sps.ctu)
def FeedPic.rect (p : FeedPic) (k : Nat) : Rect :=
  let x := k % max 1 p.cols * p.sps.ctu
  let y := k / max 1 p.cols * p.sps.ctu
  ⟨x, y, min p.sps.ctu (p.sps.w - x), min p.sps.ctu (p.sps.h - y)⟩

/-- Sample (x, y) of component c of a feed's picture, 0 where its CTU is not there. -/
def FeedPic.sample (p : FeedPic) (c x y : Nat) : Nat :=
  let (dx, dy) := (planeDivs p.sps.chroma).getD c (1, 1)
  let k := y * dy / max 1 p.sps.ctu * p.cols + x * dx / max 1 p.sps.ctu
  let r := p.rect k
  match p.ctus.find? (·.at' == k) with
  | some u => (u.planes.getD c []).getD ((y - r.y / dy) * (r.w / dx) + (x - r.x / dx)) 0
  | none => 0

/-- A sample at 10 bits (R355). -/
def toTen (bits v : Nat) : Nat := if bits ≤ 10 then v * 2 ^ (10 - bits) else min 1023 ((v + 2 ^ (bits - 11)) / 2 ^ (bits - 10))

/-- A picture as the output ring holds it. -/
def FeedPic.atTen (p : FeedPic) : FeedPic :=
  { p with ctus := p.ctus.map fun u => { u with planes := u.planes.map (·.map (toTen p.sps.depth)) } }

end Sys2Proof.Machine
end

