-- ==== Sys2Proof/Machine/Tasks.lean ====
section
/-!
DEFINITION. Dispatch (chapter 09 of spec/): ready lists, wells, flows, delay lists, cancels, thresholds and trace,
and the commands of group 0x06. What a completed task does for its consumer stands with the consumers.
-/
namespace Sys2Proof.Machine

/-- A change of Dispatch's pool. -/
def State.onPool (s : State) (f : List Ent → List Ent) : State := s.onDs fun d => { d with pool := f d.pool }

/-- The pool entry of an order number. -/
def State.ent (s : State) (key : Nat) : Option Ent := s.ds.pool.find? (·.key == key)

/-- A change of one pool entry. -/
def State.onEnt (s : State) (key : Nat) (f : Ent → Ent) : State :=
  s.onPool fun l => l.map fun e => if e.key = key then f e else e

/-- A change of one unit. -/
def State.onUnit (s : State) (u : Nat) (f : UnitSt → UnitSt) : State :=
  s.onDs fun d => { d with units := upd d.units u f }

/-- A change of one flow. -/
def State.onFlow (s : State) (i : Nat) (f : Flow → Flow) : State :=
  s.onDs fun d => { d with flows := d.flows.map fun p => if p.1 = i then (i, f p.2) else p }

/-! ### Trace (R308) -/

/-- A 64-bit trace record is written, or lost when 8,192 are unread: in STOP mode the new one, in WRAP mode the
oldest. -/
def State.putTrace (s : State) (rec : Nat) : State :=
  let unread := occupancy s.ds.traceWr s.ds.traceRd
  let full := decide (8192 ≤ unread)
  let s := if full then
      let s := s.onDs fun d => { d with traceLost := satAdd d.traceLost 1 0xFFFF }
      if s.ds.lostRun then s else (s.raise 0x0F 0x05).onDs fun d => { d with lostRun := true }
    else s.onDs fun d => { d with lostRun := false }
  if full && s.ds.traceStop then s
  else
    let s := s.onDs fun d =>
      { d with
        trace := aset d.trace (d.traceWr.toNat % 8192) rec
        traceWr := d.traceWr + 1
        traceRd := if full then d.traceRd + 1 else d.traceRd }
    let above := s.ds.traceLevel != 0 && decide (s.ds.traceLevel ≤ occupancy s.ds.traceWr s.ds.traceRd)
    let s' := s.onDs fun d => { d with traceOver := above }
    if above && !s.ds.traceOver then s'.setIrq 24 else s'

/-- The TIME field of a trace record: device time nanoseconds bits 21:2, in bits 63:44. -/
def traceTime (t : Nat) : Nat := tNs t / 4 % 1048576 * 2 ^ 44

/-- A SYNC record (R308). -/
def State.syncTrace (s : State) : State :=
  let r := traceTime s.now + 0xF * 2 ^ 40 + tNs s.now * 1024 + tSec s.now % 1024
  (s.putTrace r).onDs fun d => { d with syncT := s.now }

/-- A trace record of a decision about a task, where its kind is enabled; a SYNC record goes before it when TIME
would have wrapped since the last one. -/
def State.trace (s : State) (kind unit : Nat) (d : Desc) : State :=
  if s.ds.traceOn && nbit s.ds.kindMask kind then
    let s := if s.ds.syncT + 4194304 * nsU ≤ s.now || s.now < s.ds.syncT then s.syncTrace else s
    s.putTrace (traceTime s.now + kind * 2 ^ 40 + unit * 2 ^ 34 + d.prio * 2 ^ 31 + d.cls * 2 ^ 29
      + d.flow * 2 ^ 19 + b01 d.flowed * 2 ^ 18 + d.cookie)
  else s

/-! ### Depths and thresholds (R285, R307) -/

/-- The number of a ready list: 8 x class + priority. -/
def Desc.list (d : Desc) : Nat := 8 * d.cls + d.prio

/-- Tasks that hold credits of a list's well. -/
def DsSt.depth (d : DsSt) (l : Nat) : Nat := (d.pool.filter (·.desc.list == l)).length

/-- Threshold bits follow the pool use and the depth of a list: a bit is set when its condition comes to hold, and
vector 25 fires when one becomes 1 (R307). -/
def State.thresholds (s : State) (l : Nat) : State :=
  let used := s.ds.pool.length
  let pOver := s.ds.poolLevel != 0 && decide (s.ds.poolLevel ≤ used)
  let lOver := s.ds.listLevel != 0 && decide (s.ds.listLevel ≤ s.ds.depth l)
  let pSet := pOver && !s.ds.poolOver && !s.ds.poolHit
  let lSet := lOver && !bit s.ds.listOver l && !bit s.ds.listHit l
  let s := s.onDs fun d =>
    { d with
      high := max d.high used
      poolOver := pOver, poolHit := d.poolHit || pSet
      listOver := w32 (if lOver then setBit d.listOver.toNat l else clrBit d.listOver.toNat l)
      listHit := if lSet then w32 (setBit d.listHit.toNat l) else d.listHit }
  if pSet || lSet then s.setIrq 25 else s

/-! ### Submission (R285, R289, R292) -/

/-- Whether Dispatch would accept a descriptor now: a credit of its well and a pool entry (R285, W5). -/
def DsSt.hasCredit (d : DsSt) (x : Desc) : Bool :=
  decide (d.depth x.list < tab d.caps x.list) && decide (d.pool.length < 4096)

/-- The pool entry that an accepted task takes (the lowest free one, log entry 21). -/
def DsSt.freeIdx (d : DsSt) : Nat := (lowestFree (d.pool.map (·.idx)) 4096).getD 0

/-- A task is accepted: it takes a credit and an entry, and may be eligible from the next clock, later ones of the
same clock four by four (R289, R294). Each acceptance moves the pointer of R37 just past its producer. -/
def State.accept (s : State) (producer : Nat) (x : Desc) (host delayIdx : Option Nat) : State :=
  let i := s.ds.freeIdx
  let n := if s.ds.accepts.1 = s.clk then s.ds.accepts.2 else 0
  let g := ((alookup s.ds.gens i).map (· + 1)).getD 0 % 8
  let e : Ent :=
    { idx := i, gen := g, key := s.ds.next, desc := x, producer := producer, host := host, st := 0, unit := 0
      start := 0, ready := s.clk + 1 + n / 4, passed := false, timed := false, delayIdx := delayIdx }
  let s := s.onDs fun d =>
    { d with
      pool := d.pool ++ [e], gens := aset d.gens i g, next := d.next + 1, accepts := (s.clk, n + 1)
      prodPtr := (producer + 1) % 21
      runs := d.runs.erase (producer, x.list) }
  (s.trace 0 producer x).thresholds x.list

/-- The class that a work type requires (R283), none of a type that the table lacks. -/
def typeClass : Nat → Option Nat
  | 1 => some 0
  | 3 | 4 => some 1
  | 5 | 6 | 7 => some 2
  | 8 | 9 | 10 => some 3
  | _ => none

/-- Units of a class (chapter 09). -/
def classUnits : Nat → Nat
  | 0 => 16
  | 1 => 6
  | 2 => 8
  | _ => 12

/-- A descriptor that Dispatch takes (R284): its type's class, a unit of it, an allocated flow of it. -/
def DsSt.descOk (d : DsSt) (x : Desc) : Bool :=
  typeClass x.type == some x.cls && (!x.pin || decide (x.unit < classUnits x.cls))
    && (!x.flowed || match alookup d.flows x.flow with | some f => f.cls == x.cls | none => false)

/-- A hardware producer is refused for want of a credit: it is counted, traced, and reported once for each run of refusals on that
list (R292). -/
def State.refusedOnce (s : State) (producer : Nat) (x : Desc) : State :=
  let first := !s.ds.runs.contains (producer, x.list)
  let s := s.onDs fun d =>
    { d with refused := satAdd d.refused 1 0xFFFF, runs := if first then d.runs ++ [(producer, x.list)] else d.runs }
  let s := s.trace 1 producer x
  if first then s.raise 0x0F 0x01 producer else s

/-- A hardware producer submits a task: accepted, or refused and kept (R292); one with a malformed descriptor is discarded
(R284). -/
def State.submit (s : State) (producer : Nat) (x : Desc) (host delayKey delayIdx : Option Nat := none) : State :=
  if !s.ds.descOk x then s.raise 0x0F 0x07 producer
  else if s.ds.hasCredit x then s.accept producer x host delayIdx
  else if s.ds.held.contains ⟨producer, x, delayKey⟩ then s
  else (s.onDs fun d => { d with held := d.held ++ [⟨producer, x, delayKey⟩] }).refusedOnce producer x

/-- A failed task that waits for a credit of the priority 6 list (R211): its entry moves there once there is one. -/
def State.retryMoved (s : State) (h : Held) : State :=
  if s.ds.depth h.desc.list < tab s.ds.caps h.desc.list then
    let s := s.onDs fun d => { d with held := d.held.erase h, prodPtr := 14 }
    match s.ds.pool.find? fun e => e.st == 3 && e.desc.type == h.desc.type && e.desc.payload == h.desc.payload with
    | some e =>
      ((s.onEnt e.key fun e => { e with desc := h.desc, st := 0, ready := s.clk + 1 }).trace 0 13 h.desc).thresholds h.desc.list
    | none => s
  else s

/-- PRODUCER_RETRY: every task kept after a refusal is submitted again, in the order of R37 over producers. -/
def retryHeld (s : State) : State :=
  let s := s.pass 1
  let l := sortBy (fun h => (h.producer + 21 - s.ds.prodPtr) % 21) s.ds.held
  l.foldl (fun s h =>
    if h.producer = 13 then s.retryMoved h
    else if s.ds.hasCredit h.desc then
      let s := s.onDs fun d => { d with held := d.held.erase h }
      s.accept h.producer h.desc none none
    else s) s

/-! ### Eligibility and pulling (R286 to R288, R294, R296) -/

/-- The entries of a flow, oldest first. -/
def DsSt.flowEnts (d : DsSt) (f : Nat) : List Ent := d.pool.filter fun e => e.desc.flowed && e.desc.flow == f

/-- Whether a waiting entry is eligible (R287, R294, R296, R302). -/
def DsSt.eligible (d : DsSt) (clk : Nat) (e : Ent) : Bool :=
  e.st == 0 && decide (e.ready ≤ clk) &&
  (if e.desc.flowed then
    match alookup d.flows e.desc.flow with
    | none => true
    | some f =>
      decide (f.since ≤ clk) && f.ghosts.all (fun g => decide (e.key < g)) &&
      (if f.ordered then ((d.flowEnts e.desc.flow).take f.window).any (·.key == e.key)
       else ((d.flowEnts e.desc.flow).head?.map (·.key)) == some e.key)
   else true)

/-- The place of an entry in a class's lists: priority 7 first, then earliest deadline, then order of entry. -/
def listBefore (a b : Ent) : Bool :=
  if a.desc.prio != b.desc.prio then decide (b.desc.prio < a.desc.prio)
  else match a.desc.dl, b.desc.dl with
  | some x, some y => if x = y then decide (a.key < b.key) else decide (x < y)
  | some _, none => true
  | none, some _ => false
  | none, none => decide (a.key < b.key)

/-- The first entry of a list in the order of R286. -/
def firstEnt : List Ent → Option Ent
  | [] => none
  | e :: rest => match firstEnt rest with
    | none => some e
    | some f => if listBefore e f then some e else some f

/-- The global index of a class's first unit: coding 0, decode 16, dipper 22, pump 30 (chapter 09). -/
def classBase : Nat → Nat
  | 0 => 0
  | 1 => 16
  | 2 => 22
  | _ => 30

/-- The class of a global unit index. -/
def unitClass (u : Nat) : Nat := if u < 16 then 0 else if u < 22 then 1 else if u < 30 then 2 else 3

/-- The eligible tasks that a unit may take. -/
def DsSt.takable (d : DsSt) (clk u : Nat) : List Ent :=
  let c := unitClass u
  d.pool.filter fun e =>
    e.desc.cls == c && (!e.desc.pin || e.desc.unit == u - classBase c) && d.eligible clk e

/-- The histogram bin of a waiting time in core clocks (R306): 1.5 clocks are a nanosecond. -/
def histBin (clocks : Nat) : Nat :=
  (List.range 15).foldl (fun b j => if 2 ^ (j + 1) * 10 * 3 ≤ clocks * 2 then j + 1 else b) 0

/-- A unit takes an entry: service begins, its waiting time is counted (R306). -/
def State.take (s : State) (u : Nat) (e : Ent) : State :=
  let since := match (if e.desc.flowed then alookup s.ds.flows e.desc.flow else none) with
    | some f => max e.ready f.since
    | none => e.ready
  let s := s.onEnt e.key fun e => { e with st := 1, unit := u, start := s.clk }
  let s := s.onUnit u fun x =>
    { x with holds := some e.key
             hist := upd x.hist (histBin (s.clk - since)) (fun n => satAdd n 1 0xFFFF) }
  s.trace 2 u e.desc

/-- TASK_PULL: the idle enabled units of a class pull in the order of R288. DP6 takes no task of the class. -/
def pullClass (s : State) (cls : Nat) : State :=
  let n := classUnits cls
  let base := classBase cls
  let ptr := tab s.ds.ptrs cls
  ((List.range n).map fun i => (ptr + i) % n).foldl (fun s i =>
    let u := base + i
    let x := tab s.ds.units u
    if !x.enabled || x.holds.isSome || u == 28 then s
    else match firstEnt (s.ds.takable s.clk u) with
      | none => s
      | some e => (s.take u e).onDs fun d => { d with ptrs := upd d.ptrs cls fun _ => (i + 1) % n }) s

/-! ### Leaving Dispatch (R285, R294, R296, R301, R302) -/

/-- A unit is idle again: its busy interval is kept for the load window, and the cause of R304 ends. -/
def State.freeUnit (s : State) (u start : Nat) (counted : Bool) : State :=
  (s.causeOff 0x0F 0x04 u).onUnit u fun x =>
    { x with holds := none
             tasks := if counted then x.tasks + 1 else x.tasks
             busy := (start, s.clk) :: x.busy.take 63 }

/-- An entry leaves: its credit returns, and a delay-list entry through which it came is freed. -/
def State.drop (s : State) (e : Ent) : State :=
  let s := s.onPool fun l => l.filter (·.key != e.key)
  let s := match e.delayIdx with
    | some i => s.onDs fun d => { d with delays := d.delays.filter fun x => !(x.gone && 1024 * x.list + x.idx == i) }
    | none => s
  s.thresholds e.desc.list

/-- The DS_SUBMIT that submitted a task completes (R297, R301). -/
def State.hostDone (s : State) (host : Option Nat) (st : Status) : State :=
  match host with
  | some k => s.complete 0x0610 k st
  | none => s

/-- The flow of a task goes on in the next clock (R294). -/
def State.flowOn (s : State) (d : Desc) : State :=
  if d.flowed then s.onFlow d.flow fun f => { f with since := s.clk + 1, done := f.done + 1 } else s

/-- Completed tasks at the head of an ordered flow are released in order (R296, R297). -/
def State.releaseLoop (s : State) (f : Nat) : List Ent → State
  | [] => s
  | e :: rest =>
    if e.st = 2 then
      let s := (s.trace 3 e.unit e.desc).trace 4 e.unit e.desc
      (((s.flowOn e.desc).drop e).hostDone e.host .ok).releaseLoop f rest
    else s

/-- Whether a task belongs to an ordered flow. -/
def DsSt.isOrdered (d : DsSt) (x : Desc) : Bool :=
  x.flowed && match alookup d.flows x.flow with | some f => f.ordered | none => false

/-- A unit completes the task of an entry: the credit returns at once, or at release in an ordered flow (R285,
R296, R297). -/
def State.finishEnt (s : State) (e : Ent) : State :=
  let s := s.freeUnit e.unit e.start true
  if s.ds.isOrdered e.desc then
    let s := s.onEnt e.key fun e => { e with st := 2 }
    s.releaseLoop e.desc.flow (s.ds.flowEnts e.desc.flow)
  else ((((s.trace 3 e.unit e.desc).flowOn e.desc).drop e).hostDone e.host .ok)

/-- A waiting task is removed by a cancel (R301); one pulled in this very clock counts as waiting (R303). -/
def State.cancelEnt (s : State) (e : Ent) : State :=
  let s := if e.st = 1 then s.onUnit e.unit fun x => { x with holds := none } else s
  (((s.trace 5 0x3F e.desc).drop e).hostDone e.host .cancelled)

/-- Whether a cancel can still remove an entry (R301, R303). -/
def Ent.cancellable (e : Ent) (clk : Nat) : Bool := e.st == 0 || (e.st == 1 && e.start == clk)

/-- The row guard withdraws a waiting task; its flow waits for the reserve path (R302). -/
def State.withdraw (s : State) (e : Ent) : State :=
  let s := if e.st = 1 then s.onUnit e.unit fun x => { x with holds := none } else s
  let s := if e.desc.flowed then s.onFlow e.desc.flow fun f => { f with ghosts := f.ghosts ++ [e.key] } else s
  (s.trace 6 0x3F e.desc).drop e

/-- The reserve path has completed a withdrawn task of a flow (R302). -/
def State.ghostDone (s : State) (flow key : Nat) : State :=
  s.onFlow flow fun f => { f with ghosts := f.ghosts.erase key, since := s.clk + 1, done := f.done + 1 }

/-! ### Delay lists (R298 to R300) -/

/-- The tick of a delay list in time units. -/
def DsSt.tickU (d : DsSt) (l : Nat) : Nat := tab d.ticks l * 100 * nsU

/-- Ticks from the current tick to r, at most 2^31; a tick at or before the current one is due (R299). -/
def ticksAhead (r cur : Nat) : Nat :=
  let a := (r + 4294967296 - cur % 4294967296) % 4294967296
  if a ≤ 2147483648 then a else 0

/-- The device time at which an entry is due. -/
def DsSt.dueTime (d : DsSt) (now : Nat) (e : DelayEnt) : Nat :=
  let cur := now / d.tickU e.list
  let a := ticksAhead e.r cur
  if a = 0 then now else (cur + a) * d.tickU e.list

/-- The entries of a list that wait, in list order: by r, then by entry. -/
def DsSt.waiting (d : DsSt) (now l : Nat) : List DelayEnt :=
  sortBy (fun e => d.dueTime now e) (sortBy (·.key) (d.delays.filter fun e => e.list == l && !e.gone))

/-- A due entry is submitted from producer 8 + d; refused, it stays at the head, and beside what any hardware producer's refusal does
DISPATCH:0x03 is raised once for it (R292, R299). -/
def State.releaseDelay (s : State) (e : DelayEnt) : State :=
  if s.ds.hasCredit e.desc then
    let s := s.trace 8 0x3F e.desc
    let s := s.onDs fun d =>
      { d with delays := d.delays.map fun x => if x.key = e.key then { x with gone := true } else x }
    s.accept (8 + e.list) e.desc e.host (some (1024 * e.list + e.idx))
  else if e.blocked then s
  else
    ((s.onDs fun d =>
      { d with delays := d.delays.map fun x => if x.key = e.key then { x with blocked := true } else x }).refusedOnce
        (8 + e.list) e.desc).raise 0x0F 0x03

/-- DELAY_RELEASE: the clock runs on to the earliest due time among the list heads, and that head is submitted; one whose tick is not
ahead is so in the next clock (R299). -/
def releaseFirst (s : State) : State :=
  let heads := (List.range 4).filterMap fun l => (s.ds.waiting s.now l).head?
  match minBy (fun e => s.ds.dueTime s.now e) heads with
  | none => s
  | some e =>
    let t := s.ds.dueTime s.now e
    (if t = s.now then s.pass 1 else s.toTime t).releaseDelay e

/-- A forward step releases every entry whose tick it skips, in list order, none behind a blocked one (R299, R300). -/
def skipDelays (s : State) (old new : Nat) : State :=
  let due := (List.range 4).flatMap fun l =>
    (s.ds.waiting old l).filter fun e =>
      let t := s.ds.dueTime old e
      decide (old ≤ t) && decide (t < new)
  due.foldl (fun s e => if (s.ds.waiting old e.list).head?.map (·.key) = some e.key then s.releaseDelay e else s) s

/-! ### Deadlines (R304) -/

/-- The first clock past a unit's service limit: more than 1 ms past the task's deadline, or 10 ms without one. -/
def Ent.limit (e : Ent) (s : State) : Nat :=
  match e.desc.dl with
  | some t => if t + msU < s.now then s.clk else s.clk + (t + msU - s.now) / s.time.addend + 1
  | none => e.start + 10 * msC + 1

/-- TASK_DEADLINE: a task still waiting at its deadline is traced and reported once. -/
def deadlineTasks (s : State) : State :=
  let l := s.ds.pool.filter fun e => e.st == 0 && !e.passed && e.desc.dl.isSome
  match minBy (fun e => e.desc.dl.getD 0) l with
  | none => s
  | some e =>
    let s := s.toTime (e.desc.dl.getD 0)
    let s := s.onEnt e.key fun e => { e with passed := true }
    (s.trace 9 0x3F e.desc).raise 0x0F 0x02

/-- SERVICE_TIMEOUT: a unit has held a task past its limit; the cause lasts while it holds it. -/
def serviceTimeout (s : State) : State :=
  let l := s.ds.pool.filter fun e => e.st == 1 && !e.timed
  match minBy (fun e => e.limit s) l with
  | none => s
  | some e =>
    let s := s.toClk (e.limit s)
    (s.onEnt e.key fun e => { e with timed := true }).raiseOn 0x0F 0x04 e.unit

/-! ### Commands of group 0x06 -/

/-- The sum of all well capacities (W5 of R26). -/
def DsSt.assigned (d : DsSt) : Nat := d.caps.foldl (· + ·) 0

/-- The Dispatch priority of a channel (table "Priority use"). -/
def ChCfg.dsPrio (g : ChCfg) : Nat := max 1 g.prio

/-- Tasks of one row of a channel: the streams of a mosaic row times the tile columns. -/
def Ch.tasksPerRow (h : Ch) : Nat := match h.lay with | some l => l.mx * l.cols | none => 0

/-- The entries that a channel needs in its coding list (R291). -/
def State.rowTasks (s : State) (c : Nat) : Nat :=
  let h := s.ch c
  match s.tRow c with
  | none => 0
  | some t =>
    let x := if h.wantsX (s.twin.role != 0) then 150 * usU else 0
    h.tasksPerRow * ((((t.mul ⟨2, 1⟩).add ⟨x, 1⟩).div t).ceil + 1)

/-- R291: the coding wells hold the tasks of the laid-out channels. -/
def State.codingWellsOk (s : State) : Bool :=
  let need (p : Nat) : Nat :=
    ((List.range 16).filter fun c => match (s.ch c).cfg with | some g => g.dsPrio == p | none => false).foldl
      (fun n c => n + s.rowTasks c) 0
  ([1, 2, 3, 4, 5].all fun p => need p ≤ tab s.ds.caps p) &&
    ((List.range 16).foldl (fun n c => n + (s.ch c).tasksPerRow) 0 ≤ tab s.ds.caps 6)

/-- DS_WELLS (0x0600; R26, R290, R291). `decodeOk` is the check of R340. -/
def dsWells (c : Vx) (s : State) (decodeOk : State → Bool) : Res :=
  let cls := fld (c.w 2) 1 0
  let caps := (List.range 8).map fun p =>
    let w := c.w (3 + p / 2)
    if p % 2 = 0 then fld w 12 0 else fld w 28 16
  refuseRsv c ((2, msk 1 0) :: [3, 4, 5, 6].map fun k => (k, msk 28 16 + msk 12 0)) <|
  refuse (caps.getD 7 0 == 0) .badParam 6 <|
  let s' := s.onDs fun d =>
    { d with caps := (List.range 32).map fun i => if i / 8 = cls then caps.getD (i % 8) 0 else tab d.caps i }
  refuse (decide (4096 < s'.ds.assigned)) .badParam noWord <|
  refuse (!s.host.lenient && cls == 0 && !s'.codingWellsOk) .noResource noWord <|
  refuse (!s.host.lenient && cls == 1 && !decodeOk s') .noResource noWord <|
  .ok [s'.ds.assigned] ((List.range 8).foldl (fun s p => s.thresholds (8 * cls + p)) s')

/-- Vehitrix or the host allocates a flow: the lowest free one (log entry 21). -/
def State.allocFlow (s : State) (cls : Nat) (ordered : Bool) (window : Nat) (host : Bool) : Option (Nat × State) :=
  (lowestFree (s.ds.flows.map (·.1)) 1024).map fun i =>
    (i, s.onDs fun d => { d with flows := d.flows ++ [(i, ⟨cls, ordered, window, host, 0, s.clk + 1, []⟩)] })

/-- DS_FLOW_ALLOC (0x0601). -/
def hDsFlowAlloc (c : Vx) (s : State) : Res :=
  let w2 := c.w 2
  let win := fld w2 14 8
  refuseRsv c [(2, msk 14 8 + msk 4 4 + msk 1 0)] <|
  refuse (bit w2 4 && (win == 0 || decide (64 < win))) .badParam 2 <|
  match s.allocFlow (fld w2 1 0) (bit w2 4) (if bit w2 4 then win else 1) true with
  | none => .err .noResource noWord
  | some (i, s) => .ok [i] s

/-- Tasks of a flow in delay lists: the flow holds them too (table "Cancel by state"; DEDUCED, log entry 80). -/
def DsSt.flowDelays (d : DsSt) (f : Nat) : List DelayEnt := d.delays.filter fun e => !e.gone && e.desc.flowed && e.desc.flow == f

/-- A delay-list entry is removed by a cancel (R301). -/
def State.cancelDelay (s : State) (e : DelayEnt) : State :=
  ((s.onDs fun d => { d with delays := d.delays.filter (·.key != e.key) }).trace 5 0x3F e.desc).hostDone e.host .cancelled

/-- DS_FLOW_FREE (0x0602): only a flow that the host allocated and that holds no tasks (R309). -/
def hDsFlowFree (c : Vx) (s : State) : Res :=
  let i := fld (c.w 2) 9 0
  refuseRsv c [(2, msk 9 0)] <|
  match alookup s.ds.flows i with
  | none => .err .badParam 2
  | some f =>
    refuse (!f.host) .denied noWord <|
    refuse (!(s.ds.flowEnts i).isEmpty || !(s.ds.flowDelays i).isEmpty) .badState noWord <|
    .ok [] (s.onDs fun d => { d with flows := adel d.flows i })

/-- DS_FLOW_QUERY (0x0603). -/
def hDsFlowQuery (c : Vx) (s : State) : Res :=
  let i := fld (c.w 2) 9 0
  refuseRsv c [(2, msk 9 0)] <|
  match alookup s.ds.flows i with
  | none => .ok [0, 0, 0, 0, 0] s
  | some f =>
    let n (st : Nat) : Nat := ((s.ds.flowEnts i).filter (·.st == st)).length
    .ok [1 + at' (b01 f.ordered) 1 + at' f.window 8, n 0, n 1, n 2, f.done.toNat] s

/-- DS_DELAY_CONFIG (0x0608): entries keep their release device time (R298). -/
def hDsDelayConfig (c : Vx) (s : State) : Res :=
  let l := fld (c.w 2) 1 0
  let tick := fld (c.w 2) 25 16
  refuseRsv c [(2, msk 25 16 + msk 1 0)] <|
  refuse (l == 0) .denied noWord <|
  refuse (tick == 0 || decide (1000 < tick)) .badParam 2 <|
  let tu := tick * 100 * nsU
  .ok [] (s.onDs fun d =>
    { d with
      delays := d.delays.map fun e =>
        if e.list = l && !e.gone then { e with r := ceilDiv (d.dueTime s.now e) tu % 4294967296 } else e
      ticks := upd d.ticks l fun _ => tick })

/-- The device time that a descriptor's deadline words name: within 32,768 s of now, with those low 16 seconds
bits (R282); both zero mean no deadline. One before time 0 has passed. -/
def nearDeadline (now ns sec16 : Nat) : Option Nat :=
  if ns = 0 && sec16 = 0 then none
  else
    let cur := tSec now
    let up := (sec16 + 65536 - cur % 65536) % 65536
    if up < 32768 then some (mkTime (cur + up) ns 0)
    else if cur + up < 65536 then some 0
    else some (mkTime (cur + up - 65536) ns 0)

/-- The pump record of slot words k to k + 7. -/
def pumpOf (c : Vx) (k : Nat) : PumpRec :=
  let w := c.w k
  { kind := fld w 31 30, cvuEn := bit w 29, cvu := fld w 28 26, ctx := fld w 25 20
    src := (c.w (k + 1)).toNat + fld (c.w (k + 2)) 7 0 * 4294967296
    dst := (c.w (k + 3)).toNat + fld (c.w (k + 4)) 7 0 * 4294967296
    lineBytes := fld (c.w (k + 5)) 23 0, lines := fld (c.w (k + 6)) 15 0
    srcPitch := fld (c.w (k + 7)) 31 16, dstPitch := fld (c.w (k + 7)) 15 0 }

/-- The descriptor of slot words k to k + 3, with the pump record of a MOVE task. -/
def descOf (c : Vx) (k now : Nat) (p : PumpRec) : Desc :=
  let w := c.w k
  { type := fld w 31 28, cls := fld w 27 26, prio := fld w 25 23, flow := fld w 22 13, flowed := bit w 12
    pin := bit w 11, unit := fld w 10 6, payload := 0
    dl := nearDeadline now (c.w (k + 2)).toNat (fld (c.w (k + 3)) 31 16)
    cookie := fld (c.w (k + 3)) 15 0, pump := some p }

/-- A handle (chapter 09, "Cancel and withdrawal"). -/
def Ent.handle (e : Ent) : Nat := e.gen * 4096 + e.idx
def DelayEnt.handle (e : DelayEnt) : Nat := 32768 + e.gen * 4096 + 1024 * e.list + e.idx

/-- Whether the pump context of a record may be used: an unallocated one runs without a check (R544), any other
must be COMPUTE (R540). -/
def State.pumpCtxOk (s : State) (p : PumpRec) : Bool :=
  !p.cvuEn || match alookup s.cvu.ctxs (64 * p.cvu + p.ctx) with
    | some x => !x.allocated || x.mode == 0
    | none => true

/-- DS_SUBMIT (0x0610; R282 to R284, R292, R299, R305, R309, R540). -/
def hDsSubmit (c : Vx) (s : State) : Res :=
  let p := pumpOf c 8
  let d := descOf c 2 s.now p
  let delayed := bit (c.w 6) 31
  let l := fld (c.w 6) 1 0
  let badFlow := d.flowed && match alookup s.ds.flows d.flow with
    | some f => f.cls != 3
    | none => true
  refuse (badNs (c.w 4)) .badParam 4 <|
  refuse (d.type != 8 || d.cls != 3) .denied noWord <|
  refuseRsv c [(2, 0xFFFFFFFF - msk 5 0), (3, 0), (6, msk 31 31 + msk 1 0), (8, msk 31 20), (10, msk 7 0),
    (12, msk 7 0), (13, msk 23 0), (14, msk 15 0)] <|
  refuse (d.pin && decide (12 ≤ d.unit)) .badParam 2 <|
  refuse badFlow .badParam 2 <|
  refuse (d.prio == 7) .badParam 2 <|
  refuse (decide (p.lineBytes < 32) || p.lineBytes % 32 != 0) .badParam 13 <|
  refuse (p.lines == 0) .badParam 14 <|
  refuse (!s.pumpCtxOk p) .badParam 8 <|
  let key := s.ds.next
  if delayed then
    let r := (c.w 7).toNat
    match lowestFree ((s.ds.delays.filter (·.list == l)).map (·.idx)) 1024 with
    | none => .err .refusedFull noWord
    | some i =>
      let g := ((alookup s.ds.delayGens (1024 * l + i)).map (· + 1)).getD 0 % 8
      let e : DelayEnt := ⟨l, i, g, key, r, d, some key, false, false⟩
      let s := s.onDs fun x =>
        { x with delays := x.delays ++ [e], delayGens := aset x.delayGens (1024 * l + i) g, next := x.next + 1 }
      .acc ((s.trace 7 12 d).start 0x0610 c.tag key) [e.handle]
  else
    refuse (!s.ds.hasCredit d) .refusedFull noWord <|
    let s' := s.accept 12 d (some key) none
    .acc (s'.start 0x0610 c.tag key) [match s'.ent key with | some e => e.handle | none => 0]

/-- DS_CANCEL (0x0611; R301, R303, R309). -/
def hDsCancel (c : Vx) (s : State) : Res :=
  let w := c.w 2
  refuseRsv c [(2, msk 31 31 + msk 25 16 + msk 15 0)] <|
  if bit w 31 then
    match alookup s.ds.flows (fld w 25 16) with
    | none => .err .badParam 2
    | some f =>
      refuse (!f.host) .denied noWord <|
      let l := (s.ds.flowEnts (fld w 25 16)).filter (·.cancellable s.clk)
      let m := s.ds.flowDelays (fld w 25 16)
      .ok [l.length + m.length] (m.foldl State.cancelDelay (l.foldl State.cancelEnt s))
  else
    let h := fld w 15 0
    match s.ds.delays.find? (fun e => e.handle == h && !e.gone) with
    | some e =>
      refuse (e.host.isNone) .denied noWord <|
      .ok [1] (s.cancelDelay e)
    | none =>
      let byDelay := s.ds.delays.find? (fun e => e.handle == h && e.gone)
      let ent := match byDelay with
        | some x => s.ds.pool.find? fun (e : Ent) => e.delayIdx == some (1024 * x.list + x.idx)
        | none => s.ds.pool.find? fun (e : Ent) => e.handle == h
      match ent with
      | none => .err .badParam 2
      | some e =>
        refuse (e.host.isNone) .denied noWord <|
        refuse (!e.cancellable s.clk) .badState noWord <|
        .ok [1] (s.cancelEnt e)

/-! ### Happenings -/

/-- PRODUCER_RETRY. -/
def execProducerRetry (s : State) : Host.Outcome State Fault Refusal := .next (retryHeld s)

/-- TASK_PULL of a class, after some core clocks. -/
def execTaskPull (wait cls : Nat) (s : State) : Host.Outcome State Fault Refusal :=
  .next (pullClass (s.pass wait) cls)

/-- DELAY_RELEASE. -/
def execDelayRelease (s : State) : Host.Outcome State Fault Refusal := .next (releaseFirst s)

/-- TASK_DEADLINE. -/
def execTaskDeadline (s : State) : Host.Outcome State Fault Refusal := .next (deadlineTasks s)

/-- SERVICE_TIMEOUT. -/
def execServiceTimeout (s : State) : Host.Outcome State Fault Refusal := .next (serviceTimeout s)

/-- DS_CTRL_CLEAR: writing 1 to CLEAR clears the histograms, task counts and DS_POOL.HIGH (R306). -/
def execDsCtrlClear (value : Word) (s : State) : Host.Outcome State Fault Refusal :=
  if bit value 0 then
    .next (s.onDs fun d =>
      { d with high := 0, window := fld value 7 4
               units := d.units.map fun u => { u with tasks := 0, hist := List.replicate 16 0 } })
  else .next (s.onDs fun d => { d with window := fld value 7 4 })

/-- DS_TRACE_RD_WRITE: ignored beyond the unread count (R308). -/
def execDsTraceRdWrite (value : Word) (s : State) : Host.Outcome State Fault Refusal :=
  let rd : BitVec 16 := BitVec.ofNat 16 value.toNat
  if occupancy rd s.ds.traceRd ≤ occupancy s.ds.traceWr s.ds.traceRd then
    .next (s.onDs fun d =>
      { d with traceRd := rd
               traceOver := d.traceLevel != 0 && decide (d.traceLevel ≤ occupancy d.traceWr rd) })
  else .next s

/-- DS_TRACE_CTRL_WRITE: turning trace on writes a SYNC record (R308). -/
def execDsTraceCtrlWrite (value : Word) (s : State) : Host.Outcome State Fault Refusal :=
  let was := s.ds.traceOn
  let s := s.onDs fun d =>
    { d with kindMask := fld value 31 16, traceStop := bit value 1, traceOn := bit value 0 }
  if bit value 0 && !was then .next s.syncTrace else .next s

end Sys2Proof.Machine
end

