-- ==== Sys2Proof/Machine/Admit.lean ====
section
/-!
DEFINITION. The admission checks over the whole configuration (R595), which commands, arming and CH_START make.
-/
namespace Sys2Proof.Machine

/-- The pixel rate of a channel's processor is at most 10.0 G pixels/s (R123). -/
def State.pixelRateOk (s : State) (c : Nat) : Bool :=
  match (s.ch c).cfg, s.feed c with
  | some g, some (_, i) => (Q.mk (i.pixels * i.lines * g.fnum) g.fden).le ⟨10000000000, 1⟩
  | _, _ => true

/-- The largest T_task of a channel in time units, once the channel is laid out. -/
def State.maxTaskTime (s : State) (c : Nat) : Option Q :=
  match (s.ch c).cfg, (s.ch c).lay with
  | some g, some l => if l.cols = 0 then none else some (loadTime ((s.ch c).maxTask g l l.cols))
  | _, _ => none

/-- Every tile column keeps to 1.0 G units/s (R28, R199): its largest task takes at most T_row. -/
def State.columnsOk (s : State) (c : Nat) : Bool :=
  match s.maxTaskTime c, s.tRow c with
  | some m, some t => m.le t
  | _, _ => true

/-- While paired no task is longer than 100 us (R200). -/
def State.pairedTasksOk (s : State) (c : Nat) : Bool :=
  s.twin.role == 0 || match s.maxTaskTime c, s.tRow c with
  | some m, some _ => m.le ⟨100 * usU, 1⟩
  | _, _ => true

/-- D meets R35, where it is set and can be judged. -/
def State.delayOk (s : State) (c : Nat) : Bool :=
  let h := s.ch c
  if h.delay = 0 then true
  else match s.minDelay c (if h.st = 0 then h.wantsX (s.twin.role != 0) else h.x150) with
    | some m => m ≤ h.delay * nsU
    | none => true

/-- The decode load of the configuration in luma samples/s: self-checked channels and feeds (R335). -/
def State.decodeLoad (s : State) : Q :=
  (Q.sum ((List.range 16).filterMap fun c =>
    match (s.ch c).cfg with
    | some g => if (tab s.dec.checks c).on then some g.lumaRate else none
    | none => none)).add
  (Q.sum (s.dec.feeds.map fun f => if f.st = 0 then ⟨0, 1⟩ else ⟨f.rate * 1000000, 1⟩))

/-- The decode engines' GDDR6 traffic (R335); a feed counts the factor of 4:4:4 (DESIGN CHOICE, log entry 23: its
sampling is not known before its first sequence parameter set). -/
def State.decodeTraffic (s : State) : Q :=
  (Q.sum ((List.range 16).filterMap fun c =>
    match (s.ch c).cfg with
    | some g =>
      if (tab s.dec.checks c).on then
        some ((g.cisternRate).mul ⟨2 + 3 * (if g.struct = 2 then 0 else g.refs), 2⟩)
      else none
    | none => none)).add
  (Q.sum (s.dec.feeds.map fun f => if f.st = 0 then ⟨0, 1⟩ else ⟨f.rate * 1000000 * 6 * 7, 1⟩))

/-- R335 holds. -/
def State.decodeOk (s : State) : Bool :=
  (s.decodeLoad).le ⟨9000000000, 1⟩ && (s.decodeTraffic.add s.gddrTraffic).le ⟨450000000000, 1⟩

/-- The entries that a self-checked channel needs in its decode list (R340). -/
def State.checkTasks (s : State) (c : Nat) : Nat :=
  let h := s.ch c
  match s.tRow c with
  | none => 0
  | some t =>
    if !(tab s.dec.checks c).on then 0
    else
      let x := if h.wantsX (s.twin.role != 0) then 150 * usU else 0
      h.tasksPerRow * ((((t.mul ⟨5, 1⟩).add ⟨x, 1⟩).div t).ceil + 1)

/-- R340: the decode wells hold the tasks of the self-checked channels. -/
def State.decodeWellsOk (s : State) : Bool :=
  [1, 2, 3, 4, 5].all fun p =>
    (((List.range 16).filter fun c => match (s.ch c).cfg with | some g => g.dsPrio == p | none => false).foldl
      (fun n c => n + s.checkTasks c) 0) ≤ tab s.ds.caps (8 + p)

/-- Temporal phases of a channel. -/
def Ch.phases (h : Ch) : Nat := match h.lay with | some l => max 1 l.m | none => 1

/-- Where a profile stands in the table of R192: codec, chroma, depth class, all-intra. -/
def profileIndex (g : ChCfg) : Nat :=
  if g.codec = 1 then 100 + b01 (decide (2 ≤ g.chroma))
  else if g.chroma = 0 then 0
  else g.chroma * 10 + (if g.chroma = 2 && g.depth ≤ 1 then 1 else g.depth) * 2 + b01 (g.struct == 2)

/-- A rate in kbit/s as bits of one picture: rate x m / F. -/
def Ch.perPicture (h : Ch) (g : ChCfg) (kbit : Nat) : Nat := quot 260 (kbit * 1000 * h.phases * g.fden) g.fnum

/-- M of a stream (table "Modes"). -/
def Ch.maxSize (h : Ch) (g : ChCfg) (r : RcCfg) : Nat :=
  match r.mode with
  | 0 => quot 261 (h.perPicture g r.rate * (1000 + r.headroom)) 1000
  | 1 => h.perPicture g r.rateMax
  | _ => h.perPicture g (if r.rateMax = 0 then Config.levelMaxRate g.codec g.tier (profileIndex g) else r.rateMax)

/-- Bytes of a stream's reference cistern: the references + 1 pictures in 16-bit containers, and the quarter-scale copy of one picture's
luma (R240; DEDUCED, log entry 79). -/
def ChCfg.refBytes (g : ChCfg) (r : Rect) : Nat :=
  ((if g.struct = 2 then 0 else g.refs) + 1) * (r.w * r.h * chromaHalves g.chroma) + (r.w / 2) * (r.h / 2) * 2

/-- Bytes of a stream's output cistern: the largest picture M in proportion to the rows that lie between a row's issue and its check
deadline S + 6 x T_row + X, one more for the decoding of a task (R339). The exact size is Vehitrix's (DESIGN CHOICE, log entry
79). -/
def Ch.outBytes (h : Ch) (g : ChCfg) (r : Rect) (t : Q) : Nat :=
  match h.rc with
  | none => 0
  | some rc =>
    let rows := (((t.mul ⟨6, 1⟩).add ⟨150 * usU, 1⟩).div t).ceil + 1
    ceilDiv (h.maxSize g rc * rows) (8 * max 1 (rowsOf g.ctu r))

/-- Bytes with the code of R538: one more in sixteen. -/
def coded16 (n : Nat) : Nat := n + n / 16

/-- Bytes of GDDR6 that the cisterns of the streams of the laid-out channels take. -/
def State.streamBytes (s : State) : Nat :=
  sumNat ((List.range 16).map fun c =>
    match (s.ch c).cfg, (s.ch c).lay, s.tRow c with
    | some g, some l, some t => l.m * sumNat ((l.tiles g).map fun (_, _, r) => coded16 (g.refBytes r + (s.ch c).outBytes g r t))
    | _, _, _ => 0)

/-- Bytes of GDDR6 that the row and rotation cisterns, the cisterns of the streams, the surfaces, the audio buffers and the twin
retransmit buffer (R470) take, the code of R538 included. -/
def State.cisterns (s : State) : Nat :=
  s.streamBytes + coded16 16777216 + ((List.range 8).foldl (fun n k =>
    let p := s.ip k
    if !p.used then n
    else match (s.ch p.chan).cfg with
      | none => n
      | some g => n + p.slots * slotSize g.chroma g.width g.ctu
          + (if p.rotate = 0 then 0 else 2 * slotSize g.chroma g.height (g.width + 1))) 0)
  + s.blit.surfs.foldl (fun n (_, f) =>
      let b := f.w * f.h * formatBits f.format / 8 * (if f.two then 2 else 1)
      n + coded16 b) 0
  + s.aud.ports.foldl (fun n a =>
      if a.st = 0 then n
      else n + a.cfg.blocks * (ceilDiv (16 + 16 * (a.cfg.channels + 1) * 4) 64 * 64)) 0

/-- The cisterns fit in the 16 GiB of GDDR6 (R25). -/
def State.memoryOk (s : State) : Bool := s.cisterns ≤ 17179869184

/-- A layout with k tile columns keeps the limits of level 6.2 on every stream (R193). -/
def levelOk (g : ChCfg) (l : Layout) (k : Nat) : Bool :=
  decide (g.fnum ≤ 300 * l.m * g.fden) &&
  (l.tiles g).all fun (_, _, r) =>
    let n := k * rowsOf g.ctu r
    decide (r.w * r.h ≤ 35651584) && decide (r.w ≤ 8192) && decide (r.h ≤ 8192)
      && decide (r.w * r.h * g.fnum ≤ 4278190080 * l.m * g.fden)
      && (if g.codec = 0 then decide (n ≤ 600) else decide (k ≤ 20) && decide (n ≤ 440))

/-- The widening of a DESQUEEZE code. -/
def desqueeze : Nat → Q
  | 1 => ⟨5, 4⟩
  | 2 => ⟨133, 100⟩
  | 3 => ⟨3, 2⟩
  | 4 => ⟨9, 5⟩
  | 5 => ⟨2, 1⟩
  | _ => ⟨1, 1⟩

/-- The least DEPTH of R141 for a channel, 5 while T_row cannot be judged. -/
def State.minDepth (s : State) (c : Nat) : Nat :=
  let x := if (s.ch c).st = 0 then (s.ch c).wantsX (s.twin.role != 0) else (s.ch c).x150
  match s.tRow c with
  | some t => 5 + (if x then ((Q.mk (150 * usU) 1).div t).ceil else 0)
  | none => 5

/-- Limits of R136, R139 and R147 that need the input's configuration. -/
def ipGeometryBad (p : IpSt) (i : InSt) : Bool :=
  let cr := p.crop i
  let f := desqueeze p.desqueeze
  decide (cr.w < 64) || decide (cr.h < 64) || decide (i.pixels < cr.x + cr.w) || decide (i.lines < cr.y + cr.h)
    -- horizontal 1/8 to 2, above 1 through DESQUEEZE alone; vertical 1/8 to 1
    || cr.w % 2 != 0 || cr.h % 2 != 0
    || decide (8 * p.outW < cr.w) || decide (2 * cr.w < p.outW) || decide (cr.w * f.num < p.outW * f.den)
    || decide (8 * p.outH < cr.h) || decide (cr.h < p.outH)
    || (p.rotate != 0 && (decide (8192 < i.pixels) || decide (8192 < i.lines)
      || decide (35651584 < i.pixels * i.lines)))

/-- Chroma resampling only goes down (R136 stage 5): from the sampling of the packing. -/
def ipChromaBad (p : IpSt) (i : InSt) : Bool :=
  if i.kind = 1 then
    match packing? i.packing with
    | some (_, smp, _, _) => decide (smp < p.chroma)
    | none => false
  else false

/-- The processor of a channel keeps R136, R139 and R147 with its input, and R141 with the row period, as far as they can be judged:
IP_CONFIG may come before IN_CONFIG, and T_row and the failover reserve after both (DEDUCED, log entry 75). -/
def State.ipOk (s : State) (c : Nat) : Bool :=
  match s.ipOf c with
  | none => true
  | some k =>
    let p := s.ip k
    let i := s.inp p.input
    (i.kind == 0 || !(ipGeometryBad p i || ipChromaBad p i)) && decide (s.minDepth c ≤ p.slots) && decide (p.slots ≤ 64)

/-- DEPTH 0 selects the minimum anew while the channel is stopped (R141). -/
def State.settleDepth (s : State) (c : Nat) : State :=
  match s.ipOf c with
  | some k => if (s.ip k).least && !s.runs c then s.onIp k fun p => { p with slots := s.minDepth c } else s
  | none => s

/-- A channel's layout with k columns keeps R193, R200 and the tile-column limit of R28, as far as they can be
judged. -/
def State.columnsFit (s : State) (c k : Nat) : Bool :=
  let h := s.ch c
  match h.cfg, h.lay with
  | some g, some l =>
    levelOk g l k && match s.tRow c with
      | some t =>
        let m := loadTime (h.maxTask g l k)
        m.le t && (s.twin.role == 0 || m.le ⟨100 * usU, 1⟩)
      | none => true
  | _, _ => false

/-- COLS = 0: the fewest columns that fit (R242), chosen once, when T_row can first be judged. -/
def State.settleChan (s : State) (c : Nat) : State :=
  match (s.ch c).lay, s.tRow c with
  | some l, some _ =>
    if l.cols != 0 || s.runs c then s
    else
      let k := (((List.range 20).map (· + 1)).find? fun k => s.columnsFit c k).getD 0
      s.onCh c fun h => { h with lay := some { l with cols := k } }
  | _, _ => s

/-- The same for every channel, and the least DEPTH. -/
def State.settle (s : State) : State := (List.range 16).foldl (fun s c => (s.settleChan c).settleDepth c) s

/-- The first admission check that a configuration fails (R595), with its status: the checks of single channels for
the channels concerned, the sums over the whole configuration. `layout` tells that CH_LAYOUT asks, where R200 refuses
what R28 refuses elsewhere. The sums that no rule judges at staging are left to the arming of the set (R73; DEDUCED, log
entry 60). -/
def State.admission (s : State) (layout : Bool) (conc : List Nat) : Option Status :=
  let all (f : Nat → Bool) : Bool := conc.all f
  let judged (c : Nat) : Bool := (s.tRow c).isSome && (s.ch c).lay.any fun l => l.cols == 0
  if layout && !(all s.columnsOk && all s.pairedTasksOk && !conc.any judged) then some .badParam
  else if conc.any judged then some .noResource
  else if !s.host.staging && !(s.totalLoad).le capacity then some .noResource
  else if !all s.columnsOk then some .noResource
  else if !all s.pairedTasksOk then some .badParam
  else if !(s.peakTotal).le capacity then some .noResource
  else if !all s.pixelRateOk then some .noResource
  else if !s.composersOk then some .noResource
  else if !s.host.staging && !s.gddrOk then some .noResource
  else if !s.soundersOk then some .noResource
  else if !s.codingWellsOk then some .noResource
  else if !s.host.staging && !s.decodeOk then some .noResource
  else if !s.decodeWellsOk then some .noResource
  else if !s.memoryOk then some .noResource
  else if !all s.delayOk then some .badParam
  else if !all s.ipOk then some .badParam
  else none

/-- A configuration command whose outcome must be admitted, or it is refused with the check's status; the commands of a commit
set are admitted together (R73). -/
def admitted (layout : Bool) (conc : List Nat) (s' : State) (k : State → Res) : Res :=
  let s' := s'.settle
  if s'.host.lenient then k s' else
  match s'.admission layout conc with
  | some st => .err st (if layout && st == .badParam then 2 else noWord)
  | none => k s'

end Sys2Proof.Machine
end

