-- ==== Sys2Proof/Machine/Audio.lean ====
section
/-!
DEFINITION. Audio ports: frames, rate measurement, locking, the audio cistern, and the commands of group 0x09 (chapter
12 of spec/).
-/
namespace Sys2Proof.Machine

/-- A port, and a change of one. -/
def State.ap (s : State) (p : Nat) : Aud := tab s.aud.ports p
def State.onAp (s : State) (p : Nat) (f : Aud → Aud) : State :=
  s.onAud fun a => { a with ports := upd a.ports p f }

/-- The vector of audio events (table "MSI-X vector map"). -/
def audioVector : Nat := 26

/-- The rate of a code 0, 1, 2: 48, 96, 192 kHz. -/
def fsOf (code : Nat) : Nat := 48000 * 2 ^ code

/-- Slots, slot bits and channels of a configuration. -/
def AudCfg.nSlots (g : AudCfg) : Nat := 2 ^ (g.slots + 1)
def AudCfg.nBits (g : AudCfg) : Nat := 8 * (g.slotBits + 2)
def AudCfg.nChan (g : AudCfg) : Nat := g.channels + 1
/-- Bit clocks of a frame. -/
def AudCfg.frameBits (g : AudCfg) : Nat := g.nSlots * g.nBits
/-- MEDIA_FS, and the nominal rate of R364. -/
def AudCfg.fs (g : AudCfg) : Nat := fsOf g.mediaFs
def AudCfg.nominal (g : AudCfg) : Nat := if g.leader then fsOf g.portFs else g.fs
/-- Bytes of a block, padded to 64 (R375). -/
def AudCfg.blockBytes (g : AudCfg) : Nat := ceilDiv (16 + 16 * g.nChan * 4) 64 * 64
/-- The least BLOCKS of R376. -/
def AudCfg.minBlocks (g : AudCfg) : Nat := ceilDiv ((g.trim + 2500000) * g.fs) (16 * 1000000000) + 2

/-- The media time t_j in time units, rounded up to a whole unit. -/
def mediaTime (fs j : Nat) : Nat := ceilDiv (j * secU) fs

/-- The first media frame at or after a device time. -/
def mediaIndex (fs t : Nat) : Nat := ceilDiv (t * fs) secU

/-- 24 input periods at the measured rate, or at the nominal rate before a measurement (R371; log entry 36). -/
def Aud.ahead (a : Aud) : Nat :=
  match a.rate with
  | some r => if r = 0 then quot 371 (24 * secU) a.cfg.nominal else quot 371 (24 * secU * 1000) r
  | none => quot 371 (24 * secU) a.cfg.nominal

/-- The write deadline of the next frame (R372). -/
def Aud.deadline (a : Aud) : Nat := mediaTime a.cfg.fs a.next + a.cfg.trim * nsU + a.ahead + 2 * usU

/-! ### Converter states (R373) -/

/-- A change of state writes AUD_STATE with the media index at the change. -/
def setAud (s : State) (p new : Nat) : State :=
  let a := s.ap p
  if a.st = new then s
  else
    let s := s.onAp p fun a => { a with st := new }
    s.event 0x0901 0xFF audioVector [p + at' new 4 + at' a.st 8, mediaIndex a.cfg.fs s.now % 4294967296]

/-- A rate in mHz meets R369 for a follower. -/
def AudCfg.rateOk (g : AudCfg) (mHz : Nat) : Bool :=
  decide (g.fs * 1000 ≤ 4 * mHz) && decide (mHz ≤ 4 * g.fs * 1000) && decide (g.frameBits * mHz ≤ 24576000000)

/-- The rate that a sum of n intervals means, in mHz; its rounding is not stated. -/
def meanRate (n sum : Nat) : Nat := if sum = 0 then 0 else quot 369 (n * secU * 1000) sum

/-- Each of 64 intervals lies within 0.1 % of their mean. -/
def steady (l : List Nat) : Bool :=
  let sum := sumNat l
  l.length == 64 && l.all fun i => (max (64 * i) sum - min (64 * i) sum) * 1000 ≤ sum

/-- An edge of a follower moves the converter on (R373). -/
def lockAudio (s : State) (p iv : Nat) (first : Bool) : State :=
  let s := s.onAp p fun a =>
    { a with ivals := if first then [] else (iv :: a.ivals).take 64, since := if first then 0 else a.since + 1 }
  let a := s.ap p
  let sum := sumNat a.ivals
  if a.outOfRange then s
  else if a.st = 1 then setAud (s.onAp p fun a => { a with ivals := [], since := 0 }) p 2
  else if a.st = 2 then
    if steady a.ivals && a.cfg.rateOk (meanRate 64 sum) then
      setAud (s.onAp p fun a => { a with locked := some sum, since := 0 }) p 3
    else s
  else if a.st = 3 && a.since = 64 then
    let ref := a.locked.getD sum
    let s := s.onAp p fun a => { a with since := 0 }
    if ref < (max sum ref - min sum ref) * 1000 then
      setAud ((s.raise 0x09 0x03 p).onAp p fun a => { a with ivals := [] }) p 2
    else s
  else s

/-- An input frame enters the converter. -/
def pushIn (s : State) (p : Nat) (again : Bool) (samples : List Nat) : State :=
  s.onAp p fun a =>
    { a with ins := (⟨s.now, a.st == 3, again, samples⟩ :: a.ins).take 96, received := a.received + 1 }

/-- AUDIO_FRAME: an FS edge of a follower, with the bit clocks of the frame that it ends or begins (R365, R369,
R373). -/
def audioFrame (s : State) (wait p bits : Nat) (samples : List Nat) : State :=
  let s := s.pass wait
  let a := s.ap p
  if a.st = 0 || a.cfg.leader || 3 < p then s
  else
    let first := !a.any || a.lost
    let iv := s.raw - a.last
    let s := s.causeOff 0x09 0x02 p
    let s := s.onAp p fun a =>
      { a with last := s.raw, any := true, lost := false, edges := (s.raw :: a.edges).take 65537 }
    let s := lockAudio s p iv first
    if bits = a.cfg.frameBits then
      pushIn s p false (samples.take a.cfg.nChan)
    else
      let prev := match a.ins with | x :: _ => x.samples | [] => []
      let s := (pushIn s p true prev).onAp p fun a =>
        { a with discarded := a.discarded + 1, syncAt := some s.second }
      if a.syncAt == some s.second then s else s.raise 0x09 0x05 p

/-- AUDIO_LEADER_FRAME: the clock runs on to the media time of a leader's next frame, whose FS it drives; the frame's
samples come in with it (R366, R368). A leader is always LOCKED. -/
def leaderFrame (s : State) (p : Nat) (samples : List Nat) : State :=
  let a := s.ap p
  if a.st = 0 || !a.cfg.leader || 3 < p then s
  else
    let s := s.toTime (mediaTime (fsOf a.cfg.portFs) a.drive)
    let s := s.emit .audioFs [p, a.drive]
    let s := pushIn s p false (samples.take a.cfg.nChan)
    s.onAp p fun a =>
      { a with last := s.raw, any := true, drive := max (a.drive + 1) (mediaIndex (fsOf a.cfg.portFs) (s.now + 1))
               edges := (s.raw :: a.edges).take 65537 }

/-- What `APn_MCLK` carries, in Hz: 12.288 MHz at a leader with MCLK_EN, at every rate; else it is driven low (R366, R367). -/
def Aud.mclkHz (a : Aud) : Nat := if a.st != 0 && a.cfg.leader && a.cfg.mclk then 12288000 else 0

/-! ### Rate measurement (R369, R370) -/

/-- The measured rate: intervals over their span, over the last second or 65,536 intervals. -/
def Aud.measure (a : Aud) (raw : Nat) : Option Nat :=
  let l := a.edges.filter fun e => raw ≤ e + secU
  match l, l.getLast? with
  | n :: _ :: _, some o => if o < n then some (meanRate (l.length - 1) (n - o)) else none
  | _, _ => none

/-- The family of a rate in mHz: 0 48 kHz, 1 44.1 kHz, 2 other (R370). -/
def family (mHz : Nat) : Nat :=
  let near (base : Nat) : Bool := (List.range 5).any fun k =>
    -- base x 2^(k-2) within 1 %
    let c := base * 1000 * 2 ^ k
    (max (4 * mHz) c - min (4 * mHz) c) * 100 ≤ c
  if near 48000 then 0 else if near 44100 then 1 else 2

/-- AUD_RATE_UPDATE of a port. -/
def rateUpdate (s : State) (p : Nat) : State :=
  let s := s.onAp p fun a => { a with update := a.update + 100 * msC }
  let a := s.ap p
  match a.measure s.raw with
  | none => s
  | some m =>
    let s := s.onAp p fun a => { a with rate := some m }
    let out := !a.cfg.leader && !a.cfg.rateOk m
    let s := if out && !a.outOfRange then
        setAud ((s.raiseOn 0x09 0x04 p).onAp p fun a => { a with outOfRange := true }) p 1
      else if !out && a.outOfRange then (s.causeOff 0x09 0x04 p).onAp p fun a => { a with outOfRange := false }
      else s
    let ref := a.ref.getD 0
    let far := decide (ref < (max m ref - min m ref) * 1000) || family m != family ref
    if a.ref.isNone || far then
      (s.event 0x0902 0xFF audioVector [p, m, family m, ref]).onAp p fun a => { a with ref := some m }
    else s

/-- The raw time at which the loss of a follower's clock is found (R373). -/
def Aud.lossAt (a : Aud) : Option Nat :=
  if a.st = 0 || a.cfg.leader || a.lost then none
  else match a.locked with
    | some l => some (a.last + quot 373 (8 * l) 64)
    | none => some (a.last + quot 373 (8 * secU) a.cfg.nominal)

/-! ### The audio cistern (R371 to R378) -/

/-- Address of the buffer. -/
def audioBase (p : Nat) : Nat := Config.cisternBase 3 p

/-- Address of a frame's samples. -/
def Aud.frameAddr (a : Aud) (p j : Nat) : Nat :=
  audioBase p + (j / 16) % a.cfg.blocks * a.cfg.blockBytes + 16 + j % 16 * a.cfg.nChan * 4

/-- The input frames that frame j needs: 24 at or before its pin time, 24 after it; none where they have not all
arrived (R371). -/
def Aud.needs (a : Aud) (j : Nat) : Option (List AudIn) :=
  let pin := mediaTime a.cfg.fs j + a.cfg.trim * nsU
  let after := a.ins.filter fun x => decide (pin < x.t)
  let before := (a.ins.filter fun x => decide (x.t ≤ pin)).take 24
  if after.length < 24 || before.length < 24 then none
  else some (after.drop (after.length - 24) ++ before)

/-- A converted sample: what the polyphase filter gives is not stated and free; 16-bit input fills bits 31:16. -/
def sampleWord (s : State) (p j c : Nat) (bits24 : Bool) : Word :=
  let v := s.freeVal 375 ((p * 16 + c) * 65536 + j % 65536)
  if bits24 then w32 (v % 2 ^ 24 * 256) else w32 (v % 2 ^ 16 * 65536)

/-- The frame at the write position is written with these words; after the last of a block its header follows (R375,
R377). -/
def putFrame (s : State) (p : Nat) (words : List Word) (silent unlocked again stepped : Bool) : State :=
  let a := s.ap p
  let j := a.next
  let k := j % 16
  let m0 := if k = 0 then 0 else a.mask
  let f0 := if k = 0 then (if a.stepNext then 4 else 0) else a.flags
  let mask := if silent then setBit m0 k else m0
  let flags := f0 ||| (b01 silent + 2 * b01 unlocked + 4 * b01 stepped + 8 * b01 again)
  let s := s.onMem fun m => { m with gddr := Mem.writeWords m.gddr (a.frameAddr p j) words }
  let s := if k = 15 then
      let b := j / 16
      let addr := audioBase p + b % a.cfg.blocks * a.cfg.blockBytes
      let head : List Word := [w32 (16 * b), w32 (16 * b / 4294967296), w32 flags, w32 mask]
      s.onMem fun m => { m with gddr := Mem.writeWords m.gddr addr head }
    else s
  s.onAp p fun a =>
    { a with next := j + 1, wrote := true, flags := flags, mask := mask
             stepNext := if k = 0 then false else a.stepNext
             silent := if silent then a.silent + 1 else a.silent }

/-- AUDIO_WRITE_DEADLINE of a port: the frame is written, or written as silence (R371 to R374, R378). -/
def writeDue (s : State) (p : Nat) : State :=
  let a := s.ap p
  let j := a.next
  let need := a.needs j
  let good := need.any fun l => l.all (·.locked)
  -- output stays live until a frame needs input of a time that was not LOCKED, and is live again from a block's first frame
  let live := if good then a.live || j % 16 == 0 else a.live && need.isNone && a.st == 3
  let again := need.any fun l => l.any (·.again)
  if good && live then
    let ws := (List.range a.cfg.nChan).map fun c => sampleWord s p j c a.cfg.bits24
    (putFrame (s.onAp p fun a => { a with live := true, inRun := false }) p ws false (a.st != 3) again false).drawn
  else
    let s := if a.inRun then s else s.raise 0x09 0x01 p
    putFrame (s.onAp p fun a => { a with live := live, inRun := true }) p (List.replicate a.cfg.nChan 0) true
      (a.st != 3) again false

/-- Silence is written for n frames of a forward step, STEPPED, without AUDIO:0x01 (R380). -/
def stepSilence (p : Nat) : Nat → State → State
  | 0, s => s
  | n + 1, s => stepSilence p n (putFrame s p (List.replicate (s.ap p).cfg.nChan 0) true ((s.ap p).st != 3) false true)

/-- A step of device time touches every enabled port (R380): a forward step writes the skipped frames as silence, of
which the ring keeps the last BLOCKS blocks; after a backward step the writer waits. The blocks on either side carry
STEPPED. -/
def stepAudio (s : State) (old new : Nat) : State :=
  ((List.range 4).filter fun p => (s.ap p).st != 0).foldl (fun s p =>
    let a := s.ap p
    let s := s.onAp p fun a => { a with flags := a.flags ||| 4, stepNext := true
                                        drive := mediaIndex (fsOf a.cfg.portFs) new }
    if old < new then
      let stop := mediaIndex a.cfg.fs new
      let from' := max a.next (stop - 16 * a.cfg.blocks)
      let s := s.onAp p fun a => { a with silent := a.silent + w32 (from' - a.next), next := from' }
      (stepSilence p (stop - from') s).onAp p fun a => { a with stepNext := true }
    else s) s

/-! ### Commands of group 0x09 -/

/-- An audio stream that is on carries a port. -/
def State.audioCarried (s : State) (p : Nat) : Bool := s.pkg.audio.any fun a => a.on && a.port == p

/-- AUD_CONFIG of a carried port must carry STAGE (R381). -/
def audNeedStage (c : Vx) (s : State) : Bool := s.audioCarried (fld (c.w 2) 1 0)

/-- The causes of AUDIO:0x02 and 0x04 of a port end as its reception does. -/
def State.audioOff (s : State) (p : Nat) : State := (s.causeOff 0x09 0x02 p).causeOff 0x09 0x04 p

/-- AUD_CONFIG (0x0900; R363, R364, R376, R381). -/
def hAudConfig (c : Vx) (s : State) : Res :=
  let w := c.w 2
  let p := fld w 1 0
  let g : AudCfg :=
    { leader := bit w 8, tdm := bit w 9, slots := fld w 11 10, slotBits := fld w 13 12, bits24 := bit w 14
      delay1 := bit w 15, edge := bit w 16, fsPol := bit w 17, channels := fld w 21 18, mediaFs := fld w 23 22
      portFs := fld w 25 24, mclk := bit w 26, trim := (c.w 3).toNat, blocks := fld (c.w 4) 12 0 }
  refuseRsv c [(2, msk 26 8 + msk 2 0), (4, msk 12 0)] <|
  if !bit w 2 then
    refuse (s.audioCarried p) .badState noWord <|
    .ok [0, 0, 0, 0] ((s.audioOff p).onAp p fun _ => {})
  else
    refuse (g.mediaFs == 3 || (g.leader && g.portFs == 3) || g.slotBits == 3) .badParam 2 <|
    refuse (!g.tdm && (g.slotBits != 2 || g.slots != 0)) .badParam 2 <|
    refuse (decide (g.nSlots < g.nChan)) .badParam 2 <|
    refuse (g.bits24 && decide (g.nBits < 24)) .badParam 2 <|
    refuse (decide (24576000 < g.frameBits * g.nominal)) .badParam 2 <|
    refuse (decide (10000000 < g.trim)) .badParam 3 <|
    refuse (decide (4096 < g.blocks) || (g.blocks != 0 && decide (g.blocks < g.minBlocks))) .badParam 4 <|
    let g := { g with blocks := if g.blocks = 0 then g.minBlocks else g.blocks }
    let old := s.ap p
    let next := if old.st = 0 || old.cfg.mediaFs != g.mediaFs then mediaIndex g.fs s.now else max old.next (mediaIndex g.fs s.now)
    let s' := s.onAp p fun _ =>
      { cfg := g, st := if g.leader then 3 else 1, last := s.raw, update := s.clk + 100 * msC, next := next
        drive := mediaIndex (fsOf g.portFs) s.now }
    -- audio packets count on in the new media clock
    let s' := if old.st = 0 || old.cfg.mediaFs != g.mediaFs then
        s'.onPkg fun k => { k with audio := k.audio.map fun x => if x.port = p then { x with next := none } else x }
      else s'
    refuse (!s'.host.lenient && !s'.memoryOk) .noResource noWord <|
    -- a restart is a change of state (log entry 81)
    let s' := if old.st = 0 || old.st = (s'.ap p).st then s'
      else s'.event 0x0901 0xFF audioVector [p + at' (s'.ap p).st 4 + at' old.st 8, mediaIndex g.fs s.now % 4294967296]
    .ok ([g.blocks] ++ lowHigh (audioBase p) ++ [g.blockBytes]) (s'.audioOff p)

/-- AUD_QUERY (0x0901). A rate or index that does not exist yet is not stated and free. -/
def hAudQuery (c : Vx) (s : State) : Res :=
  let p := fld (c.w 2) 1 0
  let a := s.ap p
  refuseRsv c [(2, msk 1 0)] <|
  let rate := a.rate.getD (s.freeVal 901 p)
  .ok [a.st, rate, quot 902 (rate * 2 ^ 24) (a.cfg.fs * 1000), a.received.toNat, a.discarded.toNat, a.silent.toNat,
    if a.wrote then (a.next - 1) % 4294967296 else s.freeVal 903 p] s.drawn

/-- The counters of AUD_QUERY cleared. -/
def Aud.clear (a : Aud) : Aud := { a with received := 0, discarded := 0, silent := 0 }

/-- AUD_CLEAR (0x0902). -/
def hAudClear (c : Vx) (s : State) : Res :=
  refuseRsv c [(2, msk 1 0)] <| .ok [] (s.onAp (fld (c.w 2) 1 0) Aud.clear)

/-! ### Happenings -/

/-- The ports that are on. -/
def State.audOn (s : State) : List Nat := (List.range 4).filter fun p => (s.ap p).st != 0

/-- AUDIO_FRAME. -/
def execAudioFrame (wait port bits : Nat) (samples : List Nat) (s : State) : Host.Outcome State Fault Refusal :=
  .next (audioFrame s wait port bits samples)

/-- AUDIO_LEADER_FRAME. -/
def execAudioLeaderFrame (port : Nat) (samples : List Nat) (s : State) : Host.Outcome State Fault Refusal :=
  .next (leaderFrame s port samples)

/-- AUD_RATE_UPDATE: the clock runs on to the first 100 ms update due. -/
def execAudRateUpdate (s : State) : Host.Outcome State Fault Refusal :=
  match minBy (fun p => (s.ap p).update) s.audOn with
  | none => .next s
  | some p => .next (rateUpdate (s.toClk (s.ap p).update) p)

/-- AUDIO_CLOCK_LOSS: the clock runs on to the first window of 8 periods that expires (R373). -/
def execAudioClockLoss (s : State) : Host.Outcome State Fault Refusal :=
  match minBy (·.2) (s.audOn.filterMap fun p => (s.ap p).lossAt.map fun t => (p, t)) with
  | none => .next s
  | some (p, t) =>
    let s := s.toRaw t
    .next (setAud ((s.raiseOn 0x09 0x02 p).onAp p fun a => { a with lost := true, ivals := [] }) p 1)

/-- AUDIO_WRITE_DEADLINE: the clock runs on to the first write deadline. -/
def execAudioWriteDeadline (s : State) : Host.Outcome State Fault Refusal :=
  match minBy (fun p => (s.ap p).deadline) s.audOn with
  | none => .next s
  | some p => .next (writeDue (s.toTime (s.ap p).deadline) p)

end Sys2Proof.Machine
end

