-- ==== Sys2Proof/Machine/Blit.lean ====
section
/-!
DEFINITION. Surfaces and the block-copy engine BL0 (chapter 06 of spec/): publishing, the sequential model of a copy
or fill, bandwidth and dead windows.
-/
namespace Sys2Proof.Machine

/-! ### Surfaces (R177) -/

/-- Bytes of a pixel of a surface format. -/
def pixBytes (f : Nat) : Nat := formatBits f / 8

/-- The pitch of a surface: lines start on 256-byte boundaries. -/
def Surf.pitch (f : Surf) : Nat := ceilDiv (f.w * formatBits f.format) 2048 * 256

/-- The address of a surface's buffer. -/
def bufAddr (surf buf : Nat) : Nat := Config.cisternBase 2 (2 * surf + buf)

/-- The address of a pixel; the palette of CLUT8 stands before the lines. -/
def Surf.pixAddr (f : Surf) (surf buf x y : Nat) : Nat :=
  bufAddr surf buf + (if f.format = 0x06 then 2048 else 0) + y * f.pitch + x * pixBytes f.format

/-- A surface, where it is configured. -/
def State.surf? (s : State) (i : Nat) : Option Surf := alookup s.blit.surfs i

/-- A change of a surface. -/
def State.onSurf (s : State) (i : Nat) (g : Surf → Surf) : State :=
  s.onBlit fun b => { b with surfs := b.surfs.map fun p => if p.1 = i then (i, g p.2) else p }

/-- Whether an enabled layer reads a surface. -/
def State.surfRead (s : State) (i : Nat) : Bool :=
  s.comp.chans.any fun c => c.layers.any fun l => l.on && l.source == 0 && l.srcId == i

/-- Whether a layer holds a buffer latched (R177). -/
def State.bufLatched (s : State) (i buf : Nat) : Bool :=
  s.comp.chans.any fun c => c.layers.any fun l => l.held == some (i, buf)

/-- The layers hold no buffer of a surface any more. -/
def State.letGo (s : State) (i : Nat) : State :=
  let free (l : Layer) : Layer := if l.held.any (·.1 == i) then { l with held := none } else l
  s.onComp fun v => { v with chans := v.chans.map fun c => { c with layers := c.layers.map free } }

/-- A buffer is writable when it is not P and no layer holds it latched (R177). -/
def State.bufWritable (s : State) (i buf : Nat) : Bool :=
  match s.surf? i with
  | none => false
  | some f => !(f.published && f.p == buf) && !s.bufLatched i buf

/-- The fields of a descriptor (table "BL0 descriptor"). -/
def Blit.dstSurf (b : Blit) : Nat := fld b.w0 31 24
def Blit.srcSurf (b : Blit) : Nat := fld b.w0 23 16
def Blit.publish (b : Blit) : Bool := bit b.w0 15
def Blit.dstBuf (b : Blit) : Nat := fld b.w0 14 14
def Blit.srcBuf (b : Blit) : Nat := fld b.w0 13 13
def Blit.isFill (b : Blit) : Bool := fld b.w0 1 0 == 1
def Blit.dstW (b : Blit) : Nat := fld b.w2 15 0
def Blit.dstH (b : Blit) : Nat := fld b.w2 31 16

/-- The descriptors that wait or run. -/
def BlitSt.all (b : BlitSt) : List Blit := (match b.running with | some (d, _) => [d] | none => []) ++ b.queue

/-- Whether a buffer has BL0 writes queued or running (R178). -/
def State.bufPending (s : State) (i buf : Nat) : Bool :=
  s.blit.all.any fun d => d.dstSurf == i && d.dstBuf == buf

/-- A buffer becomes P and counts as a new complete frame (R178, R179). -/
def State.publish (s : State) (i buf : Nat) : State :=
  s.onSurf i fun f => { f with p := buf, published := true, count := f.count + 1, pubT := s.now }

/-- BL0's publish of its destination: it applies before a host publish of the same clock, whose buffer ends as P (R179). -/
def State.blitPublish (s : State) (i buf : Nat) : State :=
  s.publish i (match s.surf? i with
    | some f => if f.hostClk = some s.clk then f.p else buf
    | none => buf)

/-! ### The sequential model (R180 to R182) -/

/-- The source offset of a destination offset (R181). -/
def Blit.source (b : Blit) (u v : Nat) : Nat × Nat :=
  let tr := bit b.w0 9
  let w := if tr then b.dstH else b.dstW
  let h := if tr then b.dstW else b.dstH
  let s := if tr then v else u
  let t := if tr then u else v
  (if bit b.w0 7 then w - 1 - s else s, if bit b.w0 8 then h - 1 - t else t)

/-- The destination offsets in scan order (R182). -/
def Blit.scan (b : Blit) : List (Nat × Nat) :=
  let xs := List.range b.dstW
  let ys := List.range b.dstH
  let xs := if bit b.w0 10 then xs.reverse else xs
  let ys := if bit b.w0 11 then ys.reverse else ys
  if bit b.w0 12 then xs.flatMap fun x => ys.map fun y => (x, y)
  else ys.flatMap fun y => xs.map fun x => (x, y)

/-- The address of a destination pixel, and the 64-byte block of its buffer that holds it. -/
def Blit.dstAddr (b : Blit) (df : Surf) (p : Nat × Nat) : Nat :=
  df.pixAddr b.dstSurf b.dstBuf (fld b.w1 15 0 + p.1) (fld b.w1 31 16 + p.2)
def Blit.blockOf (b : Blit) (df : Surf) (p : Nat × Nat) : Nat := (b.dstAddr df p - bufAddr b.dstSurf b.dstBuf) / 64

/-- Whether an uncorrectable read falls into the operation: a fill reads nothing (R180). -/
def Blit.hit (b : Blit) (df : Surf) (bad : List Nat) : Bool :=
  !b.isFill && b.scan.any fun p => bad.contains (b.blockOf df p)

/-- One destination pixel is read and written; every read sees the writes before it (R182). A block whose read is
uncorrectable is written as zero instead (R187). -/
def Blit.pixel (b : Blit) (df sf : Surf) (bad : List Nat) (m : Mem) (p : Nat × Nat) : Mem :=
  let n := pixBytes df.format
  let dst := b.dstAddr df p
  if !b.isFill && bad.contains (b.blockOf df p) then
    Mem.writeAll m (bufAddr b.dstSurf b.dstBuf + 64 * b.blockOf df p) (List.replicate 64 0)
  else if b.isFill then Mem.writeAll m dst (leBytes n b.fill)
  else
    let (x, y) := b.source p.1 p.2
    let src := sf.pixAddr b.srcSurf b.srcBuf (fld b.w3 15 0 + x) (fld b.w3 31 16 + y)
    Mem.writeAll m dst (Mem.readN m src n)

/-- The whole operation on GDDR6. -/
def Blit.run (b : Blit) (df sf : Surf) (bad : List Nat) (m : Mem) : Mem := b.scan.foldl (b.pixel df sf bad) m

/-- Bytes that a descriptor moves: a copy reads as many as it writes (R183). -/
def Blit.bytes (b : Blit) (df : Surf) : Nat :=
  b.dstW * b.dstH * pixBytes df.format * (if b.isFill then 1 else 2)

/-- The rate in units of 0.5 GB/s of reads and writes together: that of the window, within R183. -/
def State.blitRate (s : State) (b : Blit) : Nat :=
  let lim := if bit b.w0 12 || bit b.w0 9 then 12 else 48
  let lim := if b.isFill then lim else 2 * lim
  min lim (if s.blit.window then s.blit.dead else s.blit.active)

/-- Bytes moved by the running descriptor: 0.5 GB/s is a third of a byte each clock; the rounding is free. -/
def State.blitMoved (s : State) : Nat :=
  match s.blit.running with
  | none => 0
  | some (b, _) =>
    let total := match s.surf? b.dstSurf with | some f => b.bytes f | none => 0
    min total (s.blit.moved.1 + quot 188 ((s.clk - s.blit.moved.2) * s.blitRate b) 3)

/-- Whether BL0 can have finished: its writes keep to 24 or 6 GB/s since its start (40 or 10 bytes each clock), and all it moves
keeps to the rate in force, averaged over 1 us (R183, R188). -/
def State.blitDone (s : State) : Bool :=
  match s.blit.running with
  | none => true
  | some (b, k) =>
    let total := match s.surf? b.dstSurf with | some f => b.bytes f | none => 0
    let written := if b.isFill then total else total / 2
    decide (written ≤ (s.clk - k) * (if bit b.w0 12 || bit b.w0 9 then 10 else 40))
      && decide (total ≤ s.blitMoved + 500 * s.blitRate b)

/-- The window or the rates change at this clock (R189). -/
def State.reRate (s : State) (f : BlitSt → BlitSt) : State :=
  let n := s.blitMoved
  s.onBlit fun b => { f b with moved := (n, s.clk) }

/-! ### Commands -/

/-- SURF_CONFIG (0x0340; R177, R191). -/
def hSurfConfig (c : Vx) (s : State) : Res :=
  let i := fld (c.w 2) 7 0
  let fmt := fld (c.w 2) 11 8
  let w := fld (c.w 3) 15 0
  let h := fld (c.w 3) 31 16
  refuseRsv c [(2, msk 12 0)] <|
  refuse (!(w == 0 && h == 0) && (fmt == 0 || decide (6 < fmt))) .badParam 2 <|
  refuse ((w == 0) != (h == 0) || decide (8192 < w) || decide (8192 < h)) .badParam 3 <|
  refuse (s.surfRead i || s.blit.all.any fun d => d.dstSurf == i || (!d.isFill && d.srcSurf == i)) .badState noWord <|
  if w = 0 then .ok [0, 0, 0, 0, 0] (s.onBlit fun b => { b with surfs := adel b.surfs i })
  else
    let f : Surf := { format := fmt, two := bit (c.w 2) 12, w := w, h := h }
    let s' := (s.onBlit fun b => { b with surfs := aset b.surfs i f }).letGo i
    refuse (!s'.memoryOk) .noResource noWord <|
    .ok (lowHigh (bufAddr i 0) ++ (if f.two then lowHigh (bufAddr i 1) else [0, 0]) ++ [f.pitch]) s'

/-- SURF_PUBLISH (0x0341; R178). -/
def hSurfPublish (c : Vx) (s : State) : Res :=
  let i := fld (c.w 2) 7 0
  let buf := fld (c.w 2) 8 8
  refuseRsv c [(2, msk 8 0)] <|
  match s.surf? i with
  | none => .err .badParam 2
  | some f =>
    refuse (buf == 1 && !f.two) .badParam 2 <|
    refuse (s.bufPending i buf) .busy noWord <|
    .ok [] ((s.publish i buf).onSurf i fun f => { f with hostClk := some s.clk })

/-- SURF_QUERY (0x0342). -/
def hSurfQuery (c : Vx) (s : State) : Res :=
  let i := fld (c.w 2) 7 0
  refuseRsv c [(2, msk 7 0)] <|
  match s.surf? i with
  | none => .ok [0, 0] s
  | some f =>
    let two (g : Nat → Bool) (lo : Nat) : Nat := at' (b01 (g 0)) lo + (if f.two then at' (b01 (g 1)) (lo + 1) else 0)
    .ok [f.p + 2 * b01 f.published + two (s.bufLatched i) 2 + two (s.bufWritable i) 4 + two (s.bufPending i) 6,
      f.count.toNat] s

/-- Whether a descriptor's rectangles, formats and buffers fit its surfaces (R186). -/
def Blit.fits (b : Blit) (df sf : Surf) : Bool :=
  decide (fld b.w1 15 0 + b.dstW ≤ df.w) && decide (fld b.w1 31 16 + b.dstH ≤ df.h)
    && !(b.dstBuf == 1 && !df.two)
    && (b.isFill || (df.format == sf.format && !(b.srcBuf == 1 && !sf.two)
      && decide (fld b.w3 15 0 + (if bit b.w0 9 then b.dstH else b.dstW) ≤ sf.w)
      && decide (fld b.w3 31 16 + (if bit b.w0 9 then b.dstW else b.dstH) ≤ sf.h)))

/-- A deadline of a descriptor word pair: nanoseconds and seconds 31:0, taken in the seconds nearest the present
device time; both zero: none. -/
def State.deadlineOf (s : State) (ns sec : Word) : Option Nat :=
  if ns = 0 && sec = 0 then none
  else
    let cur := tSec s.now
    let d := (sec.toNat + 4294967296 - cur % 4294967296) % 4294967296
    let full := if d < 2147483648 then cur + d else cur + d - 4294967296
    some (mkTime full ns.toNat 0)

/-- BLIT_SUBMIT (0x0348; R185, R186). -/
def hBlitSubmit (c : Vx) (s : State) : Res :=
  let b : Blit :=
    { key := s.blit.next, tag := c.tag, w0 := c.w 2, w1 := c.w 3, w2 := c.w 4, w3 := c.w 5
      fill := (c.w 6).toNat + (c.w 7).toNat * 4294967296, dl := s.deadlineOf (c.w 8) (c.w 9), missed := false }
  refuse (badNs (c.w 8)) .badParam 8 <|
  refuseRsv c [(2, msk 31 7 + msk 1 0)] <|
  refuse (decide (1 < fld b.w0 1 0) || (b.isFill && fld b.w0 9 7 != 0)) .badParam 2 <|
  refuse (b.dstW == 0 || b.dstH == 0 || decide (8192 < b.dstW) || decide (8192 < b.dstH)) .badParam 4 <|
  match s.surf? b.dstSurf, (if b.isFill then s.surf? b.dstSurf else s.surf? b.srcSurf) with
  | some df, some sf =>
    refuse (!b.fits df sf) .badParam noWord <|
    refuse (match b.dl with | some t => decide (s.now + 60 * secU < t) | none => false) .badParam 8 <|
    refuse (df.published && df.p == b.dstBuf) .badState noWord <|
    refuse (decide (64 ≤ s.blit.queue.length)) .refusedFull noWord <|
    .acc ((s.onBlit fun x => { x with queue := x.queue ++ [b], next := x.next + 1 }).start 0x0348 c.tag b.key)
  | _, _ => .err .badParam 2

/-- BLIT_QUERY (0x0349). -/
def hBlitQuery (_ : Vx) (s : State) : Res :=
  let tag := match s.blit.running with | some (b, _) => b.tag.toNat | none => 0
  .ok [s.blit.queue.length, tag, s.blitMoved] s

/-- BLIT_BW for a named channel that runs must carry STAGE (R191). -/
def blitNeedStage (c : Vx) (s : State) : Bool := bit (c.w 2) 20 && s.runs (fld (c.w 2) 19 16)

/-- The input-processor and composition traffic of a channel, which stops in its blanking (R190). -/
def State.deadTraffic (s : State) (c : Nat) : Q :=
  match (s.ch c).cfg with
  | none => ⟨0, 1⟩
  | some g =>
    let enc := (g.cisternRate).mul ⟨2 * 2 + 3 * (if g.struct = 2 then 0 else g.refs), 2⟩
    let t := s.traffic c
    ⟨t.num * enc.den - enc.num * t.den, t.den * enc.den⟩

/-- BLIT_BW (0x034C; R188, R190). -/
def hBlitBw (c : Vx) (s : State) : Res :=
  let w := c.w 2
  let a := fld w 7 0
  let d := fld w 15 8
  let ch := fld w 19 16
  refuseRsv c [(2, msk 20 0)] <|
  refuse (a == 0 || decide (96 < a) || d == 0 || decide (96 < d)) .badParam 2 <|
  let named := if bit w 20 then some ch else none
  let same := named.isSome && s.blit.deadCh == named
  let s' := s.reRate fun b =>
    { b with active := a, dead := d, deadCh := named, window := b.window && same, offSeen := b.offSeen && same }
  refuse (!s'.sumsLater && (!s'.decodeOk || !s'.gddrOk)) .noResource noWord <|
  refuse (!(Q.mk (d * 500000000) 1).le ((Q.mk (a * 500000000) 1).add
    (if bit w 20 then s'.deadTraffic ch else ⟨0, 1⟩))) .noResource noWord <|
  .ok [] s'

/-! ### Happenings -/

/-- BLIT_START: the oldest descriptor starts once its destination buffer is writable and BL0 is idle (R187). -/
def execBlitStart (s : State) : Host.Outcome State Fault Refusal :=
  match s.blit.running, s.blit.queue with
  | none, b :: rest =>
    if s.bufWritable b.dstSurf b.dstBuf then
      .next (s.onBlit fun x => { x with queue := rest, running := some (b, s.clk), moved := (0, s.clk) })
    else .next s
  | _, _ => .next s

/-- A descriptor still running at its deadline raises BLIT:0x01, once (R187). -/
def State.blitLate (s : State) : State :=
  match s.blit.running with
  | some (b, k) =>
    if b.missed then s else (s.raise 0x04 0x01).onBlit fun x => { x with running := some ({ b with missed := true }, k) }
  | none => s

/-- The running descriptor has been moved. -/
def State.blitEnd (s : State) (bad : List Nat) : State :=
  match s.blit.running with
  | none => s
  | some (b, _) =>
    match s.surf? b.dstSurf with
    | none => s
    | some df =>
      let sf := (s.surf? b.srcSurf).getD df
      let s := s.onMem fun m => { m with gddr := b.run df sf bad m.gddr }
      let hit := b.hit df bad
      let s := if hit then s.raise 0x04 0x02 else s
      let s := s.onBlit fun x => { x with running := none, moved := (0, s.clk) }
      let s := if b.publish then s.blitPublish b.dstSurf b.dstBuf else s
      s.complete 0x0348 b.key .ok [b01 hit + 2 * b01 b.missed]

/-- BLIT_COMPLETE: the running descriptor is finished after some clocks, with the 64-byte blocks of its destination
buffer whose source read was uncorrectable (R179, R187); the blocks are counted from the start of the buffer. A deadline
that passes before is missed. A descriptor that the rates have not let through yet goes on. -/
def execBlitComplete (wait : Nat) (bad : List Nat) (s : State) : Host.Outcome State Fault Refusal :=
  let t := s.pass wait
  let late := match s.blit.running with
    | some (b, _) => b.dl.any fun d => decide (d < t.now)
    | none => false
  let s := if late then
      ((s.toTime ((s.blit.running.bind (·.1.dl)).getD 0)).blitLate).toClk (s.clk + wait)
    else t
  if s.blitDone then .next (s.blitEnd bad) else .next s

/-- BLIT_DEADLINE: a descriptor still running at its deadline raises BLIT:0x01 and goes on (R187). -/
def execBlitDeadline (s : State) : Host.Outcome State Fault Refusal :=
  match s.blit.running with
  | some (b, _) =>
    match b.dl, b.missed with
    | some t, false => .next (s.toTime t).blitLate
    | _, _ => .next s
  | none => .next s

/-- The device time of the edge with an absolute number on a LOCKED timeline. -/
def State.edgeTime (s : State) (tl n : Nat) : Nat :=
  let k := s.trk tl
  match k.last with
  | some l => s.rawToDev ((l : Int) + ((n : Int) - k.edge) * k.tpred)
  | none => s.now

/-- DEAD_WINDOW_OPEN: at the edge of the first blanking line BL0 switches to DEAD_RATE; without LOCKED no window
opens, and BLIT:0x03 is raised where the period began before the channel was named (R189). -/
def execDeadWindowOpen (s : State) : Host.Outcome State Fault Refusal :=
  match s.blit.deadCh with
  | none => .next s
  | some c =>
    match s.ipOf c with
    | none => .next s
    | some p =>
      let inp := s.inp (s.ip p).input
      let tl := 5 + (s.ip p).input
      let k := s.trk tl
      if k.st != 2 then
        if s.blit.offSeen then .next s
        else .next ((s.raise 0x04 0x03).onBlit fun b => { b with offSeen := true })
      else if s.blit.window || k.e ≤ inp.lines then .next (s.onBlit fun b => { b with offSeen := false })
      else
        -- the edge of this frame if it is still to come or comes in this clock, else that of the next frame
        let n := k.edge / k.e * k.e + inp.lines
        let n := if k.edge < n || (k.edge == n && decide (s.now < s.edgeTime tl n + s.time.addend)) then n else n + k.e
        let s := s.toTime (s.edgeTime tl n)
        .next (s.reRate fun b => { b with window := true, offSeen := false })

/-- DEAD_WINDOW_CLOSE: 2 us before the predicted edge of the next frame's first active line BL0 returns to
ACTIVE_RATE (R189). -/
def execDeadWindowClose (s : State) : Host.Outcome State Fault Refusal :=
  if !s.blit.window then .next s
  else
    let s := match s.blit.deadCh with
      | some c => match s.ipOf c with
        | some p =>
          let tl := 5 + (s.ip p).input
          let k := s.trk tl
          s.toTime (s.edgeTime tl ((k.edge / k.e + 1) * k.e) - 2 * usU)
        | none => s
      | none => s
    .next (s.reRate fun b => { b with window := false })

end Sys2Proof.Machine
end

