-- ==== Sys2Proof/Machine/Lanes.lean ====
section
/-!
DEFINITION. Serial lanes (chapter 15 of spec/): owners, enabling, the states of a lane, and what happens at its
receiver.
-/
namespace Sys2Proof.Machine

/-- A lane, and a change of one. -/
def State.lan (s : State) (l : Nat) : Lane := tab s.lane.lanes l
def State.onLan (s : State) (l : Nat) (f : Lane → Lane) : State := s.onLane fun x => { x with lanes := upd x.lanes l f }

/-- The lanes of PCIe (R446). -/
def pcieLane (l : Nat) : Bool := decide (30 ≤ l) && decide (l ≤ 33)

/-- The wellhead input that has a lane. -/
def State.laneInput (s : State) (l : Nat) : Option Nat :=
  if 15 < l then none
  else (List.range 8).find? fun i =>
    let x := s.inp i
    x.kind != 0 && decide (x.first ≤ l) && decide (l < x.first + x.lanes)

/-- The port of a lane (R446). -/
def portOfLane (l : Nat) : Option Nat :=
  if l < 16 then none else if l < 20 then some 0 else if l < 24 then some 1 else if l = 24 then some 2
  else if l = 25 then some 3 else none

/-- The lanes of a port. -/
def lanesOfPort (p : Nat) : List Nat := (List.range 34).filter fun l => portOfLane l == some p

/-- A lane is enabled: its function has it, and the power state powers it (R446, R460, R547, R551). -/
def State.laneWanted (s : State) (l : Nat) : Bool :=
  if l < 16 then match s.laneInput l with
    | some i => decide ((if i = 0 then 2 else 3) ≤ s.pw.st)
    | none => false
  else if l = 24 || l = 25 || pcieLane l then decide (1 ≤ s.pw.st)
  else decide (3 ≤ s.pw.st)

/-- A lane changes its state; a LANE_STATE event is written but at the entry to EXITING (DESIGN CHOICE, log entry 50). -/
def State.laneGo (s : State) (l st : Nat) : State :=
  let old := (s.lan l).st
  let s := s.onLan l fun x => { x with st := st }
  if old = st || st = 5 then s else s.event 0x0C01 0xFF 27 [l + at' st 8 + at' old 12]

/-- Every LANE_RETRAIN of a lane that runs completes. -/
def State.retrained (s : State) (l : Nat) (st : Status) : State :=
  (s.host.running.filter fun r => r.op == 0x0C03 && r.key == l).foldl (fun s _ => s.complete 0x0C03 l st) s

/-- A full training starts, or waits for a signal (R459, R460). -/
def State.train (s : State) (l : Nat) : State :=
  let s := s.onLan l fun x => { x with frozen := false, trainFrom := s.clk }
  s.laneGo l (if (s.lan l).signal then 2 else 1)

/-- A lane is enabled or powered down. -/
def State.laneOff (s : State) (l : Nat) : State :=
  if (s.lan l).st = 0 then s
  else
    let s := ((s.causeOff 0x0C 0x01 l).causeOff 0x0C 0x04 l).onLan l fun x =>
      { x with locked := false, failed := false, frozen := false }
    s.laneGo l 0

/-- The module's own transmitter of a lane leaves electrical idle with 128 blocks of idle (R456); the lane's port sends nothing
else before their end. A block lasts 66 bits at 25.78125 Gb/s, or at the 32 Gb/s of the twin link (R446). -/
def State.burst (s : State) (l : Nat) : State :=
  if l < 16 || pcieLane l then s
  else
    let d := if 26 ≤ l then 264 * nsU else ceilDiv (32768 * nsU) 100
    let s := s.emit .burst [l, 128]
    match portOfLane l with
    | some p => s.onNet fun n => { n with ports := upd n.ports p fun x =>
        { x with idleAt := max x.idleAt (s.clk + ceilDiv d s.time.addend) } }
    | none => s

/-- Lanes are enabled and powered down as their functions and the power state want. -/
def State.setLanes (s : State) : State :=
  (List.range 34).foldl (fun s l =>
    if s.laneWanted l then (if (s.lan l).st = 0 then (s.burst l).train l else s) else s.laneOff l) s

/-- A lane carries 64b/66b blocks, whose idle symbols R451 names. -/
def State.laneBlocks (s : State) (l : Nat) : Bool :=
  if pcieLane l then false else match s.laneInput l with | some i => (s.inp i).kind == 1 | none => decide (15 < l)

/-- The lanes whose idle is judged together: the four of N0 or N1, else the lane alone (R451). -/
def idleTogether (l : Nat) : List Nat :=
  match portOfLane l with | some p => if p < 2 then lanesOfPort p else [l] | none => [l]

/-- CTLE and DFE are held at what adaptation has reached, which no rule states and is free. -/
def State.freeze (s : State) (l : Nat) : State :=
  if (s.lan l).frozen then s
  else (s.onLan l fun x =>
    { x with frozen := true, ctle := s.freeVal 452 l % 16
             dfe := (List.range 5).map fun k => s.freeVal 453 (5 * l + k) % 256 }).drawn

/-! ### Happenings -/

/-- LANE_LOW_AMPLITUDE: IDLE under IDLE_OK, else LOS of a lane that has been LOCKED (R452, R454, R455, R461). -/
def lowAmplitude (s : State) (wait l : Nat) : State :=
  let s := (s.pass wait).onLan l fun x => { x with signal := false }
  let x := s.lan l
  if x.st = 0 || x.st = 1 || x.st = 4 || x.st = 6 then s
  else if !x.locked then s.train l
  else if x.idleOk then (s.freeze l).laneGo l 4
  else ((s.onLan l fun x => { x with los := x.los + 1 }).raiseOn 0x0C 0x01 l).laneGo l 6

/-- LANE_SIGNAL_PRESENT: training, or a fast exit whose burst began 100 ns ago (R454, R457, R459, R460). -/
def signalPresent (s : State) (wait l : Nat) : State :=
  let s := (s.pass wait).onLan l fun x => { x with signal := true }
  let x := s.lan l
  if x.st = 1 then s.train l
  else if x.st = 6 then (s.causeOff 0x0C 0x01 l).train l
  else if x.st = 4 then (s.onLan l fun x => { x with exitFrom := s.clk - 150 }).laneGo l 5
  else s

/-- LANE_LOL: a LOCKED lane loses CDR or block lock and trains (R454, R460, R461). -/
def loseLock (s : State) (wait l : Nat) : State :=
  let s := s.pass wait
  if (s.lan l).st = 3 then ((s.onLan l fun x => { x with lol := x.lol + 1 }).raise 0x0C 0x02 l).train l else s

/-- The core clock at which the 1 us of a fast exit expire (R457). -/
def Lane.exitEnd (x : Lane) : Nat := x.exitFrom + usC

/-- LANE_LOCK: a training or a fast exit within its 1 us ends in LOCKED; the coefficients of a fast exit stay held (R457,
R459, R460). -/
def laneLock (s : State) (wait l : Nat) : State :=
  let s := s.pass wait
  let x := s.lan l
  if x.st = 2 || (x.st = 5 && decide (s.clk ≤ x.exitEnd)) then
    let s := (s.onLan l fun x => { x with locked := true, failed := false }).causeOff 0x0C 0x04 l
    (s.laneGo l 3).retrained l .ok
  else s

/-- The core clock at which the 20 ms of a training expire (R460). -/
def Lane.trainEnd (x : Lane) : Nat := x.trainFrom + 20 * msC

/-- A row of a lane that the module does not have changes nothing. -/
def onLaneRow (l : Nat) (s t : State) : Host.Outcome State Fault Refusal := .next (if 33 < l then s else t)

/-- LANE_LOW_AMPLITUDE. -/
def execLaneLowAmplitude (wait lane : Nat) (s : State) : Host.Outcome State Fault Refusal :=
  onLaneRow lane s (lowAmplitude s wait lane)

/-- LANE_SIGNAL_PRESENT. -/
def execLaneSignalPresent (wait lane : Nat) (s : State) : Host.Outcome State Fault Refusal :=
  onLaneRow lane s (signalPresent s wait lane)

/-- LANE_LOL. -/
def execLaneLol (wait lane : Nat) (s : State) : Host.Outcome State Fault Refusal :=
  onLaneRow lane s (loseLock s wait lane)

/-- LANE_LOCK. -/
def execLaneLock (wait lane : Nat) (s : State) : Host.Outcome State Fault Refusal :=
  onLaneRow lane s (laneLock s wait lane)

/-- ADAPT_FREEZE: 64 consecutive idle symbols have come on a lane of 64b/66b blocks (R451, R452). -/
def execAdaptFreeze (wait lane : Nat) (s : State) : Host.Outcome State Fault Refusal :=
  let s' := s.pass wait
  onLaneRow lane s (if s'.laneBlocks lane then
    (idleTogether lane).foldl (fun s l => if (s.lan l).st = 3 then s.freeze l else s) s' else s')

/-- ADAPT_RESUME: the first symbol that is not idle while the lane is LOCKED (R452). -/
def execAdaptResume (wait lane : Nat) (s : State) : Host.Outcome State Fault Refusal :=
  let s' := s.pass wait
  onLaneRow lane s (if s'.laneBlocks lane then
    (idleTogether lane).foldl (fun s l =>
      if (s.lan l).st = 3 then s.onLan l fun x => { x with frozen := false } else s) s' else s')

/-- LANE_EXIT_TIMEOUT: the clock runs on to the end of the 1 us of the fast exit that expires first (R457). -/
def execLaneExitTimeout (s : State) : Host.Outcome State Fault Refusal :=
  match minBy (fun l => (s.lan l).exitEnd) ((List.range 34).filter fun l => (s.lan l).st == 5) with
  | some l => .next (((s.toClk (s.lan l).exitEnd).raise 0x0C 0x03 l).train l)
  | none => .next s

/-- LANE_TRAIN_TIMEOUT: the clock runs on to the end of the 20 ms of the training that expires first; it starts again,
and LANE:0x04 is raised once until the lane locks (R460). PCIe lanes are trained by their link (R459). -/
def execLaneTrainTimeout (s : State) : Host.Outcome State Fault Refusal :=
  match minBy (fun l => (s.lan l).trainEnd) ((List.range 30).filter fun l => (s.lan l).st == 2) with
  | some l =>
    let s := s.toClk (s.lan l).trainEnd
    let first := !(s.lan l).failed
    let s := s.onLan l fun x => { x with failed := true }
    .next ((if first then (s.raiseOn 0x0C 0x04 l).retrained l .timeout else s).train l)
  | none => .next s

/-- PRBS_SECOND: the clock runs on to the end of a second in which a lane's checker counted errors (R463). -/
def execPrbsSecond (lane errs : Nat) (s : State) : Host.Outcome State Fault Refusal :=
  if 33 < lane || (s.lan lane).test = 0 || errs = 0 then .next s
  else
    let s := s.toTime ((s.second + 1) * secU)
    .next ((s.onLan lane fun x => { x with prbs := satAdd x.prbs errs 0xFFFFFFFF }).raise 0x0C 0x05 lane)

/-- A tap setting that R448 allows. -/
def tapsOk (pre post : Nat) : Bool := decide (pre ≤ 15) && decide (post ≤ 21) && decide (pre + post ≤ 21)

/-- The main tap (R448). -/
def mainTap (pre post : Nat) : Nat := 63 - pre - post

/-- PCIE_EQ_REQUEST: a coefficient request that meets R448 sets the taps, any other is rejected (R450). -/
def execPcieEqRequest (wait lane pre main post : Nat) (s : State) : Host.Outcome State Fault Refusal :=
  let s := s.pass wait
  .next (if pcieLane lane && tapsOk pre post && main == mainTap pre post then
    s.onLan lane fun x => { x with pre := pre, post := post } else s)

/-- PCIE_IDLE_ENTRY and PCIE_IDLE_EXIT: adaptation of L30 to L33 freezes and resumes (R453). -/
def execPcieIdleEntry (wait : Nat) (s : State) : Host.Outcome State Fault Refusal :=
  .next ([30, 31, 32, 33].foldl (fun s l => s.freeze l) (s.pass wait))
def execPcieIdleExit (wait : Nat) (s : State) : Host.Outcome State Fault Refusal :=
  .next ([30, 31, 32, 33].foldl (fun s l => s.onLan l fun x => { x with frozen := false }) (s.pass wait))

end Sys2Proof.Machine
end

