-- ==== Sys2Proof/Machine/CaptureCfg.lean ====
section
/-!
DEFINITION. The commands of group 0x02: IN_CONFIG, IN_QUERY, IN_CLEAR, IP_CONFIG, IP_CSC (R121 to R123, R136, R141,
R146, R147).
-/
namespace Sys2Proof.Machine

/-- Whether an input feeds a running channel. -/
def State.inputRuns (s : State) (i : Nat) : Bool := (s.chansOf i).any s.runs

/-- IN_CONFIG for an input that serves a running channel must carry STAGE (R146). -/
def inNeedStage (c : Vx) (s : State) : Bool := s.inputRuns (fld (c.w 2) 3 0)

/-- The lane count that a LANES code names. -/
def laneCount (code : Nat) : Nat := 2 ^ code

/-- The active picture of a 12G-SDI mode (R134; a size the table does not list is refused: DEDUCED, log entry
24). -/
def sdiSize (mode w h : Nat) : Bool :=
  if mode = 0 then h == 2160 && (w == 3840 || w == 4096) else h == 4320 && w == 7680

/-- IN_CONFIG (0x0200; R121, R134, R146). -/
def hInConfig (c : Vx) (s : State) : Res :=
  let w2 := c.w 2
  let i := fld w2 3 0
  let kind := fld w2 5 4
  let rate := fld w2 23 20
  let mode := fld w2 25 24
  let first := fld w2 19 16
  let code := fld w2 10 8
  let n := laneCount code
  let pixels := fld (c.w 3) 15 0
  let lines := fld (c.w 3) 31 16
  let pack := fld (c.w 4) 23 16
  let total := fld (c.w 4) 15 0
  refuseRsv c [(2, msk 25 16 + msk 10 8 + msk 5 0)] <|
  refuse (decide (7 < i)) .badParam 2 <|
  refuse (kind == 3) .badParam 2 <|
  if kind = 0 then
    refuse (s.inputRuns i) .badState 2 <|
    .ok [] ((s.relink i fun _ => {}).onCvu fun v => { v with ctxs := adel v.ctxs i }).setLanes
  else
    refuse (decide (4 < code) || first % n != 0 || decide (16 < first + n)) .badParam 2 <|
    refuse ((List.range 8).any fun j =>
      let x := s.inp j
      j != i && x.kind != 0 && decide (x.first < first + n) && decide (first < x.first + x.lanes)) .badParam 2 <|
    refuse (if kind = 1 then decide (2 < rate) else rate != 3 && rate != 4) .badParam 2 <|
    refuse (if kind = 1 then mode != 0 else decide (2 < mode) || n != tab [1, 4, 8] mode) .badParam 2 <|
    refuse (pixels == 0 || decide (16384 < pixels) || lines == 0 || decide (16384 < lines)) .badParam 3 <|
    refuse (kind == 1 && (packing? pack).isNone) .badParam 4 <|
    refuse (kind == 2 && !sdiSize mode pixels lines) .badParam 3 <|
    let s' := s.onIn i fun _ =>
      { kind := kind, rate := rate, sdiMode := mode, first := first, lanes := n
        linkId := fld (c.w 4) 31 24, packing := pack, pixels := pixels, lines := lines, total := total
        good := List.replicate n 0, bad := List.replicate n 0, marks := List.replicate n none }
    admitted false (s.chansOf i) s' fun s' =>
      -- the lanes of a configured input train anew (R460)
      let old := (List.range 16).filter fun l => s.laneInput l == some i
      let s' := ((s'.setCtx i (Ctx.own 2)).inLink i).onPw fun p => { p with in0 := p.in0 || i == 0 }
      .ok [] (old.foldl State.laneOff s').setLanes

/-- IN_QUERY (0x0201). -/
def hInQuery (c : Vx) (s : State) : Res :=
  refuseRsv c [(2, msk 2 0)] <|
  let x := s.inp (fld (c.w 2) 2 0)
  .ok [b01 x.aligned + 2 * b01 x.formatOk, x.packets.toNat, x.crcErrs.toNat, x.aliveReps.toNat, x.aliveGaps.toNat,
    x.skipped.toNat, x.frame.getD 0] s

/-- IN_CLEAR (0x0202): clears the counters of IN_QUERY. -/
def hInClear (c : Vx) (s : State) : Res :=
  refuseRsv c [(2, msk 2 0)] <|
  .ok [] (s.onIn (fld (c.w 2) 2 0) fun x =>
    { x with packets := 0, crcErrs := 0, aliveReps := 0, aliveGaps := 0, skipped := 0 })

/-- IP_CONFIG for a processor that serves a running channel must carry STAGE (R146). -/
def ipNeedStage (c : Vx) (s : State) : Bool :=
  let p := s.ip (fld (c.w 2) 2 0)
  (p.used && s.runs p.chan) || s.runs (fld (c.w 2) 31 28)

/-- IP_CONFIG (0x0210; R122, R136, R139, R141, R146, R147). -/
def hIpConfig (c : Vx) (s : State) : Res :=
  let w2 := c.w 2
  let k := fld w2 2 0
  let inp := fld w2 5 3
  let ch := fld w2 31 28
  let depth := fld w2 15 8
  let margin := fld (c.w 6) 5 0
  let p : IpSt :=
    { s.ip k with
      used := true, input := inp, chan := ch, desqueeze := fld w2 27 25, depth := fld w2 24 23
      chroma := fld w2 22 21, rotate := fld w2 20 19, mirror := bit w2 18
      cropX := fld (c.w 3) 15 0, cropY := fld (c.w 3) 31 16
      cropW := fld (c.w 4) 15 0, cropH := fld (c.w 4) 31 16
      outW := fld (c.w 5) 15 0, outH := fld (c.w 5) 31 16
      margin := margin }
  let i := s.inp inp
  let old := s.ip k
  refuseRsv c [(2, msk 31 18 + msk 15 8 + msk 5 0), (6, msk 5 0), (7, 0)] <|
  refuse (decide (64 < depth)) .badParam 2 <|
  refuse (decide (5 < p.desqueeze) || p.depth == 3 || p.rotate == 2) .badParam 2 <|
  refuse (decide (32 < margin)) .badParam 6 <|
  refuse (p.cropX % 2 != 0 || p.cropY % 2 != 0) .badParam 3 <|
  refuse (p.cropW % 2 != 0 || p.cropH % 2 != 0 || (p.cropW != 0 && decide (p.cropW < 64))
    || (p.cropH != 0 && decide (p.cropH < 64))) .badParam 4 <|
  refuse (p.outW == 0 || p.outH == 0 || p.outW % 8 != 0 || p.outH % 8 != 0) .badParam 5 <|
  refuse (i.kind != 0 && (ipGeometryBad p i || ipChromaBad p i)) .badParam noWord <|
  refuse ((s.trk (5 + inp)).mode != 5) .badParam noWord <|
  refuse (old.used && old.chan != ch) .noResource noWord <|
  refuse (match s.ipOf ch with | some j => j != k | none => false) .noResource noWord <|
  refuse (decide (2 ≤ ((s.ipsOf inp).filter (· != k)).length)) .noResource noWord <|
  let s1 := s.onIp k fun _ => p
  let min := s1.minDepth ch
  refuse (decide (64 < min) || depth != 0 && decide (depth < min)) .badParam 2 <|
  let d := if depth = 0 then min else depth
  let s2 := s.onIp k fun _ => { p with slots := d, least := depth == 0, nextSlot := old.nextSlot % max 1 d }
  admitted false [ch] s2 fun s => .ok [(s.ip k).slots] s

/-- A signed 16-bit half of a slot word. -/
def half (c : Vx) (w : Nat) (high : Bool) : Int :=
  sgn16 (if high then fld (c.w w) 31 16 else fld (c.w w) 15 0)

/-- IP_CSC (0x0211): nine coefficients, three offsets. -/
def hIpCsc (c : Vx) (s : State) : Res :=
  refuseRsv c [(2, msk 2 0), (7, msk 15 0), (9, msk 15 0)] <|
  let m := (List.range 9).map fun j => half c (3 + j / 2) (j % 2 == 1)
  .ok [] (s.onIp (fld (c.w 2) 2 0) fun p =>
    { p with csc := some (m ++ [half c 8 false, half c 8 true, half c 9 false]) })

end Sys2Proof.Machine
end

