-- ==== Sys2Proof/Machine/Rate.lean ====
section
/-!
DEFINITION. The arithmetic of rate control (chapter 08 of spec/): sizes and targets of pictures, the budget line,
charges, floors, complexities, the clamp at issue and the built-in programs' budgets.
-/
namespace Sys2Proof.Machine

/-! ### Streams and pictures -/

/-- The CTU columns of a stream and its rows. -/
def Strm.cols (t : Strm) (u : Nat) : Nat := ceilDiv t.rect.w u
def Strm.rows (t : Strm) (u : Nat) : Nat := rowsOf u t.rect

/-- Tile columns per stream of a channel. -/
def Ch.tileCols (h : Ch) : Nat := match h.lay with | some l => l.cols | none => 0

/-- The GDR period P of a channel's streams (R220). -/
def Ch.gdrP (h : Ch) : Nat :=
  match h.cfg with
  | some g => if g.gdr = 0 then max 2 (roundDiv g.fnum (g.fden * h.phases)) else g.gdr
  | none => 2

/-- The frame at which the GDR period of a frame was last started anew (R220, R222). -/
def Ch.gdrStart (h : Ch) (frame : Nat) : Nat := (h.gdrStarts.find? (· ≤ frame)).getD 0

/-- Position of a frame's pictures in their GDR period. -/
def Ch.gdrPos (h : Ch) (frame : Nat) : Nat := ((frame - h.gdrStart frame) / h.phases) % h.gdrP

/-- Whether a frame's pictures are wholly intra: first pictures, IDR pictures and ALL_INTRA (R219, R222, R249). -/
def Ch.intraPic (h : Ch) (g : ChCfg) (frame : Nat) : Bool :=
  g.struct == 2 || decide (frame < h.phases) || h.idr.any fun f => f ≤ frame && frame < f + h.phases

/-- Whether a frame's pictures are the first of their streams. -/
def Ch.firstPic (h : Ch) (frame : Nat) : Bool := frame < h.phases

/-- The start of the GDR period of a frame's pictures (R220). -/
def Ch.periodStart (h : Ch) (frame : Nat) : Nat :=
  let n := h.gdrP * h.phases
  h.gdrStart frame + (frame - h.gdrStart frame) / n * n

/-- The number of a frame's picture within its stream, and that of the newest picture of the stream up to it from which no earlier
one is referenced: its first, or an IDR picture (R219, R222). -/
def Ch.picIndex (h : Ch) (frame : Nat) : Nat := frame / h.phases
def Ch.idrIndex (h : Ch) (frame : Nat) : Nat :=
  match (h.idr.filter (· ≤ frame)).max? with
  | some f => (f + (frame % h.phases + h.phases - f % h.phases) % h.phases) / h.phases
  | none => 0

/-- POC of a frame's picture: 1 more per picture of the stream, from 0 at its first and at an IDR picture (R218). -/
def Ch.poc (h : Ch) (frame : Nat) : Nat := h.picIndex frame - h.idrIndex frame

/-- The type of a frame's pictures (R219, R220). -/
def Ch.picType (h : Ch) (g : ChCfg) (frame : Nat) : PicType :=
  if h.poc frame = 0 then (if g.codec = 0 then .idr else .gdr)
  else if g.codec = 1 && g.struct != 2 && h.gdrPos frame = 0 then .gdr
  else .trailing

/-- The type of their slices (R218, R219). -/
def Ch.sliceType (h : Ch) (g : ChCfg) (frame : Nat) : SliceType :=
  if g.struct = 2 || h.picType g frame = .idr then .i else if g.struct = 1 then .b else .p

/-- Channel frames of the pictures that a frame's picture may reference, nearest first: up to REFS most recent earlier pictures of
the stream; none for each that H.266 generates at a stream's first picture (R204, R218, R219). -/
def Ch.refFrames (h : Ch) (g : ChCfg) (frame : Nat) : List (Option Nat) :=
  if h.sliceType g frame = .i then []
  else if h.poc frame = 0 then List.replicate g.refs none
  else (List.range (min g.refs (h.poc frame))).map fun k => some (frame - (k + 1) * h.phases)

/-- The width b of the GDR band in CTU columns (R220). -/
def gdrBand (cols p : Nat) : Nat := ceilDiv cols p

/-- Whether a CTU column is intra in a picture: in the refresh band or immediately to its left (R249). -/
def Ch.intraCol (h : Ch) (g : ChCfg) (t : Strm) (frame col : Nat) : Bool :=
  h.intraPic g frame ||
    let b := gdrBand (t.cols g.ctu) h.gdrP
    let j := h.gdrPos frame
    decide (j * b ≤ col + 1) && decide (col < (j + 1) * b)

/-! ### Floors (R249 to R251) -/

/-- The default QP_MAX of a codec. -/
def defaultQpMax (codec : Nat) : Nat := if codec = 0 then 51 else 63

/-- A bound cost of the table of R249, or the engines' at another QP_MAX. Kind: 0 slice overhead, 1 skip CTU, 2
intra CTU. -/
def boundCost (g : ChCfg) (qpMax kind : Nat) : Nat :=
  if qpMax = defaultQpMax g.codec then
    match g.codec, g.small, kind with
    | 0, _, 0 => 320
    | _, _, 0 => 256
    | 0, false, 1 => 4
    | 0, true, 1 => 2
    | _, false, 1 => 6
    | _, true, 1 => 3
    | 0, false, _ => 64
    | 0, true, _ => 24
    | _, false, _ => 96
    | _, true, _ => 32
  else Config.boundCost g.codec g.ctu kind qpMax

/-- Decoding-unit information SEI of a row (R249). -/
def duiBits : Nat := 64

/-- The QP_MAX in force (R251). -/
def Ch.qpMax (h : Ch) : Nat :=
  match h.cfg, h.rc with
  | some g, some r => if r.qpMax = 0 then defaultQpMax g.codec else r.qpMax
  | some g, none => defaultQpMax g.codec
  | none, _ => 51

/-- The cost of a lossless CTU of s luma samples (R249). -/
def losslessCost (g : ChCfg) (samples : Nat) : Nat :=
  ceilDiv (samples * depthBits g.depth * chromaHalves g.chroma * 17) 32 + 128

/-- Whether a rectangle overlaps a lossless region. -/
def Ch.overlapsLossless (h : Ch) (a : Rect) : Bool :=
  h.regions.any fun r => r.x < a.x + a.w && a.x < r.x + r.w && r.y < a.y + a.h && a.y < r.y + r.h

/-- The CTU of a stream at column and row, in the channel picture. -/
def ctuRect (g : ChCfg) (t : Strm) (col row : Nat) : Rect :=
  ⟨t.rect.x + col * g.ctu, t.rect.y + row * g.ctu, min g.ctu (t.rect.w - col * g.ctu), rowHeight g.ctu t.rect row⟩

/-- The CTU columns of a tile column: first and count. -/
def tileCtus (g : ChCfg) (t : Strm) (k col : Nat) : Nat × Nat := part (t.cols g.ctu) k col

/-- The bound cost of a CTU of a stream in a frame. A CTU both intra and lossless counts as lossless (DEDUCED, log entry 27). -/
def Ch.ctuFloor (h : Ch) (g : ChCfg) (t : Strm) (frame row col : Nat) : Nat :=
  let r := ctuRect g t col row
  if h.overlapsLossless r then losslessCost g (r.w * r.h)
  else boundCost g h.qpMax (if h.intraCol g t frame col then 2 else 1)

/-- The floor of a task in a frame (R249). -/
def Ch.taskFloor (h : Ch) (g : ChCfg) (t : Strm) (frame row col : Nat) : Nat :=
  let (c0, n) := tileCtus g t h.tileCols col
  (List.range n).foldl (fun a k => a + h.ctuFloor g t frame row (c0 + k)) (boundCost g h.qpMax 0)

/-! ### Non-VCL units (R228, R229, R250) -/

/-- Parameter sets go with a picture: at the start of the stream and of a GDR period, and at an IDR picture (R228). -/
def Ch.sendsSets (h : Ch) (g : ChCfg) (frame : Nat) : Bool := h.gdrPos frame == 0 || h.picType g frame == .idr

/-- The non-VCL units before the rows of a picture, in their order (table "NAL unit order of one picture"). -/
def Ch.prefixKinds (h : Ch) (g : ChCfg) (frame : Nat) : List NalKind :=
  let sets := h.sendsSets g frame
  let some' (b : Bool) (k : NalKind) : List NalKind := if b then [k] else []
  [.aud] ++ some' (sets && g.codec == 0) .vps ++ some' sets .sps ++ some' sets .pps ++ [.buffering, .timing]
    ++ some' (g.codec == 0 && g.struct != 2 && h.gdrPos frame == 0) .recovery
    ++ some' (sets && h.sei.mdcv) .colour ++ some' (sets && h.sei.cll) .light
    ++ some' (g.codec == 0 && h.sei.timecode) .timeCode ++ some' (g.codec == 1) .pictureHeader

/-- The suffix SEI of a picture. -/
def Ch.suffixKinds (h : Ch) : List NalKind := (if h.sei.hash then [.hash] else []) ++ (if h.sei.record then [.record] else [])

/-- The picture is the last of its stream before CH_STOP, so that an end of bitstream follows it. -/
def Ch.lastPic (h : Ch) (frame : Nat) : Bool := match h.last with | some l => decide (l < frame + h.phases) | none => false

/-- Bits of a non-VCL unit, with the AUX bytes of a frame record: of the standards' syntax, and free (log entry 78). -/
def nalBits (g : ChCfg) (k : NalKind) (aux : Nat) : Nat := Config.nonVclBits g.codec k.code aux

/-- Bits of the non-VCL units that precede the first slice of a picture (R250). -/
def Ch.prefixBits (h : Ch) (g : ChCfg) (frame : Nat) : Nat := sumNat ((h.prefixKinds g frame).map fun k => nalBits g k 0)

/-- A suffix unit with AUX_LEN bytes of metadata is no larger than the largest one (R250). -/
def suffixUnit (g : ChCfg) (aux : Nat) (k : NalKind) : Nat := min (nalBits g k 2048) (nalBits g k aux)

/-- The largest suffix of a picture, and the suffix with AUX_LEN bytes of metadata (R250). -/
def Ch.suffixMax (h : Ch) (g : ChCfg) : Nat := sumNat (h.suffixKinds.map fun k => nalBits g k 2048)
def Ch.suffixBits (h : Ch) (g : ChCfg) (aux : Nat) : Nat := sumNat (h.suffixKinds.map (suffixUnit g aux))

/-- The non-VCL bits charged to row n of a stream's picture (R245, R250). -/
def Ch.nonVclOf (h : Ch) (g : ChCfg) (t : Strm) (frame n : Nat) : Nat :=
  duiBits + (if n = 0 then h.prefixBits g frame else 0)
    + (if n + 1 = t.rows g.ctu then h.suffixMax g else 0)

/-- f_n: the row's floor at the worst band position, b + 1 intra columns, with its non-VCL units (R249, R250). -/
def Ch.rowFloor (h : Ch) (g : ChCfg) (t : Strm) (frame n : Nat) : Nat :=
  let cols := t.cols g.ctu
  let intra := if h.intraPic g frame then cols else min cols (gdrBand cols h.gdrP + 1)
  let lossless := (List.range cols).filter fun k => h.overlapsLossless (ctuRect g t k n)
  let ll := lossless.foldl (fun a k => let r := ctuRect g t k n; a + losslessCost g (r.w * r.h)) 0
  let rest := cols - lossless.length
  h.tileCols * boundCost g h.qpMax 0 + ll + min intra rest * boundCost g h.qpMax 2
    + (rest - min intra rest) * boundCost g h.qpMax 1 + h.nonVclOf g t frame n

/-- f_n + ... + f_{N-1}. -/
def Ch.floorRest (h : Ch) (g : ChCfg) (t : Strm) (frame n : Nat) : Nat :=
  (List.range (t.rows g.ctu)).foldl (fun a k => if n ≤ k then a + h.rowFloor g t frame k else a) 0

/-! ### Modes (R260 to R263) -/

/-- Integer square root by bits, from a highest bit on. -/
def isqrtLoop : Nat → Nat → Nat → Nat
  | 0, _, r => r
  | k + 1, n, r => let r' := r + 2 ^ k; isqrtLoop k n (if r' * r' ≤ n then r' else r)

/-- The square root of a number below 2^128, rounded down. -/
def isqrt (n : Nat) : Nat := isqrtLoop 64 n 0

/-- The sums of R262 over at most W pictures. -/
def sumInt (l : List Int) : Int := l.foldl (· + ·) 0

/-- W: pictures of the VBR window. -/
def Ch.windowPics (h : Ch) (g : ChCfg) (r : RcCfg) : Nat :=
  max 1 (roundDiv ((if r.window = 0 then 1000 else r.window) * g.fnum) (1000 * g.fden * h.phases))

/-- A_i of the picture in progress (R260 to R262). The VBR root is taken with 32 fractional bits and its remaining
rounding is free (DESIGN CHOICE, log entry 28: the rule states none). -/
def Ch.target (h : Ch) (g : ChCfg) (r : RcCfg) (t : Strm) : Nat :=
  let m := h.maxSize g r
  match t.shared with
  | some a => a
  | none =>
  match r.mode with
  | 0 =>
    let a := h.perPicture g r.rate
    (max ((a / 2 : Nat) : Int) (min (m : Int) (a + t.carry))).toNat
  | 1 =>
    let a := h.perPicture g (if t.rate = 0 then r.rate else t.rate)
    let w := h.windowPics g r
    let xs := t.xs.take w
    let root : Nat := match xs.head? with
      | some x => if sumNat xs = 0 then 4294967296 else isqrt (x * xs.length * 2 ^ 64 / sumNat xs)
      | none => 4294967296
    let k := sumInt (t.diffs.take w)
    -- a x root x (1 + k / (a w)) = root x (a w + k) / w
    let num : Int := (root : Int) * ((a * w : Nat) + k)
    let v := quot 262 num.toNat (w * 4294967296)
    min m (max (a / 4) v)
  | _ => m

/-- L_n (R245). -/
def budgetLine (m rows n : Nat) : Nat := m * (n + 1) / rows

/-! ### Charges (R246) -/

/-- The tasks of a stream's picture. -/
def State.picTasks (s : State) (stream frame : Nat) : List TaskRec :=
  s.enc.tasks.filter fun t => t.stream == stream && t.frame == frame

/-- A completed or underrun task counts with its BITS, another with its BUDGET. -/
def TaskRec.cost (t : TaskRec) : Nat := if t.st = 3 || t.st = 4 then t.res.bits else t.budget

/-- The non-VCL bits charged to a picture. -/
def Strm.nonVclIn (t : Strm) (frame : Nat) : Nat := (alookup t.nonVcl frame).getD 0

/-- A row of a picture is issued: its non-VCL bits are charged and its X is kept. -/
def Strm.rowIn (t : Strm) (frame nv x : Nat) : Strm :=
  { t with nonVcl := aset t.nonVcl frame (t.nonVclIn frame + nv)
           curX := aset t.curX frame ((alookup t.curX frame).getD [] ++ [x]) }

/-- X of the rows of the picture before a frame's: over, or issued whole. -/
def Strm.xBefore (t : Strm) (phases frame : Nat) : List Nat := (alookup t.curX (frame - phases)).getD t.prevX

/-- The budgets and non-VCL bits of a stream's rows that the partner has issued and not committed (R490): those of the issue records
whose tasks are not among the module's own. -/
def State.inFlightCharge (s : State) (stream frame : Nat) : Nat :=
  let t := s.strm stream
  match (s.ch t.chan).cfg with
  | none => 0
  | some g =>
    sumNat ((s.twin.issues.filter fun x => x.chan == t.chan && x.frame == frame).map fun x =>
      let own := x.tasks.filter fun ws => fld (ws.getD 0 0) 19 15 == stream
      match own.head? with
      | none => 0
      | some ws =>
        let n := fld (ws.getD 0 0) 9 0
        if (s.picTasks stream frame).any (·.row == n) then 0
        else (s.ch t.chan).nonVclOf g t frame n + sumNat (own.map fun ws => (ws.getD 2 0).toNat))

/-- C_n of a stream's picture. -/
def State.charge (s : State) (stream frame : Nat) : Nat :=
  let t := s.strm stream
  t.nonVclIn frame + sumNat ((s.picTasks stream frame).map TaskRec.cost) + s.inFlightCharge stream frame

/-! ### Complexity (R256) -/

/-- INTRA and INTER of a sounder block entry (table "Sounder record"): the high word holds FLAGS, MEAN, INTRA. -/
def entryIntra (hi : Word) : Nat := fld hi 15 0
def entryInter (lo : Word) : Nat := fld lo 31 16

/-- x of a block of a stream's row: its entry, or that of the previous picture's record where it is missing (R256). -/
def State.blockX (s : State) (c frame crow stream block : Nat) : Nat :=
  let h := s.ch c
  match h.cfg, s.enc.rows.find? (fun r => r.chan == c && r.frame == frame && r.row == crow) with
  | some g, some r =>
    let old := s.enc.rows.find? fun r => r.chan == c && r.frame + h.phases == frame && r.row == crow
    let ent := match alookup r.blocks block with
      | some e => some e
      | none => old.bind fun r => alookup r.blocks block
    match ent with
    | none => 1
    | some (hi', lo') =>
      let r := (s.strm stream).rect
      let lo := (64 * block - r.x) / g.ctu
      let hi := (min (64 * block + 64) (r.x + r.w) - 1 - r.x) / g.ctu
      if (List.range (hi + 1)).any fun col => decide (lo ≤ col) && h.intraCol g (s.strm stream) frame col then entryIntra hi' + 1
      else min (entryIntra hi') (entryInter lo') + 1
  | _, _ => 1

/-- Luma columns of the last 64-column block of a channel's rows. -/
def ChCfg.lastBlock (g : ChCfg) : Nat := if g.width % 64 = 0 then 64 else g.width % 64

/-- The unit in which spans are summed: a whole block counts as 64 times the columns of the last block. -/
def ChCfg.xUnit (g : ChCfg) : Nat := 64 * g.lastBlock

/-- Sum of x over the 64-column blocks of a span of luma columns, in units of 1 / xUnit: a straddling block counts by area
(R258). -/
def State.spanX (s : State) (c frame crow stream x w : Nat) : Nat :=
  match (s.ch c).cfg with
  | none => 0
  | some g => (List.range (ceilDiv (x + w) 64)).foldl (fun a b =>
      let lo := max x (64 * b)
      let hi := min (x + w) (64 * b + 64)
      if hi ≤ lo then a
      else a + s.blockX c frame crow stream b * ((hi - lo) * (if 64 * b + 64 ≤ g.width then g.lastBlock else 64))) 0

/-- X of a stream's row, in units of 1 / xUnit: the sum of x over its blocks. -/
def State.rowX (s : State) (c frame crow stream : Nat) : Nat :=
  let r := (s.strm stream).rect
  s.spanX c frame crow stream r.x r.w

/-- The sum of x over a task's blocks. -/
def State.taskX (s : State) (c frame crow stream col : Nat) : Nat :=
  match (s.ch c).cfg with
  | none => 0
  | some g =>
    let r := (s.strm stream).rect
    let (x, w) := tileCol g.ctu r (s.ch c).tileCols col
    s.spanX c frame crow stream (r.x + x) w

/-! ### Targets and budgets of the built-in programs (R257, R258) -/

/-- t_n of a stream's row (R257). -/
def State.rowTarget (s : State) (c frame crow stream n : Nat) : Nat :=
  let h := s.ch c
  match h.cfg, h.rc with
  | some g, some r =>
    let t := s.strm stream
    let rest := h.floorRest g t frame n
    let spare := h.target g r t - s.charge stream frame - rest
    let xn := s.rowX c frame crow stream
    let later := sumNat ((List.range (t.rows g.ctu)).map fun k =>
      if k ≤ n then 0 else if h.firstPic frame then xn else (t.xBefore h.phases frame).getD k xn)
    h.rowFloor g t frame n + (if xn + later = 0 then 0 else spare * xn / (xn + later))
  | _, _ => 0

/-- b_n, from the target or from the cluster's t' (R257, R275). -/
def State.rowBudget (s : State) (stream frame n target : Nat) : Nat :=
  let h := s.ch (s.strm stream).chan
  match h.cfg, h.rc with
  | some g, some r =>
    let t := s.strm stream
    min target (budgetLine (h.maxSize g r) (t.rows g.ctu) n - s.charge stream frame)
  | _, _ => 0

/-- The budgets of a row's tasks, in tile-column order: the floor and a part of b_n - f_n in proportion to x, its
rounding free (R258). -/
def State.splitBudget (s : State) (c frame crow stream n b : Nat) : List Nat :=
  let h := s.ch c
  match h.cfg with
  | none => []
  | some g =>
    let t := s.strm stream
    let spare := b - h.rowFloor g t frame n
    let x := s.rowX c frame crow stream
    (List.range h.tileCols).map fun col =>
      h.taskFloor g t frame n col + (if x = 0 then 0 else quot 258 (spare * s.taskX c frame crow stream col) x)

/-- round(6 log2(n / d)) of positive numbers: the greatest k with 2^(2k - 1) at most (n / d)^12. -/
def sixLog2 (n d : Nat) : Int :=
  (List.range 601).foldl (fun (m : Int) (i : Nat) =>
    let k : Int := (i : Int) - 300
    let e := 2 * k - 1
    if d ^ 12 * 2 ^ e.toNat ≤ n ^ 12 * 2 ^ (-e).toNat then k else m) (-300)

/-- A QP that the rules leave open, between QP_MIN and QP_MAX. -/
def State.freeQp (s : State) (h : Ch) (r : RcCfg) (stream : Nat) : Nat :=
  r.qpMin + s.freeVal 258 stream % (h.qpMax - r.qpMin + 1)

/-- QP_INIT of a task with a budget and a sum of x (R258, R260): QP_CQ in the first picture and in CQ; else the mean QP of the
co-located task of the previous picture, adjusted and limited. Where that task took no QP, as a skip slice, or is not over,
the rule gives none, and it is free (log entry 29). -/
def State.taskQp (s : State) (h : Ch) (r : RcCfg) (frame stream col n budget x : Nat) : Nat :=
  if r.mode = 2 || h.firstPic frame then r.qpCq
  else match s.enc.tasks.find? fun p => p.stream == stream && p.frame + h.phases == frame && p.col == col && p.row == n with
  | some p =>
    if p.res.cus = 0 || p.res.bits = 0 || budget = 0 || p.x = 0 || x = 0 then s.freeQp h r stream
    else
      let q : Int := (quot 258 p.res.sumQp p.res.cus : Nat) + sixLog2 (p.res.bits * x) (budget * p.x)
      (max (r.qpMin : Int) (min (h.qpMax : Int) q)).toNat
  | none => s.freeQp h r stream

/-- QP_MIN of a channel's tasks (table "Modes"). -/
def RcCfg.lowQp (r : RcCfg) : Nat := if r.mode = 2 then r.qpCq else r.qpMin

/-! ### The clamp at issue (R252, R253) -/

/-- The budgets of a row's tasks of one stream as they are issued, from what was written. -/
def clampBudgets (room0 : Nat) (floors written : List Nat) : List Nat :=
  let rec go (spent : Nat) : List (Nat × Nat) → List Nat
    | [] => []
    | (f, w) :: rest =>
      let later := sumNat (rest.map (·.1))
      let b := max f (min w (room0 - spent - later))
      b :: go (spent + b) rest
  go 0 (floors.zip written)

end Sys2Proof.Machine
end

