-- ==== Sys2Proof/Machine/Coding.lean ====
section
/-!
DEFINITION. What a coding engine may make of a task (chapter 07 and R254, R255 of chapter 08): tools, partitioning, prediction and
its limits, reserve mode, lossless regions, and the bits of each CTU; the reference cistern and the skip templates. How an engine
searches and codes within these rules no rule states: its result is the operand of the command, and one that breaks a rule is no
result of an engine (log entry 66).
-/
namespace Sys2Proof.Machine

/-! ### Tools (R194) -/

/-- The tools that a codec uses beside quad-tree or QT-MTT partitioning, its intra modes, merge and skip. -/
def usedTools (codec : Nat) : List Tool :=
  if codec = 0 then [.amvp, .asymmetric, .transformSkip, .signHiding, .deblocking, .sao, .bypass, .pcm]
  else [.mrl, .mip, .cclm, .mmvd, .historyMerge, .pairwiseMerge, .amvr, .affine, .ciip, .gpm, .mts, .lfnst, .transformSkip,
    .dependentQuant, .jointChroma, .deblocking, .sao, .alf, .ccAlf, .tiles]

/-- The tools that the table lists as not used, which the parameter sets signal off. -/
def offTools (codec : Nat) : List Tool :=
  if codec = 0 then [.tiles, .wavefront, .dependentSlices, .temporalMv, .weighted, .longTerm, .scalingLists, .crossComponent,
    .extendedPrecision, .implicitRdpcm, .explicitRdpcm]
  else [.temporalMv, .subblockTemporalMv, .bdof, .dmvr, .lmcs, .weighted, .longTerm, .resampling, .subpictures, .palette, .ibc,
    .act, .rectSlices]

/-- The in-loop filters, which a slice uses as a whole. -/
def loopFilter : Tool → Bool
  | .deblocking | .sao | .alf | .ccAlf => true
  | _ => false

/-- Tools of intra CUs, of merged CUs, and of CUs with coded vectors. -/
def intraTool : Tool → Bool
  | .mrl | .mip | .cclm | .pcm => true
  | _ => false
def mergeTool : Tool → Bool
  | .mmvd | .historyMerge | .pairwiseMerge | .ciip | .gpm => true
  | _ => false
def interTool : Tool → Bool
  | .amvp | .amvr => true
  | _ => false

/-- Whether a CU is intra, whether it takes its vectors from its neighbours. -/
def isIntra : CuMode → Bool
  | .intra _ => true
  | _ => false
def isMerge : CuMode → Bool
  | .merge | .skip => true
  | _ => false

/-! ### The task of a slice -/

/-- What a task codes: configuration, channel, stream, task record. -/
structure Job where
  g : ChCfg
  h : Ch
  st : Strm
  t : TaskRec

/-- The job of a task. -/
def State.job? (s : State) (t : TaskRec) : Option Job := (s.ch t.chan).cfg.map fun g => ⟨g, s.ch t.chan, s.strm t.stream, t⟩

/-- Rectangles: one within another, one that overlaps another, the area. -/
def Rect.within (a b : Rect) : Bool :=
  decide (b.x ≤ a.x) && decide (b.y ≤ a.y) && decide (a.x + a.w ≤ b.x + b.w) && decide (a.y + a.h ≤ b.y + b.h)
def Rect.meets (a b : Rect) : Bool :=
  decide (a.x < b.x + b.w) && decide (b.x < a.x + a.w) && decide (a.y < b.y + b.h) && decide (b.y < a.y + a.h)
def Rect.area (a : Rect) : Nat := a.w * a.h

/-- Rectangles that do not overlap, two by two. -/
def disjoint : List Rect → Bool
  | [] => true
  | a :: rest => rest.all (fun b => !a.meets b) && disjoint rest

/-- The CTU columns of the task: first and count; its area and its CTU k, in luma samples of the stream's picture. -/
def Job.cols (j : Job) : Nat × Nat := tileCtus j.g j.st j.h.tileCols j.t.col
def Job.area (j : Job) : Rect :=
  let (x, w) := tileCol j.g.ctu j.st.rect j.h.tileCols j.t.col
  ⟨x, j.t.row * j.g.ctu, w, rowHeight j.g.ctu j.st.rect j.t.row⟩
def Job.ctu (j : Job) (k : Nat) : Rect :=
  let r := ctuRect j.g j.st (j.cols.1 + k) j.t.row
  ⟨r.x - j.st.rect.x, r.y - j.st.rect.y, r.w, r.h⟩

/-- A rectangle of the stream's picture overlaps a lossless region (R226). -/
def Job.lossless (j : Job) (a : Rect) : Bool := j.h.overlapsLossless ⟨j.st.rect.x + a.x, j.st.rect.y + a.y, a.w, a.h⟩

/-- A CTU column is coded as intra: in a picture of I slices, and in the refresh band (R220). -/
def Job.intra (j : Job) (col : Nat) : Bool :=
  j.h.sliceType j.g j.t.frame = .i ||
    (let b := gdrBand (j.st.cols j.g.ctu) j.h.gdrP
     let k := j.h.gdrPos j.t.frame
     decide (k * b ≤ col) && decide (col < (k + 1) * b))

/-! ### Motion (R210, R221) -/

/-- The reference samples of a block along an axis: place and size of the block, the vector in units of 1/16, the component's
divisor, the taps before and after, the size of the picture. Samples beyond the picture edge are padded from it. In luma samples,
first and last. -/
def tapSpan (p n : Nat) (v : Int) (d before after size : Nat) : Nat × Nat :=
  let u : Int := 16 * d
  let frac := decide (v % u ≠ 0)
  let a : Int := (p / d : Nat) + v / u - (if frac then before else 0)
  let b : Int := (p / d : Nat) + v / u + (max 1 (n / d) - 1 : Nat) + (if frac then after else 0)
  let top : Nat := ceilDiv size d - 1
  let cut (i : Int) : Nat := min i.toNat top
  (cut a * d, min (cut b * d + d - 1) (size - 1))

/-- The luma and chroma reference samples of a prediction block, each as a rectangle of the picture: 8 taps of luma (6 of affine
blocks) and 4 of chroma. -/
def Job.spans (j : Job) (affine : Bool) (m : Mv) : List Rect :=
  let comp (dx dy b a : Nat) : Rect :=
    let (x0, x1) := tapSpan m.x m.w m.dx dx b a j.st.rect.w
    let (y0, y1) := tapSpan m.y m.h m.dy dy b a j.st.rect.h
    ⟨x0, y0, x1 + 1 - x0, y1 + 1 - y0⟩
  (if affine then comp 1 1 2 3 else comp 1 1 3 4) ::
    (if j.g.chroma = 0 then [] else let (dx, dy) := (planeDivs j.g.chroma).getD 1 (1, 1); [comp dx dy 1 2])

/-- Luma columns of a reference picture that count as refreshed for a picture (R221): in the same period those left of its band's end,
but for the rightmost 8 (HEVC) or 16 (VVC) samples; all of the last picture of the period before. -/
def Job.refreshed (j : Job) (ref : Nat) : Nat :=
  let start := j.h.periodStart j.t.frame
  let b := gdrBand (j.st.cols j.g.ctu) j.h.gdrP
  if j.h.periodStart ref = start then
    min j.st.rect.w ((j.h.gdrPos ref + 1) * b * j.g.ctu) - (if j.g.codec = 0 then 8 else 16)
  else if start != 0 && j.h.periodStart ref = j.h.periodStart (start - 1) && j.h.gdrPos ref + 1 = j.h.gdrP then j.st.rect.w
  else 0

/-- The limits of a vector of a CU: its list and reference exist, its block lies in the CU, each reference sample lies in rows n - 2
to n + 2 and within 512 luma samples of the CU (R210), left of the refresh band only in the refreshed area (R221), and in no bad
block (R214). -/
def Job.mvOk (j : Job) (bad : List BadRef) (cu : Cu) (m : Mv) : Bool :=
  let refs := j.h.refFrames j.g j.t.frame
  let n := j.t.row
  let left := decide (cu.x < j.h.gdrPos j.t.frame * gdrBand (j.st.cols j.g.ctu) j.h.gdrP * j.g.ctu)
  let limit := match refs.getD m.ref none with | some f => j.refreshed f | none => 0
  decide (m.list < if j.h.sliceType j.g j.t.frame = .b then 2 else 1) && decide (m.ref < refs.length)
    && (j.g.codec != 0 || (m.dx % 4 == 0 && m.dy % 4 == 0))
    && (Rect.mk m.x m.y m.w m.h).within ⟨cu.x, cu.y, cu.w, cu.h⟩ && m.w != 0 && m.h != 0
    && (j.spans (cu.tools.contains .affine) m).all fun r =>
      decide (n ≤ r.y / j.g.ctu + 2) && decide ((r.y + r.h - 1) / j.g.ctu ≤ n + 2)
        && decide (cu.x ≤ r.x + 512) && decide (r.x + r.w ≤ cu.x + cu.w + 512)
        && (!left || decide (r.x + r.w ≤ limit))
        && bad.all fun q => q.ref != m.ref || !r.meets ⟨q.x, q.y, q.w, q.h⟩

/-! ### CUs and CTUs (R194, R226, R227, R236, R255) -/

/-- Sizes of CUs: quad-tree, from 8 x 8; or QT-MTT, sides from 4. -/
def cuSizeOk (codec x y w h : Nat) : Bool :=
  if codec = 0 then w == h && [8, 16, 32, 64].contains w && x % w == 0 && y % h == 0
  else [4, 8, 16, 32, 64, 128].contains w && [4, 8, 16, 32, 64, 128].contains h

/-- A CU of CTU k, coded in a way (0 normally, 1 in reserve mode, 2 by a reserve path), keeps the rules. -/
def Job.cuOk (j : Job) (bad : List BadRef) (k way : Nat) (cu : Cu) : Bool :=
  let col := j.cols.1 + k
  let hevc := j.g.codec == 0
  let ll := j.lossless ⟨cu.x, cu.y, cu.w, cu.h⟩
  let has (t : Tool) : Bool := cu.tools.contains t
  (Rect.mk cu.x cu.y cu.w cu.h).within (j.ctu k) && cuSizeOk j.g.codec cu.x cu.y cu.w cu.h
    && cu.tools.all (fun t => (usedTools j.g.codec).contains t && !loopFilter t && t != .tiles
      && (!intraTool t || isIntra cu.mode) && (!mergeTool t || isMerge cu.mode) && (!interTool t || cu.mode == .inter))
    && (!(has .affine || has .asymmetric) || !isIntra cu.mode)
    && (has .bypass == (hevc && ll && !has .pcm)) && (has .pcm == (hevc && ll && way == 2))
    && (!ll || hevc || (has .transformSkip && cu.qp == 4 && !has .jointChroma && (way != 2 || cu.mode == .intra 1)))
    && (match cu.mode with
      | .intra m => decide (m < if hevc then 35 else 67) && cu.mvs.isEmpty
      | _ => !j.intra col && !cu.mvs.isEmpty && cu.mvs.all (j.mvOk bad cu))
    && (ll || (if way = 0 then decide (j.t.qpMin ≤ cu.qp) && decide (cu.qp ≤ j.t.qpMax)
      else cu.qp == j.t.qpMax
        && (isMerge cu.mode || (cu.mode == .intra 1 && (j.h.intraCol j.g j.st j.t.frame col || !bad.isEmpty)))))

/-- A CTU keeps the rules: its CUs tile it, and in reserve mode its bits keep to the bound cost (R236, R249). -/
def Job.ctuOk (j : Job) (bad : List BadRef) (k : Nat) (c : Ctu) : Bool :=
  let rs := c.cus.map fun u => Rect.mk u.x u.y u.w u.h
  c.cus.all (j.cuOk bad k c.reserve) && disjoint rs && sumNat (rs.map Rect.area) == (j.ctu k).area && decide (c.reserve < 3)
    && (c.reserve == 0 || decide (c.bits ≤ j.h.ctuFloor j.g j.st j.t.frame j.t.row (j.cols.1 + k)))

/-- The bits of CTUs keep to the budget: a CTU coded normally leaves the floor of those after it, and after one in reserve mode
every one is (R254). -/
def Job.budgetOk (j : Job) : List Ctu → Nat → Nat → Nat → Bool
  | [], _, spent, _ => decide (spent ≤ j.t.budget)
  | c :: rest, k, spent, way =>
    let after := sumNat ((List.range rest.length).map fun i =>
      j.h.ctuFloor j.g j.st j.t.frame j.t.row (j.cols.1 + k + 1 + i))
    decide (way ≤ c.reserve) && (c.reserve != 0 || decide (spent + c.bits + after ≤ j.t.budget))
      && j.budgetOk rest (k + 1) (spent + c.bits) c.reserve

/-- How the row guard and reserve mode bind a task's CTUs (R235, R253): a reserve path codes at least the last CTU of a guarded
task, and all of one that was not running; no other codes by it. -/
def Job.waysOk (j : Job) (whole : Bool) (l : List Ctu) : Bool :=
  (if j.t.guarded then (l.getLast?.any (·.reserve == 2)) && (!whole || l.all (·.reserve == 2)) else l.all (·.reserve != 2))
    && (!j.t.rsv || l.all (·.reserve != 0))

/-! ### Samples (R209, R224, R226) -/

/-- The samples of each component of an area. -/
def rectShape (chroma : Nat) (a : Rect) : List Nat := (planeDivs chroma).map fun (dx, dy) => (a.w / dx) * (a.h / dy)
def ChCfg.shape (g : ChCfg) (a : Rect) : List Nat := rectShape g.chroma a

/-- Flat samples of an area at half of the range. -/
def ChCfg.flat (g : ChCfg) (a : Rect) : List (List Nat) := (g.shape a).map fun n => List.replicate n (2 ^ (depthBits g.depth - 1))

/-- RECON_CRC of samples: the algorithm of R171, component by component, line by line. -/
def planesCrc (p : List (List Nat)) : Nat := crc32c (p.flatMap sampleBytes)

/-- Losslessly coded CUs reproduce the composed samples of the row (R226). -/
def State.exact (s : State) (j : Job) (slot : Nat) (r : Coded) : Bool :=
  let a := j.area
  r.ctus.all fun c => c.cus.all fun u =>
    !j.lossless ⟨u.x, u.y, u.w, u.h⟩ ||
      (List.range r.samples.length).all fun k =>
        let (dx, dy) := (planeDivs j.g.chroma).getD k (1, 1)
        (List.range (u.h / dy)).all fun y => (List.range (u.w / dx)).all fun x =>
          (r.samples.getD k []).getD (((u.y - a.y) / dy + y) * (a.w / dx) + (u.x - a.x) / dx + x) 0
            == s.rowSample j.t.chan slot k (j.st.rect.x + u.x + x * dx) (u.y - a.y + y * dy)

/-- In-loop filters of a slice: those of the codec, and in VVC none where the slice overlaps a lossless region (R226). -/
def Job.filtersOk (j : Job) (l : List Tool) : Bool :=
  l.all (fun t => loopFilter t && (usedTools j.g.codec).contains t) && (j.g.codec == 0 || !j.lossless j.area || l.isEmpty)

/-- A bad block that an engine may report lies in a picture of the reference list. -/
def Job.badOk (j : Job) (l : List BadRef) : Bool := l.all fun q => decide (q.ref < (j.h.refFrames j.g j.t.frame).length)

/-- The bits of a coded slice, slice overhead included. -/
def codedBits (r : Coded) : Nat := r.header + sumNat (r.ctus.map (·.bits))

/-- What a coding engine made of a task keeps every rule; `whole` tells that a reserve path coded all of it. -/
def State.codedOk (s : State) (t : TaskRec) (whole : Bool) (r : Coded) : Bool :=
  match s.job? t with
  | none => false
  | some j =>
    r.ctus.length == j.cols.2 && decide (r.header ≤ boundCost j.g j.h.qpMax 0)
      && (List.range r.ctus.length).all (fun k => j.ctuOk r.bad k (r.ctus.getD k default))
      && j.budgetOk r.ctus 0 r.header 0 && j.waysOk whole r.ctus && j.filtersOk r.filters && j.badOk r.bad
      && r.samples.map List.length == j.g.shape j.area && r.samples.all (·.all fun v => decide (v < 2 ^ depthBits j.g.depth))
      && (match (s.enc.rows.find? fun x => x.chan == t.chan && x.frame == t.frame && x.row == t.crow).bind (·.slot) with
        | some sl => s.exact j sl r
        | none => true)
      && r.nal.length == ceilDiv (codedBits r) 8 && decide (r.ctx.length ≤ 4096)

/-- Words 7 to 11 of a task record (table "Task record"). A lossless CU takes no QP (R255), and does not enter their sum (DEDUCED,
log entry 78). -/
def Job.sum (j : Job) (r : Coded) : TaskSum :=
  let count (p : Ctu → Bool) : Nat := (r.ctus.filter p).length
  let qps := (r.ctus.flatMap (·.cus)).filter fun u => !j.lossless ⟨u.x, u.y, u.w, u.h⟩
  { bits := codedBits r, recon := planesCrc r.samples
    ctuReserve := count (·.reserve != 0), ctuNormal := count (·.reserve == 0)
    ctuSkip := count fun c => c.cus.all (·.mode == .skip), ctuIntra := count fun c => c.cus.any fun u => isIntra u.mode
    sumQp := sumNat (qps.map (·.qp)), cus := qps.length }

/-! ### Reference cistern (R209, R223, R224, R240) -/

/-- The picture of a stream's frame in a cistern, and the area of a task in it. -/
def findPic (l : List RefPic) (frame : Nat) : Option RefPic := l.find? (·.frame == frame)
def RefPic.part? (p : RefPic) (col row : Nat) : Option RefPart := p.parts.find? fun a => a.col == col && a.row == row

/-- The samples of a task's area enter a picture. -/
def putPart (l : List RefPic) (frame : Nat) (x : RefPart) : List RefPic :=
  l.map fun p => if p.frame = frame then
    { p with parts := p.parts.filter (fun a => !(a.col == x.col && a.row == x.row)) ++ [x] } else p

/-- The samples of component k of a whole picture, line by line. -/
def RefPic.plane (p : RefPic) (g : ChCfg) (t : Strm) (tileCols k : Nat) : List Nat :=
  let (dx, dy) := (planeDivs g.chroma).getD k (1, 1)
  (List.range (t.rows g.ctu)).flatMap fun n => (List.range (rowHeight g.ctu t.rect n / dy)).flatMap fun y =>
    (List.range tileCols).flatMap fun c =>
      let w := (tileCol g.ctu t.rect tileCols c).2 / dx
      let l := match p.part? c n with | some a => a.planes.getD k [] | none => []
      (List.range w).map fun x => l.getD (y * w + x) 0

/-- The CRC of a colour component that the decoded picture hash carries (R230): that of H.265 and H.266, polynomial 0x1021 over the
samples in bytes, low byte first where they take two, and 16 zero bits (PRESUMED, log entry 78). -/
def pictureCrc (bits : Nat) (l : List Nat) : Nat :=
  let step (c b : Nat) : Nat := ((c * 2 + b) % 65536) ^^^ (if 32768 ≤ c then 0x1021 else 0)
  let bytes := l.flatMap fun v => if bits ≤ 8 then [v % 256] else [v % 256, v / 256 % 256]
  let fed := bytes.flatMap fun b => (List.range 8).map fun i => b / 2 ^ (7 - i) % 2
  (fed ++ List.replicate 16 0).foldl step 0xFFFF

/-- A stream begins a picture: its cistern holds it and the references, or the one picture before it without references. -/
def Strm.openPic (t : Strm) (g : ChCfg) (frame : Nat) : Strm :=
  { t with refs := ⟨frame, []⟩ :: t.refs.take (if g.struct = 2 then 1 else g.refs) }

/-- The samples that a skip slice reproduces: those of the co-located area of the stream's previous picture, or flat ones from the
intra template (R223 to R225). Those of an area that the cistern does not hold are free (log entry 78). -/
def State.skipSamples (s : State) (j : Job) : List (List Nat) :=
  if j.g.struct = 2 || j.h.firstPic j.t.frame || j.h.picType j.g j.t.frame = .idr then j.g.flat j.area
  else match ((findPic j.st.refs (j.t.frame - j.h.phases)).bind (·.part? j.t.col j.t.row)) with
    | some p => p.planes
    | none => (j.g.shape j.area).map fun n => (List.range n).map fun i => s.freeVal 225 i % 2 ^ depthBits j.g.depth

/-- The skip templates of a stream, for each width of its tile columns and height of its rows (R223, R224): the inter template but
for ALL_INTRA, and the intra template. -/
def Ch.templates (h : Ch) (g : ChCfg) (t : Strm) : List SkipTemplate :=
  let ws := ((List.range h.tileCols).map fun k => (tileCol g.ctu t.rect h.tileCols k).2).eraseDups
  let hs := ((List.range (t.rows g.ctu)).map fun n => rowHeight g.ctu t.rect n).eraseDups
  ws.flatMap fun w => hs.flatMap fun y =>
    let one (intra : Bool) : SkipTemplate :=
      ⟨w, y, intra, h.qpMax, Config.templateBits g.codec g.ctu (ceilDiv w g.ctu) intra, if intra then planesCrc (g.flat ⟨0, 0, w, y⟩) else 0⟩
    (if g.struct = 2 then [] else [one false]) ++ [one true]

/-- The template from which a task's slice is written. -/
def Job.template? (j : Job) : Option SkipTemplate :=
  let intra := j.g.struct == 2 || j.h.firstPic j.t.frame || j.h.picType j.g j.t.frame == .idr
  j.st.templates.find? fun p => p.w == j.area.w && p.h == j.area.h && p.intra == intra

/-- The slice header of a task's slice (R198, R218, R219, R223). -/
def Job.head (j : Job) (filters : Option (List Tool)) (template : Bool) : SliceHead :=
  let f := j.t.frame
  let refs := (j.h.refFrames j.g f).map fun r => r.map j.h.poc
  { pic := j.h.picType j.g f, type := j.h.sliceType j.g f, poc := j.h.poc f, list0 := refs
    list1 := if j.h.sliceType j.g f = .b then refs else []
    address := j.t.row * j.st.cols j.g.ctu + j.cols.1, ctus := j.cols.2
    qp := if template then j.h.qpMax else j.t.qpInit, filters := filters, template := template }

/-- Whether a unit is a slice. -/
def OutUnit.isSlice (x : OutUnit) : Bool := match x.nal with | .slice _ => true | _ => false

/-! ### Decoded samples (R341, R357, R358) -/

/-- The CRCs of the colour components of a picture (R230). -/
def RefPic.hashes (p : RefPic) (g : ChCfg) (t : Strm) (tileCols : Nat) : List Nat :=
  (List.range (planeDivs g.chroma).length).map fun k => pictureCrc (depthBits g.depth) (p.plane g t tileCols k)

/-- A picture is opened in a decoded picture buffer that keeps n earlier ones. -/
def openRef (l : List RefPic) (n frame : Nat) : List RefPic := if l.any (·.frame == frame) then l else ⟨frame, []⟩ :: l.take n

/-- The samples of a task's area in the most recently decoded picture of a buffer but the task's own. -/
def coLocated (l : List RefPic) (t : TaskRec) : Option RefPart :=
  ((l.filter (·.frame != t.frame)).head?).bind (·.part? t.col t.row)

/-- The CTUs that an engine decoded are the first of the task, of their sizes; short of the last only after an error. -/
def Job.decodedOk (j : Job) (r : DecResult) : Bool :=
  decide (r.ctus.length ≤ j.cols.2) && (r.error || r.ctus.length == j.cols.2)
    && (List.range r.ctus.length).all fun k =>
      let c := r.ctus.getD k default
      c.at' == k && c.planes.map List.length == j.g.shape (j.ctu k) && c.planes.all (·.all fun v => decide (v < 2 ^ depthBits j.g.depth))

/-- The samples of the task's area: those decoded, and of the damaged CTUs those of an earlier picture, or flat ones (R358). -/
def Job.decoded (j : Job) (prev : Option RefPart) (l : List DecCtu) : List (List Nat) :=
  let d := planeDivs j.g.chroma
  (List.range d.length).map fun c =>
    let (dx, dy) := d.getD c (1, 1)
    let whole := j.area.w / dx
    (List.range (j.area.h / dy)).flatMap fun y => (List.range j.cols.2).flatMap fun k =>
      let r := j.ctu k
      let w := r.w / dx
      match l[k]?, prev with
      | some u, _ => ((u.planes.getD c []).drop (y * w)).take w
      | none, some p => ((p.planes.getD c []).drop (y * whole + (r.x - j.area.x) / dx)).take w
      | none, none => List.replicate w (2 ^ (depthBits j.g.depth - 1))

end Sys2Proof.Machine
end

