-- ==== Sys2Proof/Machine/Compose.lean ====
section
/-!
DEFINITION. Layer composition (chapter 05 of spec/): sampling and scaling of layers, blending, line buffers, layers
that are not ready, signatures, and the commands of group 0x03 below 0x0340.
-/
namespace Sys2Proof.Machine

/-! ### Lookups -/

/-- The composition of a channel. -/
def State.cc (s : State) (c : Nat) : CompCh := tab s.comp.chans c

/-- A change of a channel's composition. -/
def State.onCc (s : State) (c : Nat) (f : CompCh → CompCh) : State :=
  s.onComp fun x => { x with chans := upd x.chans c f }

/-- A change of one layer. -/
def State.onLayer (s : State) (c l : Nat) (f : Layer → Layer) : State :=
  s.onCc c fun x => { x with layers := upd x.layers l f }

/-- A change of one region. -/
def State.onRegion (s : State) (c r : Nat) (f : Region → Region) : State :=
  s.onCc c fun x => { x with regions := upd x.regions r f }

/-- The band of a composer in a channel: first column and width in pixels (R148). -/
def State.bandOf (s : State) (c cm : Nat) : Option (Nat × Nat) :=
  match (s.ch c).cfg, (composersOf (s.cc c).mask).idxOf? cm with
  | some g, some k =>
    let n := (composersOf (s.cc c).mask).length
    let (x, _) := part g.ctuCols n k
    some (x * g.ctu, g.bandWidth n k)
  | _, _ => none

/-! ### Source samples (R157, R158) -/

/-- A source sample: Y, Cb, Cr in 16 bits, alpha as a numerator, and the greatest alpha. -/
structure Smp where
  y : Nat
  cb : Nat
  cr : Nat
  a : Nat
  amax : Nat
  deriving DecidableEq, Repr, Inhabited

/-- Bits hi:lo of a number. -/
def nfld (n hi lo : Nat) : Nat := n / 2 ^ lo % 2 ^ (hi + 1 - lo)

/-- The layer's fill colour, left-aligned. -/
def Layer.fillSmp (l : Layer) (a amax : Nat) : Smp :=
  ⟨nfld l.fill 9 0 * 64, nfld l.fill 19 10 * 64, nfld l.fill 29 20 * 64, a, amax⟩

/-- A component of a full-range RGB sample of n bits in narrow-range Y'CbCr at 16 bits, by the matrix of ITU-R BT.709 (K_R
0.2126, K_B 0.0722) or of ITU-R BT.2020 (K_R 0.2627, K_B 0.0593); the rounding is free. -/
def rgbComp (bt2020 : Bool) (n k r g b : Nat) : Nat :=
  let kr := if bt2020 then 2627 else 2126
  let kb := if bt2020 then 593 else 722
  let m := 2 ^ n - 1
  let y := kr * r + (10000 - kr - kb) * g + kb * b
  let chroma (c kc : Nat) : Nat :=
    let d := m * (20000 - 2 * kc)
    quot 158 (32768 * d + 57344 * (10000 * c) - 57344 * y) d
  match k with
  | 0 => quot 158 (4096 * (10000 * m) + 56064 * y) (10000 * m)
  | 1 => chroma b kb
  | _ => chroma r kr

/-- A pixel of a source frame of a layer, in the channel's colour space (R157, R158). The used bits of YCBCRA16
follow the channel's depth (DEDUCED, log entry 25). The samples of a decoded picture are the decode engine's and
free. -/
def State.srcSmp (s : State) (l : Layer) (f : SrcFrame) (depth x y : Nat) : Smp :=
  let rgb (n r g b a amax : Nat) : Smp :=
    ⟨rgbComp l.bt2020 n 0 r g b, rgbComp l.bt2020 n 1 r g b, rgbComp l.bt2020 n 2 r g b, a, amax⟩
  if l.source = 1 then
    let p := ((tab s.dec.feeds l.srcId).bufs.getD f.buf {}).pic
    let v (k : Nat) : Nat :=
      let (dx, dy) := (planeDivs p.sps.chroma).getD k (1, 1)
      (if x % dx = 0 && y % dy = 0 then p.sample k (x / dx) (y / dy) else Config.resample 8 k x y [l.srcId, f.num] % 1024) * 64
    ⟨v 0, v 1, v 2, 1, 1⟩
  else match s.surf? l.srcId with
  | none => ⟨0, 0, 0, 0, 1⟩
  | some sf =>
    let p := leNat (Mem.readN s.mem.gddr (sf.pixAddr l.srcId f.buf x y) (pixBytes sf.format))
    let wide (p n : Nat) : Smp :=
      let sc := 2 ^ (16 - n)
      ⟨nfld p 15 0 % 2 ^ n * sc, nfld p 31 16 % 2 ^ n * sc, nfld p 47 32 % 2 ^ n * sc, nfld p 63 48 % 2 ^ n, 2 ^ n - 1⟩
    match l.format with
    | 0x01 => ⟨nfld p 7 0 * 256, nfld p 15 8 * 256, nfld p 23 16 * 256, nfld p 31 24, 255⟩
    | 0x02 => wide p (if depth = 12 then 12 else 10)
    | 0x03 => rgb 8 (nfld p 7 0) (nfld p 15 8) (nfld p 23 16) (nfld p 31 24) 255
    | 0x04 => rgb 10 (nfld p 9 0) (nfld p 19 10) (nfld p 29 20) (nfld p 31 30) 3
    | 0x05 => l.fillSmp p 255
    | _ => wide (leNat (Mem.readN s.mem.gddr (bufAddr l.srcId f.buf + 8 * p) 8)) 10

/-- A component of a sample: 0 to 2 the colour, 3 alpha. -/
def Smp.comp (m : Smp) : Nat → Nat
  | 0 => m.y
  | 1 => m.cb
  | 2 => m.cr
  | _ => m.a

/-! ### Scaling (R159 to R161) -/

/-- sin(pi i / 256) x 2^60 for i from 0 to 256, by its series. -/
def sinPi (i : Nat) : Nat :=
  let t := 3622009729038561421 * (if 128 < i then 256 - i else i) / 256
  ((List.range 12).foldl (fun ((sum, term) : Int × Int) j =>
    (sum + term, -(term * (t * t : Nat) / (2 ^ 120 : Nat) / ((2 * j + 2) * (2 * j + 3) : Nat)))) (0, (t : Int))).1.toNat

/-- A tap of the Lanczos window with a = taps / 2 at a phase other than 0, but for a factor that all taps of the phase share:
sin(pi x) has the same size at all of them. -/
def lanczosTap (taps phase k : Nat) : Int :=
  let j : Int := (k : Int) - ((taps / 2 - 1 : Nat) : Int)
  let n : Int := 64 * j - phase
  let m := n.natAbs
  let v : Int := ((sinPi (8 * m / taps) * 2 ^ 40 / (m * m) : Nat) : Int)
  if (j % 2 = 0) == decide (n < 0) then v else -v

/-- The coefficients of a phase, normalised to a sum of 1,024: each is the exact one rounded down or up; which are rounded up
is free (R160). -/
def lanczos (taps phase k : Nat) : Int :=
  if phase = 0 then (if k = taps / 2 - 1 then 1024 else 0)
  else
    let w := (List.range taps).map (lanczosTap taps phase)
    let sum := w.foldl (· + ·) 0
    let low (v : Int) : Int := 1024 * v / sum
    let up := 1024 - (w.map low).foldl (· + ·) 0
    let key := Config.lanczosOrder taps phase
    let rank := ((List.range taps).filter fun j => decide (key j < key k) || (key j == key k && decide (j < k))).length
    low (w.getD k 0) + (if (rank : Int) < up then 1 else 0)

/-- The taps of a destination sample in one axis: source positions within 0 to size - 1, with their coefficients;
without scaling or with point sampling one position of weight 1. -/
def axisTaps (size dst d taps : Nat) (point : Bool) : List (Nat × Int) :=
  if size = dst then [(d, 1)]
  else if point then [(min (size - 1) ((2 * d + 1) * size / (2 * dst)), 1)]
  else
    -- position x 64, rounded half up: ((2d + 1) size - dst) / (2 dst)
    let num : Int := 64 * (((2 * d + 1) * size : Nat) - (dst : Int)) + dst
    let pos : Int := num / ((2 * dst : Nat) : Int)
    let base := pos / 64
    let phase := (pos % 64).toNat
    (List.range taps).map fun (k : Nat) =>
      let p : Int := base + (k : Int) - ((taps / 2 - 1 : Nat) : Int)
      ((min (max p 0) ((size : Int) - 1)).toNat, lanczos taps phase k)

/-- The weight sum of a tap list: 1,024 for a filter. -/
def tapWeight (size dst : Nat) (point : Bool) : Nat := if size = dst || point then 1 else 1024

/-- What a layer draws at a picture position: its colour, alpha numerator and denominators exactly, before blending;
none where it does not cover the position. -/
structure Drawn where
  /-- Y, Cb, Cr and alpha numerators over `w`; alpha is further over `amax`. -/
  v : List Nat
  w : Nat
  amax : Nat
  deriving DecidableEq, Repr, Inhabited

/-- The sample of a layer at picture position (x, y) (R159 to R161). -/
def State.drawn? (s : State) (l : Layer) (depth x y : Nat) : Option Drawn :=
  let dx : Int := (x : Int) - l.dstX
  let dy : Int := (y : Int) - l.dstY
  if dx < 0 || dy < 0 || (l.dstW : Int) ≤ dx || (l.dstH : Int) ≤ dy then none
  else if l.source = 2 then
    let m := l.fillSmp 1 1
    some ⟨[m.y, m.cb, m.cr, 1], 1, 1⟩
  else match l.latched with
  | none => none
  | some f =>
    let sw := if l.src.w = 0 then f.w else l.src.w
    let sh := if l.src.h = 0 then f.h else l.src.h
    let point := l.vPoint || l.point
    let hs := axisTaps sw l.dstW dx.toNat 8 false
    let vs := axisTaps sh l.dstH dy.toNat 4 point
    let w := tapWeight sw l.dstW false * tapWeight sh l.dstH point
    let tap (px py : Nat) : Smp := s.srcSmp l f depth (min (f.w - 1) (l.src.x + px)) (min (f.h - 1) (l.src.y + py))
    let amax := (tap 0 0).amax
    let sum (k : Nat) : Int :=
      vs.foldl (fun a (py, cv) => hs.foldl (fun a (px, ch) => a + cv * ch * ((tap px py).comp k : Nat)) a) 0
    let lim (k : Nat) : Int := if k = 3 then ((amax * w : Nat) : Int) else ((65535 * w : Nat) : Int)
    some ⟨(List.range 4).map fun k => (max 0 (min (sum k) (lim k))).toNat, w, amax⟩

/-! ### Blending (R162, R163) -/

/-- n / d rounded half up, for a signed numerator, clamped to 16 bits. -/
def roundClamp (n : Int) (d : Nat) : Nat :=
  (max 0 (min ((2 * n + d) / ((2 * d : Nat) : Int)) 65535)).toNat

/-- D' of one component (table "Blend modes"). -/
def blend (l : Layer) (m : Drawn) (k d : Nat) : Nat :=
  let sv : Int := m.v.getD k 0
  if l.blend = 2 then roundClamp sv m.w
  else
    -- alpha = an / ad
    let an : Int := (m.v.getD 3 0 * l.galpha : Nat)
    let ad : Nat := m.w * m.amax * 1023
    let den := ad * m.w
    let black : Int := if k = 0 then 4096 else 32768
    if l.blend = 1 then roundClamp ((d : Int) * den + an * (sv - black * m.w)) den
    else if l.premul then
      roundClamp ((l.galpha : Int) * sv * (ad / 1023 : Nat) + ((ad : Int) - an) * d * m.w) den
    else roundClamp (an * sv + ((ad : Int) - an) * d * m.w) den

/-- Whether a layer draws at all in this frame. -/
def Layer.shows (l : Layer) : Bool := l.on && !l.transparent && (l.source == 2 || l.latched.isSome)

/-- Whether a PROTECT_MASK region holds a position. -/
def CompCh.masked (cc : CompCh) (x y : Nat) : Bool :=
  cc.regions.any fun r =>
    r.kind == 1 && decide (r.rect.x ≤ x) && decide (x < r.rect.x + r.rect.w)
      && decide (r.rect.y ≤ y) && decide (y < r.rect.y + r.rect.h)

/-- The composed value of a component at a picture position, from the camera sample (R162, R163). -/
def State.composed (s : State) (c depth k x y cam : Nat) : Nat :=
  let cc := s.cc c
  let d0 := cam * 2 ^ (16 - depth)
  let v := if cc.masked x y then d0
    else ((List.range 8).zip cc.layers).foldl (fun d (i, l) =>
      if i = 0 || !l.shows then d
      else match s.drawn? l depth x y with
      | none => d
      | some m => blend l m k d) d0
  min (2 ^ depth - 1) ((v + 2 ^ (15 - depth)) / 2 ^ (16 - depth))

/-- A layer's own value at the channel's depth, and its alpha x 1,023 rounded (R171). -/
def Drawn.value (m : Drawn) (depth k : Nat) : Nat :=
  min (2 ^ depth - 1) (roundDiv (m.v.getD k 0) (m.w * 2 ^ (16 - depth)))
def Drawn.alpha (l : Layer) (m : Drawn) : Nat := roundDiv (m.v.getD 3 0 * l.galpha) (m.w * m.amax)

/-! ### COMPOSE_LINE (R150, R151, R171) -/

/-- Lines of a row that a composer has composed. -/
def RowRec.done (x : RowRec) (cm : Nat) : Nat := (alookup x.composed cm).getD 0

/-- Blocks that a composer has written of its line in progress (R152). -/
def RowRec.blocksOf (x : RowRec) (cm : Nat) : Nat := (alookup x.blocksDone cm).getD 0

/-- The height of a channel row. -/
def ChCfg.rowLines (g : ChCfg) (row : Nat) : Nat := min g.ctu (g.height - row * g.ctu)

/-- Lines of a row that stand in its slot and may be composed (R150). -/
def State.linesReady (s : State) (g : ChCfg) (x : RowRec) : Nat :=
  match s.feed x.chan with
  | some (p, _) =>
    if p.rotate = 0 then x.wrote
    else if x.capT.isSome && decide (x.start ≤ s.now) then g.rowLines x.row else 0
  | none => 0

/-- A row's composition deadline S + T_row; before S is known, the predicted S stands in. -/
def State.composeDeadline (s : State) (x : RowRec) : Nat :=
  (if x.capT.isSome then x.start else (s.predictStart x.chan x.frame x.row).getD 0) + s.tRowU x.chan

/-- Whether a row is composed at all: composition was on before its deadline. -/
def State.composes (s : State) (x : RowRec) : Bool :=
  (s.cc x.chan).on && decide ((s.cc x.chan).since < s.composeDeadline x)

/-- The rows on which a composer can compose a line now. -/
def State.composable (s : State) (cm : Nat) : List RowRec :=
  s.enc.rows.filter fun x =>
    s.composes x && (s.bandOf x.chan cm).isSome && x.slot.isSome && !x.skip && !x.abandoned
      && match (s.ch x.chan).cfg with
        | some g => decide (x.done cm < s.linesReady g x)
        | none => false

/-- The samples that a line of a frame adds to a region's signatures over some columns: before and after composition. -/
def regionParts (s : State) (c frame depth y x0 w : Nat) (divs : List (Nat × Nat)) (cam comp : List (List Nat))
    (r : Region) : List SigPart :=
  let lo := max x0 r.rect.x
  let hi := min (x0 + w) (r.rect.x + r.rect.w)
  if r.kind = 0 || frame < r.since || y < r.rect.y || r.rect.y + r.rect.h ≤ y || hi ≤ lo then []
  else
    let cut (k dx : Nat) (l : List (List Nat)) : List Nat :=
      ((l.getD k []).drop ((lo - x0) / dx)).take ((hi - lo) / dx)
    let planes := (List.range divs.length).zip divs
    if r.kind = 3 then
      let l := tab (s.cc c).layers r.layer
      let px (dx : Nat) (f : Drawn → Nat) : List Nat :=
        (List.range ((hi - lo) / dx)).map fun i =>
          match s.drawn? l depth (lo + dx * i) y with
          | some m => f m
          | none => 0
      (planes.filterMap fun (k, dx, dy) =>
        if y % dy = 0 then some ⟨frame, k, y, lo, px dx fun m => m.value depth k⟩ else none)
        ++ [⟨frame, 3, y, lo, px 1 fun m => m.alpha l⟩]
    else planes.flatMap fun (k, dx, dy) =>
      if y % dy = 0 then [⟨frame, k, y, lo, cut k dx comp⟩, ⟨frame, 4 + k, y, lo, cut k dx cam⟩] else []

/-- A composer writes the next blocks of the next line of a row, in place; its last block ends the line. Blocks are counted
from the first column of the band (DEDUCED, log entry 76). -/
def State.composeLine (s : State) (cm blocks : Nat) (x : RowRec) : State :=
  match (s.ch x.chan).cfg, s.bandOf x.chan cm, x.slot with
  | some g, some (xb, wb), some sl =>
    let c := x.chan
    let b := x.blocksOf cm
    let x0 := xb + 64 * b
    let ends := decide (ceilDiv wb 64 ≤ b + blocks)
    let w := if ends then wb - 64 * b else 64 * blocks
    let depth := depthBits g.depth
    let n := x.done cm
    let y := x.row * g.ctu + n
    let divs := planeDivs g.chroma
    let planes := (List.range divs.length).zip divs
    let cols (dx : Nat) : List Nat := (List.range (w / dx)).map fun i => x0 + dx * i
    let cam := planes.map fun (k, dx, dy) =>
      if y % dy = 0 then (cols dx).map fun px => s.rowSample c sl k px n else []
    let comp := (planes.zip cam).map fun ((k, dx, _), l) =>
      ((cols dx).zip l).map fun (px, v) => s.composed c depth k px y v
    let parts := (s.cc c).regions.map (regionParts s c x.frame depth y x0 w divs cam comp)
    let s := (planes.zip comp).foldl (fun s ((k, dx, _), l) =>
      s.onMem fun m => { m with gddr := Mem.writeAll m.gddr (s.rowAddr c sl k n + 2 * (x0 / dx)) (sampleBytes l) }) s
    let s := s.onCc c fun cc =>
      { cc with regions := (cc.regions.zip parts).map fun (r, p) => { r with acc := r.acc ++ p } }
    let s := s.onRow c x.frame x.row fun x =>
      if ends then { x with composed := aset x.composed cm (n + 1), blocksDone := adel x.blocksDone cm }
      else { x with blocksDone := aset x.blocksDone cm (b + blocks) }
    let all := (composersOf (s.cc c).mask).all fun k =>
      (s.row? c x.frame x.row).any fun x => x.done k == g.rowLines x.row
    let s := if b = 0 then s.onComp fun v => { v with ptrs := upd v.ptrs cm fun _ => (c + 1) % 16 } else s
    if all then s.onRow c x.frame x.row fun x => { x with composedAt := some s.clk } else s
  | _, _, _ => s

/-- COMPOSE_LINE: a composer writes some blocks of its line; having ended one, it takes the line of the row with the
earliest deadline, R37 over channels deciding among equals (R151, R152). -/
def execComposeLine (wait : Nat) (turn : ComposeTurn) (s : State) : Host.Outcome State Fault Refusal :=
  let s := (s.pass wait).turnRows
  let l := s.composable turn.composer
  match l.find? (fun x => x.blocksOf turn.composer != 0) with
  | some x => .next (s.composeLine turn.composer turn.blocks x)
  | none =>
  match minBy (fun x => s.composeDeadline x) l with
  | none => .next s
  | some first =>
    let d := s.composeDeadline first
    let same := l.filter fun x => s.composeDeadline x == d
    match minBy (fun x : RowRec => (x.chan + 16 - tab s.comp.ptrs turn.composer) % 16) same with
    | none => .next s
    | some x => .next (s.composeLine turn.composer turn.blocks x)

/-- COMPOSE_DEADLINE: at S + T_row a row that is not composed is abandoned with COMP:0x04 (R152). -/
def execComposeDeadline (s : State) : Host.Outcome State Fault Refusal :=
  let l := s.enc.rows.filter fun x =>
    s.composes x && x.slot.isSome && x.capT.isSome && !x.skip && !x.abandoned && x.composedAt.isNone
  match minBy (fun x => s.composeDeadline x) l with
  | none => .next s
  | some x =>
    let s := (s.toTime (s.composeDeadline x)).turnRows
    let s := s.onRow x.chan x.frame x.row fun x => { x with abandoned := true }
    .next ((s.onCc x.chan fun c => { c with abandoned := c.abandoned + 1 }).raise 0x03 0x04 0 x.chan)

/-! ### Line buffers (R164, R165) -/

/-- The line buffer of a layer on a composer for a source size, bytes (R164); the source columns that map into the
band are those of its share of the destination, rounded up (DEDUCED, log entry 26). -/
def State.lineBuffer (s : State) (c cm : Nat) (l : Layer) (sw sh : Nat) : Nat :=
  if !l.on || l.vPoint || l.source = 2 || sh = l.dstH || sw = 0 || sh = 0 then 0
  else match (s.ch c).cfg, s.bandOf c cm with
  | some g, some (x0, w) =>
    let lo := max (x0 : Int) (max l.dstX 0)
    let hi := min ((x0 + w : Nat) : Int) (l.dstX + l.dstW)
    if hi ≤ lo then 0
    else
      let cols := ceilDiv ((hi - lo).toNat * sw) l.dstW
      let left := if l.dstX < lo then 4 else 0
      let right := if hi < l.dstX + l.dstW then 4 else 0
      ceilDiv ((ceilDiv (g.ctu * sh) l.dstH + 3) * (cols + left + right) * 6) 4096 * 4096
  | _, _ => 0

/-- The line buffers of a layer on the four composers. -/
def State.lineBuffers (s : State) (c : Nat) (l : Layer) (sw sh : Nat) : List Nat :=
  (List.range 4).map fun cm => s.lineBuffer c cm l sw sh

/-- Every composer's reservations keep to 2 MiB (R164). -/
def State.buffersOk (s : State) : Bool :=
  (List.range 4).all fun cm =>
    (s.comp.chans.foldl (fun n cc => cc.layers.foldl (fun n l => n + if l.on then tab l.lb cm else 0) n) 0)
      ≤ 2097152

/-- The source size of a layer that a staging sees: the configured one, or the current frame of the source. -/
def State.stagedSize (s : State) (l : Layer) : Nat × Nat :=
  let cur : Nat × Nat :=
    if l.source = 0 then (match s.surf? l.srcId with | some f => (f.w, f.h) | none => (0, 0))
    else if l.source = 1 then ((tab s.dec.feeds l.srcId).w, (tab s.dec.feeds l.srcId).h)
    else (l.dstW, l.dstH)
  (if l.src.w = 0 then cur.1 else l.src.w, if l.src.h = 0 then cur.2 else l.src.h)

/-- A channel's line buffers are reserved for its present configuration. -/
def State.reserveLines (s : State) (c : Nat) : State :=
  s.onCc c fun x => { x with layers := x.layers.map fun l =>
    let (w, h) := s.stagedSize l
    { l with lb := s.lineBuffers c l w h } }

/-! ### Layers at a frame boundary (R165 to R170) -/

/-- The newest complete frame of a layer's source that it can take, with the device time of its completion. -/
def State.newestFrame (s : State) (l : Layer) : Option (SrcFrame × Nat) :=
  if l.source = 0 then
    match s.surf? l.srcId with
    | some f => if f.published then some (⟨f.w, f.h, f.p, f.count.toNat⟩, f.pubT) else none
    | none => none
  else if l.source = 1 then
    let bufs := (List.range 8).zip (tab s.dec.feeds l.srcId).bufs
    let ok := bufs.filter fun (_, b) => b.full && (b.chroma == 1 || b.chroma == 2) && decide (b.w ≤ 8192) && decide (b.h ≤ 8192)
    (ok.foldl (fun (m : Option (Nat × OutBuf)) p =>
      match m with
      | some q => if q.2.num < p.2.num then some p else m
      | none => some p) none).map fun (i, b) => (⟨b.w, b.h, i, b.num⟩, b.t)
  else none

/-- The state code of a layer (table "Composition events"). -/
def Layer.code (l : Layer) : Nat :=
  if l.transparent || (l.source != 2 && l.latched.isNone) then 2 else if l.notReady = 0 then 0 else 1

/-- COMP_LAYER of a layer. -/
def State.layerEvt (s : State) (c i frame : Nat) : State :=
  let l := tab (s.cc c).layers i
  s.event 0x0301 c (chanVec c) [i + at' l.code 4 + at' (b01 l.point) 8, l.notReady, frame]

/-- A layer latches at a frame boundary of its channel, or is not ready (R165 to R169). -/
def State.latchLayer (s : State) (c frame i : Nat) : State :=
  let l := tab (s.cc c).layers i
  if !l.on || l.source = 2 then s
  else
    let new := s.newestFrame l
    let fresh := match new, l.latched with
      | some (f, _), some o => f.num != o.num || f.buf != o.buf
      | some _, none => true
      | none, _ => false
    let latched := if fresh then new.map (·.1) else l.latched
    let recent : Bool := match new, (s.ch c).cfg with
      | some (_, t), some g => (Q.mk (s.now - t) 1).lt (g.framePer.mul ⟨l.expect, 1⟩)
      | _, _ => false
    let ready := latched.isSome && (l.expect == 0 || recent)
    let was := l.notReady
    let s := s.onLayer c i fun l =>
      { l with latched := latched
               held := if !fresh then l.held else if l.source = 0 then latched.map fun f => (l.srcId, f.buf) else none }
    -- the line buffer against the frame latched (R165)
    let s := match latched with
      | none => s
      | some f =>
        let need := s.lineBuffers c l (if l.src.w = 0 then f.w else l.src.w) (if l.src.h = 0 then f.h else l.src.h)
        let short := (List.range 4).any fun cm => tab l.lb cm < tab need cm
        if short && !l.point then (s.onLayer c i fun l => { l with point := true }).raiseOn 0x03 0x03 i c
        else if !short && l.point then (s.onLayer c i fun l => { l with point := false }).causeOff 0x03 0x03 i c
        else s
    if ready then
      let s := s.onLayer c i fun l => { l with notReady := 0, transparent := false }
      let s := if l.transparent then s.causeOff 0x03 0x02 i c else s
      if was = 0 then s else s.layerEvt c i frame
    else
      let n := was + 1
      let gone := latched.isNone || (l.hold != 255 && decide (l.hold + 1 ≤ n))
      let s := s.onLayer c i fun l => { l with notReady := n, transparent := gone }
      let s := if was = 0 then s.raise 0x03 0x01 i c else s
      let s := if gone && !l.transparent then s.raiseOn 0x03 0x02 i c else s
      s.layerEvt c i frame

/-- Every layer of a channel latches at its frame boundary, and its regions begin the frame. -/
def State.latchLayers (s : State) (c frame : Nat) : State :=
  if !(s.cc c).on then s
  else
    let s := [1, 2, 3, 4, 5, 6, 7].foldl (fun s i => s.latchLayer c frame i) s
    s.onCc c fun cc => { cc with regions := cc.regions.map fun r =>
      if r.kind = 0 || frame < r.since then r
      else { r with frames := r.frames ++ [(frame, r.kind == 3 && !(tab cc.layers r.layer).shows)] } }

/-! ### Signatures (R171 to R175) -/

/-- The signature of the planes of a region in a frame: CRC-32C over their samples as 16-bit little-endian words. -/
def Region.sign (r : Region) (frame lo hi : Nat) : Nat :=
  let l := r.acc.filter fun p => p.frame == frame && decide (lo ≤ p.plane) && decide (p.plane ≤ hi)
  crc32c ((sortBy (·.plane) (sortBy (·.y) (sortBy (·.x) l))).flatMap fun p => sampleBytes p.vals)

/-- The channel rows that a region covers. -/
def Region.rows (r : Region) (u : Nat) : List Nat :=
  (List.range ((r.rect.y + r.rect.h + u - 1) / u)).filter fun n => r.rect.y / u ≤ n

/-- Whether a row no longer waits for composition, and whether it spoils a comparison (R174). -/
def RowRec.settled (x : RowRec) : Bool := x.composedAt.isSome || x.abandoned || x.skip
def RowRec.spoilt (x : RowRec) : Bool := x.abandoned || x.skip

/-- The regions whose last row is settled, with the core clock at which they are due. -/
def State.regionsDue (s : State) : List (Nat × Nat × Nat) :=
  (List.range 16).flatMap fun c =>
    match (s.ch c).cfg, (s.cc c).on with
    | some g, true =>
      ((List.range 8).zip (s.cc c).regions).filterMap fun (i, r) =>
        match r.kind, r.frames with
        | 0, _ => none
        | _, [] => none
        | _, (f, _) :: _ =>
          let rows := (r.rows g.ctu).map fun n => s.row? c f n
          if rows.all fun x => x.any (·.settled) then
            some (c, i, (rows.foldl (fun t x => max t ((x.bind (·.composedAt)).getD 0)) 0) + 1)
          else none
    | _, _ => []

/-- COMP_SIGNATURE (table "Composition events"). -/
def State.sigEvt (s : State) (c i result sig ref frame : Nat) : State :=
  let r := tab (s.cc c).regions i
  s.event 0x0302 c (chanVec c) [i + at' r.kind 8 + at' result 16, sig, ref, frame]

/-- A region's signatures of a frame are compared (R173 to R175). -/
def State.compareRegion (s : State) (c i : Nat) : State :=
  let r := tab (s.cc c).regions i
  match (s.ch c).cfg, r.frames with
  | some g, (f, hidden) :: rest =>
    let spoilt := (r.rows g.ctu).any fun n => (s.row? c f n).any (·.spoilt)
    let sig := r.sign f 0 3
    let s := s.onRegion c i fun r => { r with frames := rest, acc := r.acc.filter fun p => f < p.frame }
    if hidden then s
    else if spoilt then s.sigEvt c i 1 sig (if r.kind = 3 then r.ref.toNat else r.sign f 4 6) f
    else
      let s := s.onRegion c i fun r => { r with last := w32 sig, lastFrame := f }
      let miss (s : State) (code ref : Nat) : State :=
        ((s.onRegion c i fun r => { r with mismatches := r.mismatches + 1 }).raise 0x03 code i c).sigEvt c i 0 sig ref f
      if r.kind = 3 then
        if r.mode = 0 then s
        else if r.mode = 2 && !r.refHeld then
          (s.onRegion c i fun r => { r with ref := w32 sig, refHeld := true }).sigEvt c i 2 sig sig f
        else if sig = r.ref.toNat then s else miss s 0x07 r.ref.toNat
      else
        let own := r.sign f 4 6
        let s := s.onRegion c i fun r => { r with ref := w32 own }
        if sig = own then s else miss s (if r.kind = 1 then 0x06 else 0x05) own
  | _, _ => s

/-- SIGNATURE_COMPARE: in the clock after its last row is composed a region is compared (R172). -/
def execSignatureCompare (s : State) : Host.Outcome State Fault Refusal :=
  match minBy (fun p => p.2.2) s.regionsDue with
  | none => .next s
  | some (c, i, k) => .next ((s.toClk k).compareRegion c i)

/-! ### Commands -/

/-- Commands for a running channel must carry STAGE (R176). -/
def compNeedStage (c : Vx) (s : State) : Bool := s.runs (fld (c.w 2) 3 0)

/-- COMP_CONFIG (0x0300; R148, R149, R154). -/
def hCompConfig (c : Vx) (s : State) : Res :=
  let ch := fld (c.w 2) 3 0
  let mask := fld (c.w 2) 11 8
  let on := bit (c.w 2) 16
  refuseRsv c [(2, msk 16 16 + msk 11 8 + msk 3 0)] <|
  refuse (on && mask == 0) .badParam 2 <|
  let s' := s.onCc ch fun x => { x with on := on, mask := mask, since := if on && !x.on then s.now else x.since }
  let s' := s'.reserveLines ch
  refuse (!s'.buffersOk) .noResource noWord <|
  admitted false [ch] s' fun s =>
    let load (cm : Nat) : Nat :=
      if nbit mask cm then ((s.composerLoad cm).mul ⟨1, 1000000⟩).quot 149 else 0
    .ok [load 0 + at' (load 1) 16, load 2 + at' (load 3) 16] s

/-- Whether a scale ratio src/dst lies outside 1/8 to 8 (R159). -/
def badRatio (src dst : Nat) : Bool := src != 0 && (decide (8 * dst < src) || decide (8 * src < dst))

/-- LAYER_CONFIG (0x0301; R155 to R165, R169). -/
def hLayerConfig (c : Vx) (s : State) : Res :=
  let w2 := c.w 2
  let ch := fld w2 3 0
  let i := fld w2 6 4
  let fmt := fld w2 14 11
  let source := fld w2 10 9
  let id := fld (c.w 4) 31 16
  let old := tab (s.cc ch).layers i
  let l : Layer :=
    { old with
      on := bit w2 8, hold := fld w2 31 24, expect := fld w2 23 20, vPoint := bit w2 19, bt2020 := bit w2 18
      premul := bit w2 17, blend := fld w2 16 15, format := fmt, source := source, galpha := fld (c.w 3) 9 0
      srcId := id, src := ⟨fld (c.w 5) 15 0, fld (c.w 5) 31 16, fld (c.w 6) 15 0, fld (c.w 6) 31 16⟩
      dstX := half c 7 false, dstY := half c 7 true, dstW := fld (c.w 8) 15 0, dstH := fld (c.w 8) 31 16
      fill := fld (c.w 9) 29 0, point := false }
  -- another source starts without a frame and with its count reset (R169)
  let l := if old.source = source && old.srcId = id && old.on then l
    else { l with latched := none, notReady := 0, transparent := false }
  refuseRsv c [(2, msk 31 8 + msk 6 0), (3, msk 9 0), (4, msk 31 16), (9, msk 29 0)] <|
  refuse (i == 0 || source == 3 || l.blend == 3) .badParam 2 <|
  refuse (source == 0 && (fmt == 0 || decide (6 < fmt))) .badParam 2 <|
  refuse (source == 1 && fmt != 7 && fmt != 8) .badParam 2 <|
  refuse ((source == 0 && decide (255 < id)) || (source == 1 && decide (7 < id))) .badParam 4 <|
  refuse (l.dstW == 0 || l.dstH == 0 || decide (16384 < l.dstW) || decide (16384 < l.dstH)) .badParam 8 <|
  let (sw, sh) := s.stagedSize l
  refuse (source != 2 && (badRatio sw l.dstW || badRatio sh l.dstH)) .badParam noWord <|
  refuse (l.on && source == 0 && match s.surf? id with | some f => f.format != fmt | none => true) .badParam 4 <|
  let l := { l with lb := s.lineBuffers ch l sw sh }
  let s' := (s.onLayer ch i fun _ => l).causeOff 0x03 0x03 i ch
  let s' := if l.notReady = 0 then s'.causeOff 0x03 0x02 i ch else s'
  refuse (!s'.buffersOk) .noResource noWord <|
  admitted false [ch] s' fun s => .ok [l.lb.foldl (· + ·) 0] s

/-- COMP_QUERY (0x0302): rows abandoned since the last query. -/
def hCompQuery (c : Vx) (s : State) : Res :=
  let ch := fld (c.w 2) 3 0
  refuseRsv c [(2, msk 3 0)] <|
  let words := [1, 2, 3, 4, 5, 6, 7].map fun i =>
    let l := tab (s.cc ch).layers i
    (if l.on then l.code else 3) + at' (b01 l.point) 2 + at' (min 255 l.notReady) 8
      + at' ((match l.latched with | some f => f.w | none => 0) / 8) 16
  .ok (words ++ [(s.cc ch).abandoned.toNat]) (s.onCc ch fun x => { x with abandoned := 0 })

/-- SIG_CONFIG (0x0310; R171, R175). -/
def hSigConfig (c : Vx) (s : State) : Res :=
  let w2 := c.w 2
  let ch := fld w2 3 0
  let kind := fld w2 9 8
  let mode := fld w2 11 10
  let r : Rect := ⟨fld (c.w 3) 15 0, fld (c.w 3) 31 16, fld (c.w 4) 15 0, fld (c.w 4) 31 16⟩
  let l := tab (s.cc ch).layers (fld w2 14 12)
  refuseRsv c [(2, msk 14 8 + msk 6 0)] <|
  refuse (kind == 3 && (mode == 3 || fld w2 14 12 == 0)) .badParam 2 <|
  refuse (kind != 0 && (r.x % 2 != 0 || r.y % 2 != 0)) .badParam 3 <|
  refuse (kind != 0 && (r.w % 2 != 0 || r.h % 2 != 0 || decide (r.w < 2) || decide (r.h < 2))) .badParam 4 <|
  refuse (kind != 0 && match (s.ch ch).cfg with
    | some g => decide (g.width < r.x + r.w) || decide (g.height < r.y + r.h)
    | none => false) .badParam noWord <|
  refuse (kind == 3 && (decide ((r.x : Int) < l.dstX) || decide ((r.y : Int) < l.dstY)
    || decide (l.dstX + l.dstW < ((r.x + r.w : Nat) : Int)) || decide (l.dstY + l.dstH < ((r.y + r.h : Nat) : Int))))
    .badParam noWord <|
  -- a frame of which a covered line is composed already is not seen whole
  let begun := s.enc.rows.filter fun x => x.chan == ch && (!x.composed.isEmpty || !x.blocksDone.isEmpty)
  .ok [] (s.onRegion ch (fld w2 6 4) fun _ =>
    { kind := kind, since := begun.foldl (fun n x => max n (x.frame + 1)) 0, mode := mode, layer := fld w2 14 12
      rect := r, ref := if mode = 1 then c.w 5 else 0
      refHeld := mode == 1 })

/-- SIG_QUERY (0x0311). -/
def hSigQuery (c : Vx) (s : State) : Res :=
  refuseRsv c [(2, msk 6 0)] <|
  let r := tab (s.cc (fld (c.w 2) 3 0)).regions (fld (c.w 2) 6 4)
  .ok [r.last.toNat, r.ref.toNat, r.lastFrame, r.mismatches.toNat] s

end Sys2Proof.Machine
end

