-- ==== Sys2Proof/Machine/Operands.lean ====
section
/-!
DEFINITION. The operand forms of dipper instructions (R314), their arithmetic (R315, R316), and the control flow of
the sequencer: registers, data window, loops.
-/
namespace Sys2Proof.Machine

/-! ### Instruction words (R314) -/

/-- OPCODE of an instruction word. -/
def opOf (w : Word) : Nat := fld w 31 26
/-- rd in formats R, I, P and W; ra in format B. -/
def rdOf (w : Word) : Nat := fld w 25 22
/-- ra in formats R and I; rb in format B. -/
def raOf (w : Word) : Nat := fld w 21 18
/-- rb in format R. -/
def rbOf (w : Word) : Nat := fld w 17 14
/-- IMM of format I, zero-extended. -/
def immU (w : Word) : Word := w32 (fld w 17 0)
/-- IMM of format I, sign-extended. -/
def immS (w : Word) : Word := w32 (if fld w 17 17 = 1 then fld w 17 0 + 0xFFFC0000 else fld w 17 0)
/-- PORT of format P. -/
def portOf (w : Word) : Nat := fld w 7 0
/-- COND and OFF of format B. -/
def condOf (w : Word) : Nat := fld w 17 15
def offOf (w : Word) : Nat := fld w 9 0
/-- COUNT of format L, 0 meaning 1,024; MAX of format LR likewise; LEN of both. -/
def countOf (w : Word) : Nat := if fld w 25 16 = 0 then 1024 else fld w 25 16
def maxOf (w : Word) : Nat := if fld w 21 12 = 0 then 1024 else fld w 21 12
def lenOf (w : Word) : Nat := fld w 9 0
/-- OFF of format C, signed. -/
def callOff (w : Word) : Int := sgn16 (fld w 15 0)
/-- MASK and TIMEOUT of format W. -/
def maskOf' (w : Word) : Nat := fld w 21 14
def timeoutOf (w : Word) : Nat := fld w 13 0

/-! ### Registers (R311) -/

/-- A register of a run: d0 reads zero. -/
def Run.reg (r : Run) (i : Nat) : Word := if i = 0 then 0 else r.regs.getD i 0

/-- The run with a register written: writes to d0 are ignored. -/
def Run.setReg (r : Run) (i : Nat) (v : Word) : Run :=
  if i = 0 then r else { r with regs := r.regs.set i v }

/-! ### Arithmetic (R315, R316) -/

/-- A signed result saturated to 32 bits (R316). -/
def satQ (i : Int) : Word :=
  if 0x7FFFFFFF < i then 0x7FFFFFFF else if i < -0x80000000 then 0x80000000 else wInt i

/-- DIVU: by zero 0xFFFF_FFFF. -/
def divU (a b : Word) : Word := if b = 0 then 0xFFFFFFFF else w32 (a.toNat / b.toNat)

/-- DIVW: 64 by 32 bits, a quotient above 0xFFFF_FFFF saturates, by zero 0xFFFF_FFFF. -/
def divW (hi lo b : Word) : Word :=
  if b = 0 then 0xFFFFFFFF else w32 (min 0xFFFFFFFF ((hi.toNat * 4294967296 + lo.toNat) / b.toNat))

/-- QMUL: rounded half up, saturated. -/
def qMul (a b : Word) : Word := satQ ((a.toInt * b.toInt + 32768) / 65536)

/-- QDIV: rounded towards zero, saturated; by zero the largest or the smallest value. -/
def qDiv (a b : Word) : Word :=
  if b = 0 then (if 0 ≤ a.toInt then 0x7FFFFFFF else 0x80000000)
  else satQ (Int.tdiv (a.toInt * 65536) b.toInt)

/-- log2 of a positive number in units of 2^-16, rounded down, with 16 integer fraction bits taken off. -/
def log2Floor (a : Nat) : Int := (Nat.log2 (a ^ 65536) : Int) - 16 * 65536

/-- QLOG2: 0x8000_0000 for ra ≤ 0; a value that is no whole unit is rounded one way or the other, which the rule does
not state (log entry 33). -/
def qLog2 (a : Word) : Word :=
  if a.toInt ≤ 0 then 0x80000000
  else
    let n := a.toNat
    let f := log2Floor n
    if 2 ^ Nat.log2 n = n then wInt f
    else wInt (if Config.roundUp 315 n 0 then f + 1 else f)

/-- Square root of a number below 2^48, rounded down, by bits from the highest. -/
def sqrtBits : Nat → Nat → Nat → Nat
  | 0, _, r => r
  | k + 1, n, r => if (r + 2 ^ k) * (r + 2 ^ k) ≤ n then sqrtBits k n (r + 2 ^ k) else sqrtBits k n r

/-- QSQRT: 0 for a negative ra; a root that is no whole unit is rounded one way or the other (log entry 33). -/
def qSqrt (a : Word) : Word :=
  if a.toInt < 0 then 0
  else
    let n := a.toNat * 65536
    let r := sqrtBits 24 n 0
    if r * r = n then w32 r else w32 (if Config.roundUp 316 n 0 then r + 1 else r)

/-- Signed and unsigned order as 1 or 0. -/
def slt (a b : Word) : Word := if a.toInt < b.toInt then 1 else 0
def sltu (a b : Word) : Word := if a.toNat < b.toNat then 1 else 0

/-- Shifts by the low five bits. -/
def shl (a b : Word) : Word := a <<< (b.toNat % 32)
def shr (a b : Word) : Word := a >>> (b.toNat % 32)
def sra (a b : Word) : Word := a.sshiftRight (b.toNat % 32)

/-- Minimum and maximum, signed and unsigned. -/
def minS (a b : Word) : Word := if a.toInt ≤ b.toInt then a else b
def maxS (a b : Word) : Word := if a.toInt ≤ b.toInt then b else a
def minU (a b : Word) : Word := if a.toNat ≤ b.toNat then a else b
def maxU (a b : Word) : Word := if a.toNat ≤ b.toNat then b else a

/-- COND of Bcc: 0 EQ, 1 NE, 2 LT, 3 GE, 4 LTU, 5 GEU; 6 and 7 are refused at load and hold never. -/
def condHolds (c : Nat) (a b : Word) : Bool :=
  match c with
  | 0 => a == b
  | 1 => a != b
  | 2 => decide (a.toInt < b.toInt)
  | 3 => decide (b.toInt ≤ a.toInt)
  | 4 => decide (a.toNat < b.toNat)
  | 5 => decide (b.toNat ≤ a.toNat)
  | _ => false

/-! ### Loops (R315, R317) -/

/-- At the end of a body the innermost loop of this depth of calls goes on or is left; an enclosing body may end at
the same address. -/
def loopBack (pc depth : Nat) : List LoopRec → Nat × List LoopRec
  | [] => (pc, [])
  | l :: rest =>
    if l.stop = pc && l.depth = depth then
      if 1 < l.left then (l.first, { l with left := l.left - 1 } :: rest) else loopBack pc depth rest
    else (pc, l :: rest)

/-- The run at an address, after the loops that end there. -/
def Run.goto (r : Run) (pc : Nat) : Run :=
  let (p, l) := loopBack pc r.calls.length r.loops
  { r with pc := p, loops := l }

/-- A loop of n iterations over the next LEN instructions; none skips the body. -/
def Run.enter (r : Run) (n len : Nat) : Run :=
  if n = 0 || len = 0 then r.goto (r.pc + 1 + len)
  else { r with pc := r.pc + 1, loops := ⟨r.pc + 1, r.pc + 1 + len, n, r.calls.length⟩ :: r.loops }

/-! ### The dippers -/

/-- A dipper. -/
def State.dp (s : State) (d : Nat) : Dip := tab s.dip.dips d

/-- A change of one dipper. -/
def State.onDp (s : State) (d : Nat) (f : Dip → Dip) : State := s.onDip fun x => { x with dips := upd x.dips d f }

/-- The run of a dipper is set. -/
def State.setRun (s : State) (d : Nat) (r : Run) : State := s.onDp d fun x => { x with run := some r }

/-- The program word at an address of instruction memory. -/
def Dip.word (d : Dip) (a : Nat) : Word := (alookup d.imem a).getD 0

/-- The run and the instruction that a dipper executes next: it runs a loaded program and waits on nothing. -/
def State.fetch (s : State) (d : Nat) : Option (Run × Word) :=
  match (s.dp d).run with
  | some r => if r.builtin || r.wait.isSome then none else some (r, (s.dp d).word r.pc)
  | none => none

/-- The window of a binding. -/
def Dip.window (d : Dip) (b num : Nat) : List Word :=
  match d.windows.find? (fun w => w.bind == b && w.num == num) with
  | some w => w.words
  | none => []

/-- A word of a window at a byte address: the two low bits are ignored, outside it reads zero (R312). -/
def windowRead (l : List Word) (a : Word) : Word := l.getD (a.toNat / 4) 0

/-- The window with a word written; outside it the write is ignored (R312). -/
def windowWrite (l : List Word) (a v : Word) : List Word := l.set (a.toNat / 4) v

end Sys2Proof.Machine
end

