-- ==== Sys2Proof/Machine/Starts.lean ====
section
/-!
DEFINITION. Starts of dippers: dipper-class tasks of Dispatch (R268, R319, R286).
-/
namespace Sys2Proof.Machine

/-- A start record. -/
def State.start? (s : State) (id : Nat) : Option Start := s.dip.starts.find? (·.id == id)

/-- The descriptor of a start: pinned, without deadline, at priority 5, or 7 on DP7 (R319). Its COOKIE is the start
unit's own and free. -/
def startDesc (s : State) (dip type id : Nat) : Desc :=
  { type := type, cls := 2, prio := if dip = 7 then 7 else 5, flow := 0, flowed := false, pin := true, unit := dip
    payload := id, dl := none, cookie := s.freeVal 319 id % 65536, pump := none }

/-- A start unit submits a start, as producer 19. -/
def State.startDip (s : State) (dip type bind phase frame row : Nat) : State :=
  let id := s.dip.nextStart
  let d := startDesc s dip type id
  let s := s.onDip fun x => { x with starts := x.starts ++ [⟨id, dip, type, bind, phase, frame, row⟩], nextStart := id + 1 }
  s.drawn.submit 19 d

/-- The Dispatch entry of a start. -/
def State.startEnt (s : State) (id : Nat) : Option Ent :=
  s.ds.pool.find? fun e => e.desc.cls == 2 && e.desc.payload == id

/-- A start is finished: its task leaves Dispatch and its record is gone. -/
def State.endStart (s : State) (id : Nat) : State :=
  let s := match s.startEnt id with
    | some e => s.finishEnt e
    | none => s
  s.onDip fun x => { x with starts := x.starts.filter (·.id != id) }

/-- The built-in packaging program goes to work on the row of a start, with the words of its hook. -/
def State.beginPacking (s : State) (d id : Nat) (hook : List Word) : State :=
  s.onDp d fun x => { x with packing := some (id, hook), packFrom := s.clk }

/-- The built-in packaging program is done with a row, and its start with it: a run of its own in DIP_QUERY's figures (log
entry 44). -/
def State.endPacking (s : State) (d id : Nat) : State :=
  (s.onDp d fun x =>
    { x with
      packing := none, ended := s.clk, runs := x.runs + 1
      busy := (x.packFrom, s.clk) :: x.busy.filter fun b => decide (s.clk < b.2 + secC) }).endStart id

/-! ### Data windows (R312, R333) -/

/-- Bytes of data memory that no window takes: 2 KiB less the windows. -/
def Dip.freeData (x : Dip) : Nat := 2048 - sumNat (x.windows.map fun w => 4 * w.words.length)

/-- The window that a program's image declares: its words, then zeros (R312). -/
def Prog.fresh (p : Prog) : List Word := (p.init ++ List.replicate (16 * p.data) 0).take (16 * p.data)

/-- A binding's window, filled from the image as the binding applies. -/
def State.openWindow (s : State) (d b num : Nat) : State :=
  s.onDp d fun x =>
    match x.progs.find? (·.num == num) with
    | some p => { x with windows := (x.windows.filter fun w => !(w.bind == b && w.num == num)) ++ [⟨b, num, p.fresh⟩] }
    | none => x

/-- A binding ends, and its window with it. -/
def State.closeWindow (s : State) (d b num : Nat) : State :=
  s.onDp d fun x => { x with windows := x.windows.filter fun w => !(w.bind == b && w.num == num) }

/-- Whether a window of a program fits for a binding that has none yet (R333). -/
def Dip.windowFits (x : Dip) (b num : Nat) : Bool :=
  match x.progs.find? (·.num == num) with
  | some p => (x.windows.any fun w => w.bind == b && w.num == num) || decide (64 * p.data ≤ x.freeData)
  | none => true

end Sys2Proof.Machine
end

