-- ==== Sys2Proof/Machine/TwinLink.lean ====
section
/-!
DEFINITION. The twin link as the other units use it: frames sent, resent and acknowledged (R469, R470), and which rows
this module of a pair issues (R468, R482, R489, R490).
-/
namespace Sys2Proof.Machine

/-- Frame types (table "Twin link frame types"). -/
def tHeartbeat : Nat := 1
def tIssue : Nat := 2
def tSlice : Nat := 3
def tRowState : Nat := 4
def tRowEnd : Nat := 5
def tMirror : Nat := 6
def tSpdm : Nat := 7

/-- A frame leaves on the twin link with the sender's alive counter (R470). -/
def State.twinOut (s : State) (type : Nat) (args : List Nat) : State :=
  let x := s.cvu.ctx 8
  (s.useCtx 8 { x with aliveNext := (x.aliveNext + 1) % 256, units := x.units + 1 }).emit (.twin type) (x.aliveNext :: args)

/-- A frame other than HEARTBEAT takes the next SEQ and stays until it is acknowledged. Arguments: SEQ, stream, channel,
part, row, frame, then what the payload says. -/
def State.sendTwin (s : State) (type stream chan part row frame : Nat) (data : List Nat) : State :=
  let n := s.twin.txSeq
  let args := [n, stream, chan, part, row, frame] ++ data
  (s.onTwin fun t => { t with txSeq := (n + 1) % 4294967296, sent := t.sent ++ [⟨n, type, args, s.clk⟩] }).twinOut type args

/-- Link sequence number a is at or after b, modulo 2^32. -/
def seqFrom (a b : Nat) : Bool := decide ((a + 4294967296 - b % 4294967296) % 4294967296 < 2147483648)

/-- Frames that a test picks are sent again in order; TWIN:0x0B at the first resend of a second (R470). -/
def State.resend (s : State) (p : TwinTx → Bool) : State :=
  let l := s.twin.sent.filter p
  if l.isEmpty then s
  else
    let first := s.twin.resentAt != some s.second
    let s := s.onTwin fun t =>
      { t with resentAt := some s.second, sent := t.sent.map fun f => if p f then { f with clk := s.clk } else f }
    let s := l.foldl (fun s f => s.twinOut f.type f.args) s
    if first then s.raise 0x0D 0x0B else s

/-- Rows in the order of a channel: by frame, then row. -/
def rowBefore (f r f' r' : Nat) : Bool := decide (f < f') || (f == f' && decide (r < r'))

/-- The first row of a channel that the new active module issues, of a swap that both modules have agreed. -/
def TwinSt.swapRow (t : TwinSt) (c : Nat) : Option (Nat × Nat) :=
  match t.hand with
  | some h => if h.cause = 0 && h.asked.isNone then (h.rows.find? (·.1 == c)).map (·.2) else none
  | none => none

/-- This module issues a row of a channel: all rows without a pair, the active module those before a swap row, the
standby those from it on (R468, R482, R490). -/
def State.issuesRow (s : State) (c f r : Nat) : Bool :=
  if 2 ≤ s.twin.role then match s.twin.swapRow c with
    | some (f', r') => !rowBefore f r f' r'
    | none => false
  else !s.twin.handed && match s.twin.swapRow c with
    | some (f', r') => rowBefore f r f' r'
    | none => true

/-- Words 0 to 6 of the task records of a row travel in ISSUE frames of at most 292 records (R474). -/
def State.sendIssue (s : State) (c frame row : Nat) (tasks : List (List Nat)) : State :=
  if s.twin.role != 1 then s
  else (List.range (ceilDiv tasks.length 292)).foldl (fun s k =>
    s.sendTwin tIssue 0 c k row frame ((tasks.drop (292 * k)).take 292).flatten) s

/-- A slice in frames: pieces of at most 8,192 bytes of it, at least one. -/
def slicePieces (l : List Byte) (n : Nat) : List (Nat × List Byte) :=
  (List.range (max 1 (ceilDiv n 8192))).map fun k => (min 8192 (n - 8192 * k), (l.drop (8192 * k)).take 8192)

/-- The row record of a committed row: SLICE frames of at most 8,192 bytes, a ROW_STATE frame, ROW_END (R475). A slice is
its stream, its length, and its bytes where it was coded; those of a template and of non-VCL units no rule lays out (log entry
78). `state` is what ROW_STATE says. -/
def State.sendRecord (s : State) (c frame row : Nat) (slices : List (Nat × Nat × List Byte)) (state : List Nat) : State :=
  let parts := slices.flatMap fun (i, n, l) => (slicePieces l n).map fun p => (i, p)
  let s := (List.range parts.length).foldl (fun s k =>
    let (i, n, l) := parts.getD k (0, 0, [])
    s.sendTwin tSlice i c k row frame (n :: l.map BitVec.toNat)) s
  let s := s.sendTwin tRowState 0 c parts.length row frame state
  s.sendTwin tRowEnd 0 c (parts.length + 1) row frame [parts.length + 1, tNs s.now, tSec s.now % 4294967296]

end Sys2Proof.Machine
end

