-- ==== Sys2Proof/Machine/Encode.lean ====
section
/-!
DEFINITION. Rows, tile-row tasks and pictures (chapter 07 of spec/): issue of a row, completion of tasks, engine
errors, the row guard, underrun, and the sounders. The channel commands stand in Machine/ChanCfg.lean and
Machine/Channels.lean.
-/
namespace Sys2Proof.Machine

/-! ### Task records -/

/-- A task record. -/
def State.task? (s : State) (id : Nat) : Option TaskRec := s.enc.tasks.find? (·.id == id)

/-- A change of one task record. -/
def State.onTask (s : State) (id : Nat) (f : TaskRec → TaskRec) : State :=
  s.onEnc fun e => { e with tasks := e.tasks.map fun t => if t.id = id then f t else t }

/-- The tasks of a channel's row. -/
def State.rowTasksOf (s : State) (c frame crow : Nat) : List TaskRec :=
  s.enc.tasks.filter fun t => t.chan == c && t.frame == frame && t.crow == crow

/-- Whether a task has its output or its skip slice. -/
def TaskRec.over (t : TaskRec) : Bool := t.st == 3 || t.st == 4

/-- The luma samples of a task. -/
def State.taskSamples (s : State) (t : TaskRec) : Nat :=
  let h := s.ch t.chan
  match h.cfg with
  | some g =>
    let a := taskRect g (s.strm t.stream).rect h.tileCols t.col t.row
    a.w * a.h
  | none => 0

/-- The coding load of a task. -/
def State.taskLoad (s : State) (t : TaskRec) : Q :=
  let h := s.ch t.chan
  match h.cfg with
  | some g => h.areaLoad g (taskRect g (s.strm t.stream).rect h.tileCols t.col t.row)
  | none => ⟨0, 1⟩

/-- The descriptor of a tile-row task: its row deadline as deadline (DEDUCED, log entry 30), COOKIE the row within
the stream. -/
def State.taskDesc (s : State) (t : TaskRec) (prio : Nat) : Desc :=
  let flows := (s.strm t.stream).flows
  { type := 1, cls := 0, prio := prio, flow := flows.getD t.col 0, flowed := t.col < flows.length, pin := false
    unit := 0, payload := t.id, dl := some t.deadline, cookie := t.row, pump := none }

/-! ### Records in Dispatch SRAM (R208, R216, R270) -/

/-- The number under which Config places the sounder record of a row. -/
def sounderIdx (c frame row : Nat) : Nat := (frame * 65536 + row) * 16 + c

/-- The twelve words of a task record (table "Task record"); words 12 to 15 are reserved. -/
def State.taskWords (t : TaskRec) : List Word :=
  [w32 (at' (b01 t.skip) 25 + at' (b01 t.guarded) 24 + at' t.chan 20 + at' t.stream 15 + at' t.col 10 + t.row),
   w32 t.frame, w32 t.budget, w32 (at' t.qpInit 16 + at' t.qpMax 8 + t.qpMin), w32 (tNs t.guardT), w32 (tSec t.guardT),
   w32 (Config.sramBase 0 (sounderIdx t.chan t.frame t.crow)), w32 t.res.bits, w32 t.res.recon,
   w32 (at' t.res.ctuReserve 16 + t.res.ctuNormal), w32 (at' t.res.ctuSkip 16 + t.res.ctuIntra), w32 t.res.sumQp]
  ++ List.replicate 4 0

/-! ### Rate-control completions (R270, R271) -/

/-- A completion enters the DONE FIFO of the channel's dipper, or marks it overflowed when full. -/
def State.pushDone (s : State) (t : TaskRec) : State :=
  let d := (s.ch t.chan).dip
  let ws := [w32 (t.stream * 32 + t.col), w32 t.row, w32 t.res.bits, w32 t.res.sumQp, w32 t.res.ctuReserve]
  s.onEnc fun e => { e with dones := upd e.dones d fun (l, o) => if l.length < 64 then (l ++ [⟨ws⟩], o) else (l, true) }

/-! ### Pictures (R250, R260 to R262) -/

/-- A stream's picture is complete: its final size, the carry, the window and the complexities follow, with the
actual suffix in place of the allowance (R250, R261, R262), and its hash is taken (R230). -/
def State.pictureEnd (s : State) (stream frame : Nat) : State :=
  let t := s.strm stream
  let h := s.ch t.chan
  match h.cfg, h.rc with
  | some g, some r =>
    let suffix := h.suffixBits g (auxBytes ((alookup t.aux frame).getD []))
    -- a standby packs the active module's own unit, whose bytes no rule lays out (log entry 78)
    let hash := if 2 ≤ s.twin.role then (List.range (planeDivs g.chroma).length).map fun k => s.freeVal 230 k % 65536
      else match findPic t.refs frame with
      | some p => p.hashes g t h.tileCols
      | none => []
    let nv := t.nonVclIn frame - h.suffixMax g + suffix
    let tasks := s.picTasks stream frame
    let p := nv + sumNat (tasks.map TaskRec.cost)
    let x := (alookup t.curX frame).getD []
    let a := h.perPicture g (if r.mode = 1 && t.rate != 0 then t.rate else r.rate)
    let m := h.maxSize g r
    s.onStrm stream fun t =>
      { t with
        nonVcl := if t.frame = frame then aset t.nonVcl frame nv else adel t.nonVcl frame
        suffix := some suffix, pics := t.pics + 1, lastSize := p, hashes := aset t.hashes frame hash
        lastQp := sumNat (tasks.map (·.res.sumQp)), lastCus := sumNat (tasks.map (·.res.cus))
        carry := if r.mode = 0 then
            min ((m : Int) - a) (max (-((a / 2 : Nat) : Int)) (t.carry + a - p)) else t.carry
        diffs := (((a : Int) - p) :: t.diffs).take (h.windowPics g r)
        xs := (sumNat x :: t.xs).take (h.windowPics g r)
        prevX := x, curX := adel t.curX frame
        rate := match t.nextRate with | some x => x | none => t.rate
        nextRate := none, shared := if t.frame = frame then none else t.shared }
  | _, _ => s

/-- Whether every task of a stream's picture is over. -/
def State.pictureOver (s : State) (stream frame : Nat) : Bool :=
  let t := s.strm stream
  match (s.ch t.chan).cfg with
  | some g =>
    let l := s.picTasks stream frame
    l.all TaskRec.over && l.length == t.rows g.ctu * (s.ch t.chan).tileCols
  | none => false

/-! ### Completion of a task -/

/-- Whether every task of a row has returned its credits. -/
def State.rowOver (s : State) (c frame crow : Nat) : Bool :=
  let l := s.rowTasksOf c frame crow
  !l.isEmpty && l.all TaskRec.over

/-- The decode record of a task takes its outcome: length, EXPECT, and the offset in the output cistern, which no rule lays out
and is free (R338, R341, R342). -/
def State.expectTask (s : State) (t : TaskRec) (expect : Nat) : State :=
  s.onDec fun d => { d with recs := d.recs.map fun r =>
    if r.task = t.id then
      { r with expect := expect, len := ceilDiv t.res.bits 8, offset := s.freeVal 339 t.id % 4294967296 } else r }

/-- The streams that carry a frame's pictures. -/
def State.frameStreams (s : State) (c frame : Nat) : List Nat :=
  match (s.ch c).lay with
  | some l => (List.range (l.mx * l.my)).map fun i => l.first + frame % max 1 l.m * (l.mx * l.my) + i
  | none => []

/-- A coding engine is in service: not taken out, and in RUN within the mask (R211, R552). Below RUN the engines are
clock-gated, and none is out of service by that (DEDUCED, log entry 77). -/
def State.serves (s : State) (e : Nat) : Bool := (tab s.enc.engines e).service && (s.pw.st != 4 || nbit s.pw.ce e)

/-- Coding engines in service. -/
def State.enginesIn (s : State) : Nat := ((List.range 16).filter s.serves).length

/-- CH_GUARD, once for a frame in which tasks were guarded or underran, when all its tasks are over (R237). -/
def State.guardEvt (s : State) (c frame : Nat) : State :=
  match (s.ch c).frameGuards.find? (·.1 == frame) with
  | some (_, g, u) =>
    if (s.frameStreams c frame).all fun i => s.pictureOver i frame then
      (s.event 0x0402 c (chanVec c) [frame, g, u, s.enginesIn]).onCh c
        fun h => { h with frameGuards := h.frameGuards.filter (·.1 != frame) }
    else s
  | none => s

/-- The row of a stream within a frame has its output. -/
def State.streamRowOver (s : State) (stream frame n : Nat) : Bool :=
  let l := s.enc.tasks.filter fun t => t.stream == stream && t.frame == frame && t.row == n
  !l.isEmpty && l.all TaskRec.over

/-- Rows of a stream that have their output are given to the packaging dipper, in the order of the stream (R268, R385). -/
def State.packStarts (s : State) (stream : Nat) : Nat → State
  | 0 => s
  | k + 1 =>
    let t := s.strm stream
    let h := s.ch t.chan
    match h.cfg, (tab s.pkg.video stream).dipper with
    | some g, some d =>
      if !s.streamRowOver stream t.packF t.packR then s
      else
        let s := s.startDip d 6 stream 0 t.packF t.packR
        let last := decide (rowsOf g.ctu t.rect ≤ t.packR + 1)
        (s.onStrm stream fun t =>
          { t with packF := if last then t.packF + h.phases else t.packF, packR := if last then 0 else t.packR + 1 }).packStarts
          stream k
    | _, _ => s

/-- The packaging state of a stream of a row as it travels in the siphon (R404). -/
def State.packState (s : State) (i : Nat) : List Nat :=
  let v := tab s.pkg.video i
  let opt (t : Option Nat) : List Nat := match t with | some x => [1, x] | none => [0, 0]
  [i, v.seq, v.cc.length] ++ (v.cc.flatMap fun (p, n) => [p, n]) ++ opt v.psiAt ++ opt v.pcrAt
    ++ v.tmpl.flatMap fun t => match t with | some t => 1 :: t.words.map BitVec.toNat | none => [0]

/-- What ROW_STATE says of a row (R475): words 7 to 11 of its task records, the channel's data window, the packaging state of
each of its streams, and its AUX items, which go with the channel's first stream. -/
def State.rowStateArgs (s : State) (c frame crow : Nat) : List Nat :=
  let l := s.rowTasksOf c frame crow
  let ids := (l.map (·.stream)).eraseDups
  let window := ((tab s.dip.dips (s.ch c).dip).windows.find? (·.bind == c)).map (·.words)
  let aux := ids.flatMap fun i => (alookup (s.strm i).aux frame).getD []
  l.flatMap (fun t => ((State.taskWords t).drop 7).take 5 |>.map BitVec.toNat)
    ++ (window.getD []).map BitVec.toNat ++ ids.flatMap s.packState
    ++ aux.flatMap fun x => [x.tag, x.frame, x.data.length] ++ x.data.map BitVec.toNat

/-- The slices of a row: stream, length, the bytes of a coded one. -/
def State.rowSlices (s : State) (c frame crow : Nat) : List (Nat × Nat × List Byte) :=
  (s.rowTasksOf c frame crow).map fun t =>
    (t.stream, ceilDiv t.res.bits 8, match s.enc.output.find? fun x =>
      x.isSlice && x.stream == t.stream && x.frame == t.frame && x.row == t.row && x.col == t.col with
      | some x => x.data
      | none => [])

/-- Row records of committed rows leave in the order of their channel (R475). -/
def State.sendRecords (s : State) (c : Nat) : Nat → State
  | 0 => s
  | k + 1 =>
    match (s.ch c).cfg, s.twin.nextRow.find? (·.1 == c) with
    | some g, some (_, f, r) =>
      if s.twin.role != 1 || !(s.row? c f r).any (·.committed) then s
      else
        let s := s.sendRecord c f r (s.rowSlices c f r) (s.rowStateArgs c f r)
        let next := if r + 1 < g.ctuRows then (f, r + 1) else (f + 1, 0)
        (s.onTwin fun t => { t with nextRow := t.nextRow.map fun x => if x.1 = c then (c, next) else x }).sendRecords c k
    | _, _ => s

/-- A row commits: it joins the rows to be sent to the standby, from the first that commits in the pair on. -/
def State.commitRow (s : State) (c frame crow : Nat) : State :=
  let s := s.onRow c frame crow fun r => { r with slot := none, committed := true }
  if s.twin.role != 1 then s
  else
    let s := if s.twin.nextRow.any (·.1 == c) then s
      else s.onTwin fun t => { t with nextRow := t.nextRow ++ [(c, frame, crow)] }
    s.sendRecords c 64

/-- A task is over: its record is final, the row's slot, packaging and the picture follow (R140, R209, R250, R475). -/
def State.taskOver (s : State) (id : Nat) : State :=
  match s.task? id with
  | none => s
  | some t =>
    let s := (s.pushDone t).expectTask t t.res.recon
    let s := if s.rowOver t.chan t.frame t.crow then
        s.commitRow t.chan t.frame t.crow
      else s
    let s := s.packStarts t.stream 64
    let s := if s.pictureOver t.stream t.frame then s.pictureEnd t.stream t.frame else s
    let s := if (s.frameStreams t.chan t.frame).all (s.pictureOver · t.frame) then
        s.onCh t.chan fun h => { h with coded := h.coded + 1 } else s
    s.guardEvt t.chan t.frame

/-- A NAL unit enters its stream's output cistern; a slice without a decode record has no reader but packaging (R24, R209). -/
def State.putUnit (s : State) (x : OutUnit) : State := s.onEnc fun e => { e with output := e.output ++ [x] }

/-- A task's slice waits for a reader of the self-check. -/
def State.awaitsCheck (s : State) (t : TaskRec) : Bool :=
  s.dec.recs.any fun r => r.task == t.id && r.st != 2 && r.st != 3

/-- The credits of the units of an output cistern that both readers have returned (R24, R339). -/
def State.dropUnits (s : State) : State := s.onEnc fun e => { e with output := e.output.filter fun x => !(x.packed && x.checked) }

/-- The samples of a task's area enter the reference cistern of its stream (R209). -/
def State.reconstruct (s : State) (t : TaskRec) (planes : List (List Nat)) : State :=
  s.onStrm t.stream fun x => { x with refs := putPart x.refs t.frame ⟨t.col, t.row, planes⟩ }

/-- The column context of a tile column in SRAM (R206). -/
def columnCtx (t : TaskRec) : Nat := Config.sramBase 2 (32 * t.stream + t.col)

/-- A coding task ends with what the engine or the reserve path made of it: its record, the slice, the reconstructed samples, the
column context (R206, R208, R209); a CTU in reserve mode to keep its floor and a bad reference block are reported (R214,
R254). -/
def State.codeTask (s : State) (id u : Nat) (r : Coded) : State :=
  match s.task? id with
  | none => s
  | some t =>
    match s.job? t with
    | none => s
    | some j =>
      let s := s.onTask id fun t => { t with st := 3, res := j.sum r }
      let s := s.reconstruct t r.samples
      let s := s.putUnit ⟨t.stream, t.frame, t.row, t.col, .slice (j.head (some r.filters) false), r.nal.length, r.nal, false, !s.awaitsCheck t⟩
      let s := s.onMem fun m => { m with sram := Mem.writeAll m.sram (columnCtx t) r.ctx }
      let s := if r.ctus.any (·.reserve == 1) && !t.rsv then s.raise 0x06 0x02 t.stream t.chan else s
      let s := if r.bad.isEmpty then s else s.raise 0x05 0x09 u t.chan
      s.taskOver id

/-- The pump task of an inter skip template (R342): it moves samples between the module's own cisterns, which no rule
places; it carries no record of the host's form. -/
def copyDesc (t : TaskRec) (prio : Nat) : Desc :=
  { type := 8, cls := 3, prio := prio, flow := 0, flowed := false, pin := false, unit := 0, payload := t.id, dl := none
    cookie := t.row, pump := none }

/-- A slice from its skip template: it costs no more than the task's floor, its samples are those of the stream's previous picture
or flat, and RECON_CRC is theirs (R223 to R225, R342). Outside ALL_INTRA and first pictures a pump copies them. -/
def State.skipTask (s : State) (id st : Nat) : State :=
  match s.task? id with
  | none => s
  | some t =>
    match s.job? t with
    | none => s
    | some j =>
      let planes := s.skipSamples j
      let bits := min t.floor (match j.template? with | some p => p.bits | none => t.floor)
      let s := match j.template? with
        | some p => if p.intra then s else s.submit 20 (copyDesc t j.g.dsPrio)
        | none => s
      ((s.drawn.onTask id fun t =>
        { t with skip := true, st := st, res := { t.res with bits := bits, recon := planesCrc planes } }).reconstruct t planes).taskOver id

/-! ### Issue of a row (R207, R245, R252, R253, R259, R337) -/

/-- The stream state at row 0 of its picture. -/
def State.beginPicture (s : State) (stream frame : Nat) : State :=
  let g := ((s.ch (s.strm stream).chan).cfg).getD default
  let open' (t : Strm) : Strm :=
    { t with frame := frame, nonVcl := aset (t.nonVcl.filter fun p => (alookup t.curX p.1).isSome) frame 0, suffix := none
             inReserve := false, curX := aset t.curX frame [] }
  s.onStrm stream fun t => (open' t).openPic g frame

/-- DEC_CHECK: a stream's check changes its state (R345). -/
def State.setChk (s : State) (stream frame st : Nat) : State :=
  let old := (tab s.dec.streams stream).st
  if old = st then s
  else
    let c := (s.strm stream).chan
    let s := s.onDec fun d => { d with streams := upd d.streams stream fun x => { x with st := st } }
    let s := if old = 3 then s.causeOff 0x07 0x05 stream c else s
    s.event 0x0802 c (chanVec c) [stream, at' old 4 + st, frame]

/-- A stream reaches a picture: CONVERGING and SUSPENDED may end there (table "Check states of a stream"). -/
def State.reachPicture (s : State) (c stream frame : Nat) : State :=
  let h := s.ch c
  let x := tab s.dec.streams stream
  match h.cfg with
  | none => s
  | some g =>
    let idr := h.idr.contains frame
    let intra := g.struct == 2
    if x.st = 2 then
      if idr || (match x.target with | some t => decide (t ≤ frame) | none => false) then s.setChk stream frame 0 else s
    else if x.st = 3 then
      if idr || intra then s.setChk stream frame 0
      else if h.gdrPos frame = 0 then
        (s.setChk stream frame 2).onDec fun d =>
          { d with streams := upd d.streams stream fun y => { y with target := some (frame + h.gdrP * h.phases) } }
      else s
    else s

/-- The row's task records of one stream are written, with budgets clamped (R252), in reserve mode where the picture
is or enters it (R253). -/
def State.issueStream (s : State) (c frame crow stream n : Nat) (skip byProgram : Bool) : State :=
  let h := s.ch c
  match h.cfg, h.rc, s.enc.rows.find? (fun r => r.chan == c && r.frame == frame && r.row == crow) with
  | some g, some r, some row =>
    let s := if n = 0 then (s.beginPicture stream frame).reachPicture c stream frame else s
    let t := s.strm stream
    let m := h.maxSize g r
    let cn := s.charge stream frame
    let enters := !t.inReserve && decide (m ≤ cn + h.floorRest g t frame n)
    let s := if enters then
        let s := s.onStrm stream fun t => { t with inReserve := true, reservePics := t.reservePics + 1 }
        (s.raise 0x06 0x01 stream c).event 0x0501 c (chanVec c) [stream, frame, n, cn]
      else s
    let reserve := t.inReserve || enters
    let k := h.tileCols
    let floors := (List.range k).map fun col => h.taskFloor g t frame n col
    let nv := h.nonVclOf g t frame n
    let line := budgetLine m (t.rows g.ctu) n
    let inc := line - (if n = 0 then 0 else budgetLine m (t.rows g.ctu) (n - 1))
    let rowSamples := t.rect.w * rowHeight g.ctu t.rect n
    let written := (List.range k).map fun col =>
      if byProgram then
        match row.written.find? (fun (i, cc, _) => i == stream && cc == col) with
        | some (_, _, b) => b
        | none => 0
      else
        let (_, w) := tileCol g.ctu t.rect k col
        quot 259 (inc * (w * rowHeight g.ctu t.rect n)) rowSamples
    let budgets := if reserve || skip then floors else clampBudgets (line - cn - nv) floors written
    -- R259 copies QP_INIT from the previous row; of row 0 the rule says nothing
    let qp (col : Nat) : Nat × Nat × Nat :=
      match (if byProgram then row.qps.find? (fun (i, cc, _) => i == stream && cc == col) else none) with
      | some (_, _, w) => (fld w 23 16, fld w 15 8, fld w 7 0)
      | none =>
        let prev := s.enc.tasks.find? fun x => x.stream == stream && x.frame == frame && x.col == col && x.row + 1 == n
        ((match prev with
          | some x => x.qpInit
          | none => if r.mode = 2 || h.firstPic frame then r.qpCq else s.freeQp h r stream), h.qpMax, r.lowQp)
    let dl := s.rowDeadline c row.start
    let recs := ((List.range k).zip (floors.zip budgets)).map fun (col, f, b) =>
      let a := taskRect g t.rect k col n
      let (qi, qx, qn) := qp col
      ({ id := s.enc.nextTask + col, chan := c, frame := frame, crow := crow, stream := stream, col := col, row := n
         skip := skip, guarded := false, budget := b, floor := f, qpInit := qi, qpMax := qx, qpMin := qn
         guardT := dl - rsvTime (a.w * a.h) - usU, deadline := dl, x := s.taskX c frame crow stream col
         retried := false, rsv := reserve, pathOf := none, st := 0 } : TaskRec)
    let s := s.onEnc fun e => { e with tasks := e.tasks ++ recs, nextTask := e.nextTask + k }
    let s := s.onStrm stream fun t => t.rowIn frame nv (s.rowX c frame crow stream)
    -- one DECODE_ROW record for each task of a self-checked channel (R337)
    if (tab s.dec.checks c).on then
      let cancelled := (tab s.dec.streams stream).st == 3
      let chk := row.start + 6 * s.tRowU c + h.x
      let drecs := recs.map fun (x : TaskRec) =>
        ({ id := s.dec.next + x.col, task := x.id, chan := c, stream := stream, frame := frame, col := x.col, row := n
           crow := crow, deadline := chk, offset := 0, len := 0, expect := 0, decoded := 0, concealed := 0
           result := if cancelled then 3 else 0, retried := false, st := if cancelled then 3 else 0 } : DecRec)
      let s := if cancelled then s.onDec fun d => { d with streams := upd d.streams stream fun x =>
            { x with cancelled := x.cancelled + w32 k } } else s
      s.onDec fun d => { d with recs := d.recs ++ drecs, next := d.next + k }
    else s
  | _, _, _ => s

/-- SELFCHECK_CONFIG of a running channel holds from the first picture at its boundary; enabling starts every stream in
SUSPENDED (R362). -/
def State.takeCheck (s : State) (c frame : Nat) : State :=
  match (tab s.dec.checks c).next with
  | some (f, on, auto) =>
    if frame < f then s
    else
      let was := (tab s.dec.checks c).on
      let s := s.onDec fun d => { d with checks := upd d.checks c fun _ => { on := on, refresh := auto } }
      if on && !was then
        match (s.ch c).lay with
        | some l => (List.range l.count).foldl (fun s i => s.setChk (l.first + i) frame 3) s
        | none => s
      else s
  | none => s

/-- Row n is issued: by its program, or by the module (R252, R259). -/
def State.issueRow (s : State) (c frame crow : Nat) (skip byProgram : Bool) : State :=
  let s := if crow = 0 then s.takeCheck c frame else s
  let h := s.ch c
  match h.cfg, h.lay with
  | some g, some l =>
    let s := (l.rowStreams g frame crow).foldl (fun s (stream, n) => s.issueStream c frame crow stream n skip byProgram) s
    let s := s.onRow c frame crow fun r => { r with issued := true }
    s.sendIssue c frame crow ((s.rowTasksOf c frame crow).map fun t => ((State.taskWords t).take 7).map BitVec.toNat)
  | _, _ => s

/-- Rows whose I_n is still to come, with it. -/
def State.rowsToIssue (s : State) : List (RowRec × Nat) :=
  (s.enc.rows.filter fun r => r.needed && !r.readied && r.capT.isSome && s.issuesRow r.chan r.frame r.row).map fun r =>
    (r, s.issueTime r.chan r.start)

/-- A channel in safe output codes every slice from its skip templates (R524). -/
def State.inSafe (s : State) (c : Nat) : Bool := s.flt.chSafe.any (·.1 == c)

/-- The streams that have a part of a row. -/
def State.rowStreamsOf (s : State) (r : RowRec) : List Nat :=
  match (s.ch r.chan).cfg, (s.ch r.chan).lay with
  | some g, some l => (l.rowStreams g r.frame r.row).map (·.1)
  | _, _ => []

/-- The coarse vectors of the sounder's blocks over a task: its engine's search seeds (R216). -/
def State.seedsOf (s : State) (r : RowRec) (t : TaskRec) : List (Nat × Int × Int) :=
  match s.job? t with
  | none => []
  | some j =>
    let x := j.st.rect.x + j.area.x
    (sortBy (·.1) (r.blocks.filter fun b => decide (x < 64 * b.1 + 64) && decide (64 * b.1 < x + j.area.w))).map fun (b, _, lo) =>
      let sgn (n : Nat) : Int := if n < 128 then n else (n : Int) - 256
      (b, sgn (fld lo 7 0), sgn (fld lo 15 8))

/-- Tasks of an issued row become ready; those of a skipped row are written from skip templates at once (R207). -/
def State.readyRow (s : State) (r : RowRec) : State :=
  let s := s.turnRows
  let r := (s.row? r.chan r.frame r.row).getD r
  let skip := r.skip || s.inSafe r.chan
  let prod := if (s.row? r.chan r.frame r.row).any (fun x => x.issued) && !skip then (s.ch r.chan).dip else 14
  let s := if (s.row? r.chan r.frame r.row).any (·.issued) then s
    else
      let s := if skip then s else s.raise 0x06 0x06 ((s.rowStreamsOf r).headD 0) r.chan
      s.issueRow r.chan r.frame r.row skip false
  let s := s.onRow r.chan r.frame r.row fun x => { x with readied := true, slot := if skip then none else x.slot }
  let l := s.rowTasksOf r.chan r.frame r.row
  if skip then l.foldl (fun s t => s.skipTask t.id 3) s
  else match (s.ch r.chan).cfg with
  | some g => l.foldl (fun s t =>
      (s.onTask t.id fun t => { t with seeds := s.seedsOf r t }).submit prod (s.taskDesc t g.dsPrio)) s
  | none => s

/-! ### Engines (R211 to R213) -/

/-- The capacity in service against the admitted load (R212). -/
def State.capacityCheck (s : State) : State :=
  let cap : Q := ⟨s.enginesIn * 1000000000, 1⟩
  let load := s.totalLoad
  let short := !(load.add ⟨2000000000, 1⟩).le cap
  let none' := !load.le cap
  let s := if short && !s.hasCause 0x05 0x06 then s.raiseOn 0x05 0x06
    else if short then s else s.causeOff 0x05 0x06
  if none' && !s.hasCause 0x05 0x07 then s.raiseOn 0x05 0x07
  else if none' then s else s.causeOff 0x05 0x07

/-- ENG_STATE (table "Channel events"). -/
def State.engEvt (s : State) (e on cause : Nat) : State := s.event 0x0403 0xFF 1 [e, on, cause]

/-- A coding engine leaves service: it completes what it holds and pulls no more (R211). -/
def State.engineOff (s : State) (e cause : Nat) : State :=
  let s := s.onEnc fun x => { x with engines := upd x.engines e fun y => { y with service := false } }
  let s := s.onUnit e fun u => { u with enabled := false }
  let s := if cause = 2 then s.raiseOn 0x05 0x04 e else s
  (s.engEvt e 0 cause).capacityCheck

/-- The duration of a completed task enters the engine's last 256, and a slow mean is reported (R213). -/
def State.engineTime (s : State) (e dur : Nat) (load : Q) : State :=
  let pred := (load.mul ⟨3, 2⟩).quot 213
  let s := s.onEnc fun x =>
    { x with engines := upd x.engines e fun y => { y with durs := ((dur, pred) :: y.durs).take 256 } }
  let y := tab s.enc.engines e
  let slow := y.durs.length == 256
    && decide (5 * sumNat (y.durs.map (·.2)) < 4 * sumNat (y.durs.map (·.1)))
  let s := s.onEnc fun x => { x with engines := upd x.engines e fun y => { y with slow := slow } }
  if slow && !y.slow then s.raise 0x05 0x05 e else s

/-- The entry of a task in Dispatch. -/
def State.entOf (s : State) (type payload : Nat) : Option Ent :=
  s.ds.pool.find? fun e => e.desc.type == type && e.desc.payload == payload

/-- A failed task is made ready again at priority 6: its credit moves to that list once it has one (R211, R293). -/
def State.retryEnt (s : State) (e : Ent) : State :=
  let d := { e.desc with prio := 6 }
  let s := s.freeUnit e.unit e.start false
  if s.ds.depth d.list < tab s.ds.caps d.list then
    ((s.onEnt e.key fun e => { e with desc := d, st := 0, ready := s.clk + 1 }).trace 0 13 d).thresholds d.list
  else
    let s := s.onEnt e.key fun e => { e with st := 3 }
    if s.ds.held.contains ⟨13, d, none⟩ then s
    else ((s.onDs fun x => { x with held := x.held ++ [⟨13, d, none⟩], refused := satAdd x.refused 1 0xFFFF }).trace 1 13 d).raise
      0x0F 0x01 13

/-- A free reserve path by R37 over engine numbers. -/
def State.freePath (s : State) : Option Nat :=
  rotPick s.enc.pathPtr 16 ((List.range 16).filter fun i =>
    (tab s.ds.units i).enabled && (tab s.enc.engines i).path.isNone)

/-- A task passes to a reserve path. -/
def State.toPath (s : State) (id p : Nat) : State :=
  (s.onEnc fun e => { e with engines := upd e.engines p fun y => { y with path := some id } }).onTask id
    fun t => { t with st := 2, pathOf := some p }

/-- The tasks that wait for a reserve path take those that are free: the rest of a running task its engine's own, another task the
one that R37 picks, whose pointer only such a pick moves (R235). -/
def State.servePaths (s : State) : State :=
  (s.enc.tasks.filter (·.st == 5)).foldl (fun s t =>
    match t.pathOf with
    | some p => if (tab s.enc.engines p).path.isNone then s.toPath t.id p else s
    | none => match s.freePath with
      | some p => (s.toPath t.id p).onEnc fun e => { e with pathPtr := (p + 1) % 16 }
      | none => s) s

/-- A reserve path has no task any more. -/
def State.clearPath (s : State) (p : Nat) : State :=
  s.onEnc fun e => { e with engines := upd e.engines p fun y => { y with path := none } }

/-- An engine fails in a task whose rest is with its reserve path: past G the task is made ready for a reserve path as a whole
(R211, R235; DEDUCED, log entry 78). -/
def State.guardRetry (s : State) (u : Nat) (e : Ent) (t : TaskRec) : State :=
  let s := match t.pathOf with | some p => if t.st = 2 then s.clearPath p else s | none => s
  let s := ((s.freeUnit u e.start false).withdraw { e with st := 0 })
  s.onTask t.id fun t => { t with retried := true, st := if t.retried then 6 else 5, pathOf := none }

/-- An engine reports an internal error in a tile-row task (R211). -/
def State.codingError (s : State) (u : Nat) (e : Ent) : State :=
  let t := (s.task? e.desc.payload).getD default
  let s := s.raise 0x05 0x03 u t.chan
  let times := ((s.now :: (tab s.enc.engines u).errors).take 3)
  let s := s.onEnc fun x => { x with engines := upd x.engines u fun y => { y with errors := times } }
  let s := if t.guarded then (s.guardRetry u e t).servePaths
    else if t.retried || t.st = 6 then
      (((s.freeUnit u e.start false).flowOn e.desc).drop e).onTask t.id fun t => { t with st := 6 }
    else (s.retryEnt e).onTask t.id fun t => { t with retried := true, st := 0 }
  let s := if times.length = 3 && s.now < times.getD 2 0 + secU && (tab s.enc.engines u).service then s.engineOff u 2 else s
  s

/-! ### The row guard (R234 to R236) -/

/-- The guard acts on one task that is not complete (R235, R302). -/
def State.guardTask (s : State) (t : TaskRec) : State :=
  let mark (s : State) : State :=
    let s := s.onTask t.id fun t => { t with guarded := true }
    let s := s.onCh t.chan fun h =>
      let o := ((h.frameGuards.find? (·.1 == t.frame)).map (·.2)).getD (0, 0)
      { h with guarded := h.guarded + 1
               frameGuards := aset h.frameGuards t.frame (o.1 + 1, o.2) }
    let s := s.onCl fun c => { c with guarded := c.guarded + 1 }
    (s.onStrm t.stream fun x => { x with guards := x.guards + 1 }).raise 0x05 0x01 t.stream t.chan
  match s.entOf 1 t.id with
  | some e =>
    if e.st = 1 && e.start != s.clk then
      -- running: the engine's own path takes the rest, in the same slice
      (mark s).onTask t.id fun t => { t with st := 5, pathOf := some e.unit }
    else (mark (s.withdraw e)).onTask t.id fun t => { t with st := 5, pathOf := none }
  | none =>
    -- kept by a producer after a refusal: ready but not running (R293)
    let s := s.onDs fun d => { d with held := d.held.filter fun h => !(h.desc.type == 1 && h.desc.payload == t.id) }
    (mark s).onTask t.id fun t => { t with st := 5, pathOf := none }

/-- The tasks that a guard time may still find, with it: ready or running. -/
def State.guardable (s : State) : List TaskRec :=
  s.enc.tasks.filter fun t =>
    !t.skip && !t.guarded && (t.st == 0 || t.st == 1)
      && (s.row? t.chan t.frame t.crow).any (·.readied)

/-! ### Underrun (R225) -/

/-- A task without usable output at its row deadline underruns. -/
def State.underrun (s : State) (t : TaskRec) : State :=
  let s := match s.entOf 1 t.id with
    | some e =>
      let s := if e.st = 1 then s.freeUnit e.unit e.start false else s
      (s.flowOn e.desc).drop e
    | none => s
  let s := match t.pathOf with
    | some p => if t.st = 2 then s.clearPath p else s
    | none => s
  let s := s.onDs fun d =>
    { d with flows := d.flows.map fun (i, f) => (i, if (s.strm t.stream).flows.getD t.col 1024 = i then { f with ghosts := [] } else f)
             held := d.held.filter fun h => !(h.desc.type == 1 && h.desc.payload == t.id) }
  let s := s.onCh t.chan fun h =>
    let o := ((h.frameGuards.find? (·.1 == t.frame)).map (·.2)).getD (0, 0)
    { h with underrun := h.underrun + 1, frameGuards := aset h.frameGuards t.frame (o.1, o.2 + 1) }
  let s := if t.guarded then s else s.onStrm t.stream fun x => { x with guards := x.guards + 1 }
  (s.raise 0x05 0x02 t.stream t.chan).skipTask t.id 4

/-- The tasks of readied rows that are not over. -/
def State.unfinished (s : State) : List TaskRec :=
  s.enc.tasks.filter fun t => !t.over && !t.skip && (s.row? t.chan t.frame t.crow).any (·.readied)

/-! ### Sounders (R216, R217) -/

/-- The placement of a channel's bands: the sounder of each. -/
def State.bandsOf (s : State) (c : Nat) : List Nat := (alookup s.enc.bands c).getD []

/-- Lines of a row that are composed, or written where the channel has no composition. -/
def State.linesComposed (s : State) (g : ChCfg) (r : RowRec) : Nat :=
  if (s.cc r.chan).on && !r.abandoned then
    (composersOf (s.cc r.chan).mask).foldl (fun n cm => min n (r.done cm)) (g.rowLines r.row)
  else s.linesReady g r

/-- Lines of band k analysed, and the band's status, 3 while it is not final. -/
def RowRec.analysed (r : RowRec) (k : Nat) : Nat := r.bands.getD k 0
def RowRec.bandStatus (r : RowRec) (k : Nat) : Nat := r.bandSt.getD k 3

/-- A list with entry k set, padded with a default before it. -/
def setAt (l : List Nat) (k v d : Nat) : List Nat :=
  (List.range (max l.length (k + 1))).map fun i => if i = k then v else l.getD i d

/-- Every sounder summary of a row is written. -/
def State.sounded (s : State) (r : RowRec) : Bool :=
  (List.range (s.bandsOf r.chan).length).all fun k => r.bandStatus k != 3

/-- FLAGS bit 2 of a block: a part of its 64 columns or of the row's lines lies outside the picture (table "Sounder record"). -/
def ChCfg.blockCut (g : ChCfg) (row b : Nat) : Bool := decide (g.width < 64 * b + 64) || decide (g.rowLines row < g.ctu)

/-- MEAN of a block: the 8 most significant bits of the mean of its composed luma samples; the rounding is free. -/
def State.blockMean (s : State) (g : ChCfg) (r : RowRec) (b : Nat) : Nat :=
  match r.slot with
  | none => 0
  | some sl =>
    let l := (List.range (g.rowLines r.row)).flatMap fun y =>
      (List.range (min 64 (g.width - 64 * b))).map fun x => s.rowSample r.chan sl 0 (64 * b + x) y
    min 255 (quot 216 (sumNat l) (max 1 l.length * 2 ^ (depthBits g.depth - 8)))

/-- The two words of a block entry (table "Sounder record"): the mean and bit 2 of FLAGS follow from the picture, the costs and
the vector are the sounder's; the first picture of a stream reads INTER 0xFFFF (R217). -/
def blockWords (b : SoundBlock) (mean : Nat) (cut first : Bool) : Word × Word :=
  (w32 (at' (b.flags % 4 + 4 * b01 cut) 24 + at' mean 16 + min b.intra 65535),
   w32 (at' (if first then 65535 else min b.inter 65535) 16 + at' (b.mvY % 256) 8 + b.mvX % 256))

/-- SOUNDER_LINE: a sounder analyses the next composed line of the row with the earliest deadline, and finishes
some blocks of it, named by their index in the row (R216). -/
def soundLine (s : State) (wait sounder : Nat) (blocks : List (Nat × SoundBlock)) : State :=
  let s := (s.pass wait).turnRows
  let l := s.enc.rows.filterMap fun r =>
    match (s.ch r.chan).cfg, (s.bandsOf r.chan).idxOf? sounder with
    | some g, some k =>
      if !r.skip && r.bandStatus k = 3 && r.analysed k < s.linesComposed g r then some (r, k, g) else none
    | _, _ => none
  match minBy (fun p => s.composeDeadline p.1) l with
  | none => s
  | some (r, k, g) =>
    let lines := g.rowLines r.row
    let first := (s.ch r.chan).firstPic r.frame
    let n := r.analysed k + 1
    s.onRow r.chan r.frame r.row fun r =>
      { r with
        bands := setAt r.bands k n 0
        blocks := blocks.foldl (fun l (i, b) => aset l i (blockWords b (s.blockMean g r i) (g.blockCut r.row i) first)) r.blocks
        bandSt := if n = lines then setAt r.bandSt k 0 3 else r.bandSt }

/-- SOUNDING_DEADLINE: at S + T_row the unfinished bands of a row become PARTIAL, or STALE with the previous
picture's blocks where nothing was analysed (R217). -/
def soundDeadline (s : State) : State :=
  let l := s.enc.rows.filter fun r => r.capT.isSome && !r.skip && !s.sounded r
  match minBy (fun r => s.composeDeadline r) l with
  | none => s
  | some r =>
    let s := (s.toTime (s.composeDeadline r)).turnRows
    let h := s.ch r.chan
    let old := s.enc.rows.find? fun x => x.chan == r.chan && x.frame + h.phases == r.frame && x.row == r.row
    let oldBlocks := match old with | some x => x.blocks | none => []
    let stream := match h.cfg, h.lay with
      | some g, some l => ((l.rowStreams g r.frame r.row).head?.map (·.1)).getD 0
      | _, _ => 0
    let n := (s.bandsOf r.chan).length
    let inBand (k b : Nat) : Bool := match h.cfg with
      | some g => decide ((part g.ctuCols n k).1 * g.ctu ≤ 64 * b)
          && decide (64 * b < (part g.ctuCols n k).1 * g.ctu + g.bandWidth n k)
      | none => false
    (List.range n).foldl (fun s k =>
      if r.bandStatus k != 3 then s
      else
        let stale := r.analysed k = 0
        let s := s.onRow r.chan r.frame r.row fun x =>
          { x with
            bandSt := setAt x.bandSt k (if stale then 2 else 1) 3
            blocks := if stale then x.blocks ++ oldBlocks.filter (fun p => (alookup x.blocks p.1).isNone && inBand k p.1)
              else x.blocks }
        s.raise 0x05 0x08 stream r.chan) s

/-- SOUNDER_LINE. -/
def execSounderLine (wait sounder : Nat) (blocks : List (Nat × SoundBlock)) (s : State) :
    Host.Outcome State Fault Refusal := .next (soundLine s wait sounder blocks)

/-- SOUNDING_DEADLINE. -/
def execSoundingDeadline (s : State) : Host.Outcome State Fault Refusal := .next (soundDeadline s)

/-- The row guard at the earliest guard time: it acts on every task whose guard time has come and that is not complete (R235). A
task that completes in that clock is not guarded, so its completion comes before this, and the clock has passed after it. -/
def State.rowGuard (s : State) (t : TaskRec) : State :=
  let s := s.toTime t.guardT
  (((s.guardable.filter fun x => decide (x.guardT ≤ t.guardT)).foldl State.guardTask s).servePaths).pass 1

/-- ROW_GUARD: the clock runs on to the earliest guard time. -/
def execRowGuard (s : State) : Host.Outcome State Fault Refusal :=
  match minBy (·.guardT) s.guardable with
  | none => .next s
  | some t => .next (s.rowGuard t)

end Sys2Proof.Machine
end

