-- ==== Sys2Proof/Machine/Net.lean ====
section
/-!
DEFINITION. Network ports (chapter 14 of spec/ but its section on PTP): queues and shapers, gate lists, the choice of
the next frame, ingress classes and policers, links, and the commands of group 0x0B but those of PTP. What a frame
does to its sender when it starts stands in Machine/Tx.lean.
-/
namespace Sys2Proof.Machine

/-- A port, and a change of one. -/
def State.port (s : State) (p : Nat) : Port := tab s.net.ports p
def State.onPort (s : State) (p : Nat) (f : Port → Port) : State :=
  s.onNet fun n => { n with ports := upd n.ports p f }

/-- A queue, and a change of one. -/
def State.queue (s : State) (q : Nat) : Queue := tab s.net.queues q
def State.onQueue (s : State) (q : Nat) (f : Queue → Queue) : State :=
  s.onNet fun n => { n with queues := upd n.queues q f }

/-- A port can send: enabled, and its link up (R411). -/
def Port.sends (p : Port) : Bool := p.enable && p.up

/-- The lanes of a port (R446). -/
def portLanes : Nat → List Nat
  | 0 => [16, 17, 18, 19]
  | 1 => [20, 21, 22, 23]
  | 2 => [24]
  | 3 => [25]
  | _ => []

/-- A lane of a port is under test: the port sees no valid data (R463). -/
def State.portTested (s : State) (p : Nat) : Bool := (portLanes p).any fun l => (tab s.lane.lanes l).test != 0

/-- A port can receive. -/
def State.hears (s : State) (p : Nat) : Bool := (s.port p).sends && !s.portTested p

/-! ### Buckets and queues (R416, R417, R420, R421) -/

/-- The counted length of a frame on a port (R417). -/
def State.counted (s : State) (p len : Nat) : Nat := len + (s.port p).overhead

/-- The buckets of a queue filled up to a core clock. An empty queue in VIRTUAL_TIME does not fill. -/
def Queue.fill (q : Queue) (clk : Nat) : Queue :=
  if q.virt && q.frames.isEmpty then { q with since := clk }
  else
    let n := clk - q.since
    { q with
      cLevel := min (q.cLevel + q.cir * n) (q.cbs * byteU)
      pLevel := min (q.pLevel + q.pir * n) (q.pbs * byteU)
      since := clk }

/-- Bytes of a queue's frames. -/
def Queue.bytes (q : Queue) : Nat := q.frames.foldl (fun n f => n + f.len) 0

/-- A queue's well holds 512 KiB (R416). -/
def queueCap : Nat := 524288

/-- A frame enters a queue; in VIRTUAL_TIME the buckets of an empty queue wake at no less than its counted length. -/
def State.enqueue (s : State) (q : Nat) (f : QFrame) : State :=
  let n := s.counted (q / 64) f.len * byteU
  s.onQueue q fun x =>
    let wakes := x.virt && x.frames.isEmpty
    let x := x.fill s.clk
    { x with
      cLevel := if wakes then max x.cLevel n else x.cLevel
      pLevel := if wakes then max x.pLevel n else x.pLevel
      frames := x.frames ++ [f] }

/-- Core clocks until a bucket holds a counted length. -/
def bucketWait (rate : Nat) (level : Int) (need : Nat) : Nat :=
  if rate = 0 || (need : Int) ≤ level then 0 else ceilDiv ((need : Int) - level).toNat rate

/-- Both buckets of a queue hold a counted length, a rate of 0 always passing (R420). -/
def Queue.passes (q : Queue) (need : Nat) : Bool :=
  (q.cir == 0 || decide (need ≤ q.cLevel)) && (q.pir == 0 || decide (need ≤ q.pLevel))

/-! ### Gate lists (R425 to R430) -/

/-- The interval of an entry in time units. -/
def entryTime (w : Word) : Nat := fld w 22 0 * 8 * nsU

/-- The entry of a list at a time: its word and when it ends; a time before the start falls in an earlier cycle (R429). -/
def GateList.entry (g : GateList) (t : Nat) : Option (Word × Nat × Nat) :=
  let c := g.cycle * nsU
  let rel := (((t : Int) - g.start) % c).toNat
  let rec go (i off : Nat) : List Word → Option (Word × Nat × Nat)
    | [] => none
    | w :: rest => if rel < off + entryTime w then some (w, t + (off + entryTime w - rel), i) else go (i + 1) (off + entryTime w) rest
  go 0 0 g.entries

/-- The entry that governs a port at a time and the time of its end, none without end; the scheduled list governs from
its start (R426, R428). Without a list every gate is open. -/
def Port.gateAt (p : Port) (t : Nat) : Word × Option Nat :=
  let all : Word := 0xFF000000
  let of (l : Option GateList) (stop : Option Nat) : Word × Option Nat :=
    match l.bind (fun g => if g.entries.isEmpty then none else g.entry t) with
    | some (w, e, _) => (w, match stop with | some x => some (min x e) | none => some e)
    | none => (all, stop)
  match p.nextGates with
  | some n => if n.start ≤ t then of (some n) none else of p.gates (some n.start)
  | none => of p.gates none

/-- Whether the gate of a traffic class is open in an entry. -/
def gateOpen (w : Word) (tc : Nat) : Bool := bit w (24 + tc)

/-- The close of the open run of a class from a time on, none where it does not close within the entries looked at. -/
def Port.closeAt (p : Port) (tc : Nat) : Nat → Nat → Option Nat
  | 0, _ => none
  | n + 1, t =>
    let (w, e) := p.gateAt t
    if !gateOpen w tc then some t
    else match e with
      | some x => p.closeAt tc n x
      | none => none

/-- Entries looked at: two lists of 256 and the cut of one by the other's start. -/
def gateFuel : Nat := 1024

/-- Units of time that a counted length takes at a port's line rate, numerator over 100 (R409). -/
def lineU (p counted : Nat) : Nat := counted * 8 * nsU * (if p < 2 then 1 else 4)

/-- A counted length ends by the close of its gate's open run (R426). -/
def Port.fits (p : Port) (ix tc counted t : Nat) : Bool :=
  match p.closeAt tc gateFuel t with
  | some c => decide (lineU ix counted ≤ (c - t) * 100)
  | none => true

/-- The first time from t on at which the gate is open and the frame fits, or its entry permits overrun. -/
def Port.startAt (p : Port) (ix tc counted : Nat) : Nat → Nat → Option Nat
  | 0, _ => none
  | n + 1, t =>
    let (w, e) := p.gateAt t
    if gateOpen w tc && (bit w 23 || p.fits ix tc counted t) then some t
    else match e with
      | some x => p.startAt ix tc counted n x
      | none => none

/-- The first time from t on at which the gate is open. -/
def Port.openAt (p : Port) (tc : Nat) : Nat → Nat → Option Nat
  | 0, _ => none
  | n + 1, t =>
    let (w, e) := p.gateAt t
    if gateOpen w tc then some t
    else match e with
      | some x => p.openAt tc n x
      | none => none

/-! ### The choice of the next frame (R418) -/

/-- The queues of a port that hold a frame: number, queue with its buckets filled, head. -/
def State.heads (s : State) (p : Nat) : List (Nat × Queue × QFrame) :=
  (List.range 64).filterMap fun o =>
    let q := (s.queue (64 * p + o)).fill s.clk
    match q.frames with
    | f :: _ => some (64 * p + o, q, f)
    | [] => none

/-- The device time from which a head asks to start: release, paced time, buckets, idle transmitter. -/
def State.readyAt (s : State) (p : Nat) (q : Queue) (f : QFrame) : Nat :=
  let need := s.counted p f.len * byteU
  let n := max ((s.port p).idleAt - s.clk) (max (bucketWait q.cir q.cLevel need) (bucketWait q.pir q.pLevel need))
  max (max f.release f.paced) (s.now + n * s.time.addend)

/-- The moment at which a head may start, or at which it is found too long for its window. -/
def State.headTime (s : State) (p : Nat) (q : Queue) (f : QFrame) : Option Nat :=
  let t := s.readyAt p q f
  if f.held then (s.port p).startAt p q.tc (s.counted p f.len) gateFuel t else (s.port p).openAt q.tc gateFuel t

/-- A head that may start now (R418, R430). -/
def State.startable (s : State) (p : Nat) (q : Queue) (f : QFrame) : Bool :=
  let (w, _) := (s.port p).gateAt s.now
  let n := s.counted p f.len
  decide (f.release ≤ s.now) && decide (f.paced ≤ s.now) && gateOpen w q.tc && q.passes (n * byteU)
    && (bit w 23 || (s.port p).fits p q.tc n s.now)

/-- The queue chosen among startable heads: highest class, earliest release, then R37 over queue numbers. -/
def State.choose (s : State) (p : Nat) (l : List (Nat × Queue × QFrame)) : Option (Nat × QFrame) :=
  let tc := l.foldl (fun m x => max m x.2.1.tc) 0
  let l := l.filter (·.2.1.tc == tc)
  let rel := match minBy (fun x => x.2.2.release) l with | some x => x.2.2.release | none => 0
  let l := l.filter (·.2.2.release == rel)
  match rotPick (tab s.net.ptrs p) 64 (l.map fun x => x.1 % 64) with
  | some o => (l.find? (fun x => x.1 == 64 * p + o)).map fun x => (x.1, x.2.2)
  | none => none

/-- A frame leaves its queue and is sent whole: both buckets pay, the transmitter is busy, a late start is a slip
(R418, R419). -/
def State.sendFrame (s : State) (p q : Nat) (f : QFrame) : State :=
  let n := s.counted p f.len
  let x := s.port p
  let slip := !f.late && decide (f.release + x.slip * usU < s.now)
  let s := if slip && !(s.queue q).slipping then s.raise 0x0B 0x06 p else s
  let s := s.onQueue q fun y =>
    let y := y.fill s.clk
    { y with
      frames := y.frames.drop 1, sent := y.sent + 1, slipping := slip
      cLevel := y.cLevel - n * byteU, pLevel := y.pLevel - n * byteU }
  let s := s.onPort p fun x =>
    { x with sent := x.sent + 1, slips := if slip then x.slips + 1 else x.slips, downRaised := false
             idleAt := s.clk + ceilDiv (lineU p n) (100 * s.time.addend) }
  (s.onNet fun n => { n with ptrs := upd n.ptrs p fun _ => (q + 1) % 64 }).emit (.frame p q n f.content) []

/-! ### Commands of group 0x0B -/

/-- The channel that a video stream belongs to runs. -/
def State.streamRuns (s : State) (i : Nat) : Bool :=
  if i < 32 then (s.strm i).used && s.runs (s.strm i).chan else (tab s.pkg.audio (i - 32)).on

/-- Streams 0 to 39 whose packets a port carries: path 0 always, path 1 with DUAL (log entry 34). -/
def State.onPath (s : State) (i p : Nat) : Bool :=
  let dual := if i < 32 then (tab s.pkg.video i).dual else (tab s.pkg.audio (i - 32)).dual
  p == 0 || (p == 1 && dual)

/-- A port carries a queue of a running stream. -/
def State.portCarries (s : State) (p : Nat) : Bool :=
  (List.range 40).any fun i => s.streamRuns i && s.onPath i p

/-- The MAC address of a port in force (R410). -/
def State.macOf (s : State) (p : Nat) : Nat := (s.port p).mac.getD (Config.factoryMac p % 2 ^ 48)

/-- PORT_CONFIG (0x0B00; R410, R417, R419, R445). -/
def hPortConfig (c : Vx) (s : State) : Res :=
  let w := c.w 2
  let p := fld w 1 0
  let mac := (c.w 3).toNat + fld (c.w 4) 15 0 * 4294967296
  refuseRsv c [(2, msk 23 8 + msk 3 0 - msk 15 14), (4, msk 15 0)] <|
  refuse (s.portCarries p) .badState noWord <|
  refuse (s.net.ptp.cfg.on && s.net.ptp.cfg.port == p && s.time.mode == 2) .badState noWord <|
  let s := s.onPort p fun x =>
    { x with
      enable := bit w 2, fec := bit w 3
      overhead := if fld w 13 8 = 0 then 20 else fld w 13 8
      slip := if fld w 23 16 = 0 then 1 else fld w 23 16
      mac := if mac = 0 then none else some mac
      ipv4 := c.w 5, ipv6 := [c.w 6, c.w 7, c.w 8, c.w 9] }
  .ok [s.macOf p % 4294967296] s

/-- PORT_QUERY (0x0B01). -/
def hPortQuery (c : Vx) (s : State) : Res :=
  let p := s.port (fld (c.w 2) 1 0)
  refuseRsv c [(2, msk 1 0)] <|
  .ok [b01 p.sends, p.sent.toNat, p.received.toNat, p.corrected.toNat, p.uncorrectable.toNat, p.unclassified.toNat,
    p.discarded.toNat, p.slips.toNat] s

/-- The largest frame that a queue can carry, in bytes (log entry 35): headers of its kind and the largest payload. -/
def State.maxFrame (s : State) (q : Nat) : Nat :=
  let o := q % 64
  if o < 32 then (tab s.pkg.video o).maxUdp + 8 + 40 + 22
  else if o < 40 then (tab s.pkg.audio (o - 32)).maxUdp + 8 + 40 + 22
  else if o = 40 then 64 + 8 + 40 + 22
  else if o = 41 then 1480 + 20 + 22
  else 9216

/-- QUEUE_CONFIG of a queue of a running stream must carry STAGE (R445). -/
def queueNeedStage (c : Vx) (s : State) : Bool :=
  let q := fld (c.w 2) 7 0
  q % 64 < 40 && s.streamRuns (q % 64) && s.onPath (q % 64) (q / 64)

/-- QUEUE_CONFIG (0x0B10; R420 to R422). The levels that the buckets start with are not stated and free. -/
def hQueueConfig (c : Vx) (s : State) : Res :=
  let w := c.w 2
  let q := fld w 7 0
  let n := s.counted (q / 64) (s.maxFrame q)
  let (cir, cbs, pir, pbs) := ((c.w 3).toNat, (c.w 4).toNat, (c.w 5).toNat, (c.w 6).toNat)
  refuseRsv c [(2, msk 11 0)] <|
  refuse (cir != 0 && decide (cbs < n)) .badParam 4 <|
  refuse (pir != 0 && decide (pbs < n)) .badParam 6 <|
  refuse (pir != 0 && decide (pir < cir)) .badParam 5 <|
  .ok [] (s.onQueue q fun x =>
    { x with
      tc := fld w 10 8, virt := bit w 11, cir := cir, cbs := cbs, pir := pir, pbs := pbs, since := s.clk
      cLevel := s.freeVal 420 q % (cbs * byteU + 1), pLevel := s.freeVal 421 q % (pbs * byteU + 1) }).drawn

/-- QUEUE_QUERY (0x0B11). -/
def hQueueQuery (c : Vx) (s : State) : Res :=
  let q := (s.queue (fld (c.w 2) 7 0)).fill s.clk
  refuseRsv c [(2, msk 7 0)] <|
  .ok [q.bytes, q.sent.toNat, (wInt (quotI 422 q.cLevel byteU)).toNat, (wInt (quotI 423 q.pLevel byteU)).toNat] s

/-- GATE_WRITE (0x0B20; R425). -/
def hGateWrite (c : Vx) (s : State) : Res :=
  let p := fld (c.w 2) 1 0
  let first := fld (c.w 2) 15 8
  let n := min (c.len - 1) 12
  let ws := (List.range n).map fun i => c.w (3 + i)
  let short := (List.range n).find? fun i => decide (fld (c.w (3 + i)) 22 0 < 13)
  refuseRsv c [(2, msk 15 8 + msk 1 0)] <|
  refuse (n == 0 || decide (256 < first + n)) .badParam 2 <|
  refuse short.isSome .badParam (3 + short.getD 0) <|
  .ok [] (s.onPort p fun x =>
    { x with pending := x.pending.take first ++ ws ++ x.pending.drop (first + n) })

/-- GATE_SET (0x0B21; R425, R427). -/
def hGateSet (c : Vx) (s : State) : Res :=
  let w := c.w 2
  let p := fld w 1 0
  let cyc := (c.w 6).toNat
  let l := (s.port p).pending.take (fld w 15 8 + 1)
  let sum := l.foldl (fun n e => n + fld e 22 0 * 8) 0
  let base := Vx.time c 3
  refuse (badNs (c.w 3)) .badParam 3 <|
  refuseRsv c [(2, msk 15 8 + msk 2 0), (5, msk 15 0)] <|
  refuse (decide (cyc < 1000) || decide (1000000000 < cyc)) .badParam 6 <|
  refuse (bit w 2 && sum != cyc) .badParam 6 <|
  let soon := s.now + usU
  let passed := decide (base < soon)
  let start := if passed then base + ceilDiv (soon - base) (cyc * nsU) * (cyc * nsU) else base
  let s := if passed then s.raise 0x0B 0x07 p else s
  .ok (timeNats start) (s.onPort p fun x => { x with nextGates := some ⟨if bit w 2 then l else [], start, cyc⟩ })

/-- GATE_QUERY (0x0B22). -/
def hGateQuery (c : Vx) (s : State) : Res :=
  let p := s.port (fld (c.w 2) 1 0)
  refuseRsv c [(2, msk 1 0)] <|
  match p.gates with
  | some g =>
    let cur := match g.entry s.now with | some (_, _, i) => i | none => 0
    .ok ([1 + at' cur 8] ++ timeNats g.start ++ [p.held.toNat]) s
  | none => .ok [0, 0, 0, 0, p.held.toNat] s

/-- POLICER_CONFIG of a class that an enabled feed uses must carry STAGE (R445). -/
def policerNeedStage (c : Vx) (s : State) : Bool :=
  fld (c.w 2) 3 2 == 2 && s.dec.feeds.any fun f => f.st != 0 && f.port == fld (c.w 2) 1 0

/-- POLICER_CONFIG (0x0B30; R414). The level that the bucket starts with is not stated and free. -/
def hPolicerConfig (c : Vx) (s : State) : Res :=
  let p := fld (c.w 2) 1 0
  let k := fld (c.w 2) 3 2
  let burst := (c.w 4).toNat
  refuseRsv c [(2, msk 3 0)] <|
  refuse (decide (burst < 9279)) .badParam 4 <|
  .ok [] (s.onPort p fun x =>
    { x with policers := upd x.policers k fun y =>
        { y with rate := (c.w 3).toNat, burst := burst, since := s.clk
                 level := s.freeVal 414 (4 * p + k) % (burst * byteU + 1) } }).drawn

/-! ### Ingress (R410 to R414) -/

/-- The addresses of PTP messages (R432). -/
def ptpV4 : Word := 0xE0000181
def ptpV6 : List Word := [0xFF0E0000, 0, 0, 0x181]

/-- A port's own address of a version. -/
def Port.addrs (p : Port) (v6 : Bool) : List Word := if v6 then p.ipv6 else [p.ipv4]

/-- The class of a frame: 0 PTP, 1 SKOV, 2 RETURN, 3 MGMT, the first that matches (R413). -/
def State.ingress (s : State) (p : Nat) (f : RxFrame) : Option Nat :=
  let own := (s.port p).addrs f.ipv6 == f.addr
  let ptp := s.net.ptp.cfg
  if ptp.on && ptp.port == p && (f.udp == some 319 || f.udp == some 320)
      && (own || f.addr == (if f.ipv6 then ptpV6 else [ptpV4])) then some 0
  else if f.etherType == s.cl.etherType then some 1
  else if s.dec.feeds.any fun r =>
      r.st != 0 && r.port == p && r.ipv6 == f.ipv6 && (if r.ipv6 then r.addr else r.addr.take 1) == f.addr
        && f.udp == some r.udp then some 2
  else if f.mgmt == 1 || f.mgmt == 2 || f.mgmt == 5 || ((f.mgmt == 3 || f.mgmt == 4) && own) then some 3
  else none

/-- A bucket of a policer filled up to a core clock. -/
def Policer.fill (x : Policer) (clk : Nat) : Policer :=
  { x with level := min (x.level + x.rate * (clk - x.since)) (x.burst * byteU), since := clk }

/-- Once in each second: whether this second has had none. -/
def State.firstIn (s : State) (last : Option Nat) : Bool := last != some s.second

/-- NET:0x02 for a port's second with uncorrectable codewords, once that second is over (R412). -/
def State.tellBad (s : State) (p : Nat) : State :=
  match (s.port p).badAt with
  | some x => if x < s.second then (s.raise 0x0B 0x02 p).onPort p fun x => { x with badAt := none } else s
  | none => s

/-- PORT_RX_FRAME (R410, R412 to R414). -/
def rxFrame (s : State) (wait p : Nat) (f : RxFrame) : State :=
  let s := s.pass wait
  if 3 < p || !s.hears p then s
  else
  let s := s.onPort p fun x => { x with corrected := x.corrected + w32 f.fixedCodewords }
  if f.badCodewords != 0 then (s.tellBad p).onPort p fun x =>
    { x with uncorrectable := x.uncorrectable + w32 f.badCodewords, badAt := some s.second }
  else if f.pause then
    let first := s.firstIn (s.port p).pauseAt
    let s := s.onPort p fun x => { x with pauseAt := some s.second, received := x.received + 1 }
    if first then s.raise 0x0B 0x09 p else s
  else
    let s := s.onPort p fun x => { x with received := x.received + 1 }
    match s.ingress p f with
    | none =>
      let first := s.firstIn (s.port p).unclassAt
      let s := s.onPort p fun x => { x with unclassAt := some s.second, unclassified := x.unclassified + 1 }
      if first then s.raise 0x0B 0x04 p else s
    | some k =>
      let x := (tab (s.port p).policers k).fill s.clk
      let n := s.counted p f.len * byteU
      if n ≤ x.level then
        s.onPort p fun y => { y with policers := upd y.policers k fun _ => { x with level := x.level - n } }
      else
        let first := s.firstIn x.raised
        let s := s.onPort p fun y =>
          { y with policers := upd y.policers k fun _ => { x with drops := x.drops + 1, raised := some s.second } }
        if first then s.raise 0x0B 0x03 p else s

/-- The addresses for which Vehitrix answers: those of PORT_CONFIG, and while the module is active the source addresses
of the packaging templates (R407, R413). -/
def State.answersFor (s : State) (p : Nat) (v6 : Bool) (a : List Word) : Bool :=
  let tmpls := (s.pkg.video.flatMap (·.tmpl) ++ s.pkg.audio.flatMap (·.tmpl)).filterMap id
  (s.port p).addrs v6 == a ||
    (!s.standby && p < 2 && tmpls.any fun t =>
      let w (k : Nat) : Word := t.words.getD (k - 2) 0
      bit (w 2) 21 == v6 && fld (w 2) 20 20 == p && (if v6 then [w 8, w 9, w 10, w 11] else [w 11]) == a)

/-- MGMT_RX: ARP, Neighbour Solicitations and echo requests for own addresses are answered through queue 42; other
management frames are discarded (R413). -/
def mgmtRx (s : State) (wait p kind : Nat) (target : List Word) (len : Nat) : State :=
  let s := s.pass wait
  if 3 < p || !s.hears p then s
  else if 1 ≤ kind && kind ≤ 4 && s.answersFor p (kind == 2 || kind == 4) target then
    let n := if kind = 1 then 64 else if kind = 2 then 90 else len
    s.enqueue (64 * p + 42) { len := n, release := s.now, content := .reply kind target }
  else s

/-! ### Happenings -/

/-- PORT_RX_FRAME. -/
def execPortRxFrame (wait port : Nat) (f : RxFrame) (s : State) : Host.Outcome State Fault Refusal :=
  .next (rxFrame s wait port f)

/-- MGMT_RX. -/
def execMgmtRx (wait port kind : Nat) (target : List Word) (len : Nat) (s : State) :
    Host.Outcome State Fault Refusal :=
  .next (mgmtRx s wait port kind target len)

/-- The dual-path running streams that use a port. -/
def State.dualOn (s : State) (p : Nat) : List Nat :=
  (List.range 40).filter fun i =>
    s.streamRuns i && p < 2 && (if i < 32 then (tab s.pkg.video i).dual else (tab s.pkg.audio (i - 32)).dual)

/-- The channel of a stream for a fault report. -/
def State.streamChan (s : State) (i : Nat) : Nat := if i < 32 then (s.strm i).chan else 0xFF

/-- PORT_LINK_DOWN: NET:0x01, PORT_LINK, and PACKAGE:0x02 once for the outage of each dual-path stream (R403, R411). -/
def execPortLinkDown (wait port : Nat) (s : State) : Host.Outcome State Fault Refusal :=
  let s := s.pass wait
  if 3 < port || !(s.port port).up then .next s
  else
    let s := s.onPort port fun x => { x with up := false, downRaised := false }
    let s := (s.raiseOn 0x0B 0x01 port).event 0x0B01 0xFF 27 [port]
    .next ((s.dualOn port).foldl (fun s i => s.raiseOn 0x0A 0x02 i (s.streamChan i)) s)

/-- PORT_LINK_UP (R411). -/
def execPortLinkUp (wait port : Nat) (s : State) : Host.Outcome State Fault Refusal :=
  let s := s.pass wait
  if 3 < port || (s.port port).up || s.portTested port then .next s
  else
    let s := (s.onPort port fun x => { x with up := true, downRaised := false }).causeOff 0x0B 0x01 port
    -- a path is down while one of N0 and N1 is
    let s := if (s.port 0).up && (s.port 1).up then
        s.onFlt fun f => { f with causes := f.causes.filter fun q => !(q.cls == 0x0A && q.code == 0x02) }
      else s
    .next (s.event 0x0B01 0xFF 27 [port + 256])

/-- FEC_SECOND: the clock runs on to the end of the first second in which codewords were uncorrectable (R412). -/
def execFecSecond (s : State) : Host.Outcome State Fault Refusal :=
  match minBy id ((List.range 4).filterMap fun p => (s.port p).badAt) with
  | none => .next s
  | some x => .next ((List.range 4).foldl State.tellBad (s.toTime ((x + 1) * secU)))

/-- GATE_LIST_START: the clock runs on to the first scheduled start, where the new list replaces the old one (R428). -/
def execGateListStart (s : State) : Host.Outcome State Fault Refusal :=
  match minBy (·.2.start) ((List.range 4).filterMap fun p => (s.port p).nextGates.map fun g => (p, g)) with
  | none => .next s
  | some (p, g) =>
    let s := s.toTime g.start
    let s := s.onPort p fun x => { x with gates := if g.entries.isEmpty then none else some g, nextGates := none }
    .next (if g.entries.isEmpty then s else s.event 0x0B04 0xFF 27 [p, g.entries.length])

/-- GATE_ENTRY_CHANGE: the clock runs on to the next entry boundary of an operational list; from then on the next
entry's gates are open (R426). -/
def execGateEntryChange (s : State) : Host.Outcome State Fault Refusal :=
  let ends := (List.range 4).filterMap fun p =>
    match (s.port p).gates with
    | some g => (g.entry s.now).map (·.2.1)
    | none => none
  match minBy id ends with
  | none => .next s
  | some t => .next (s.toTime t)

end Sys2Proof.Machine
end

