-- ==== Sys2Proof/Machine/Package.lean ====
section
/-!
DEFINITION. Stream packaging (chapter 13 of spec/): time code, packets of a row, transport stream, audio packets, and
the commands of group 0x0A.
-/
namespace Sys2Proof.Machine

/-- A video stream's packaging, and a change of it; the same of an audio stream. -/
def State.pv (s : State) (i : Nat) : PkgV := tab s.pkg.video i
def State.onPv (s : State) (i : Nat) (f : PkgV → PkgV) : State :=
  s.onPkg fun p => { p with video := upd p.video i f }
def State.pa (s : State) (i : Nat) : PkgA := tab s.pkg.audio i
def State.onPa (s : State) (i : Nat) (f : PkgA → PkgA) : State :=
  s.onPkg fun p => { p with audio := upd p.audio i f }

/-- Word k of a template. -/
def Template.w (t : Template) (k : Nat) : Word := t.words.getD (k - 2) 0

/-- Bytes around the RTP packet in a frame: Ethernet, VLAN, IP, UDP, FCS. -/
def Template.around (t : Template) : Nat :=
  14 + (if bit (t.w 2) 22 then 4 else 0) + (if bit (t.w 2) 21 then 40 else 20) + 8 + 4

/-- The destination that a template names: version, address, port. -/
def Template.dest (t : Template) : Bool × List Word × Nat :=
  let v6 := bit (t.w 2) 21
  (v6, if v6 then [t.w 12, t.w 13, t.w 14, t.w 15] else [t.w 15], fld (t.w 7) 15 0)

/-- The two templates of a dual-path stream name one destination (R403). -/
def sameDest (dual : Bool) : List (Option Template) → Bool
  | [some a, some b] => dual && a.dest == b.dest
  | _ => false

/-! ### Packet headers (R390) -/

/-- The ones' complement sum of 16-bit words, complemented: the Internet checksum. -/
def netSum (l : List Byte) : Nat :=
  let rec words : List Byte → Nat
    | a :: b :: rest => 256 * a.toNat + b.toNat + words rest
    | [a] => 256 * a.toNat
    | [] => 0
  let n := words l
  let fold (n : Nat) : Nat := n % 65536 + n / 65536
  65535 - fold (fold (fold n))

/-- The bytes of words, most significant first. -/
def wordBytes (l : List Word) : List Byte := l.flatMap fun w => beBytes 4 w.toNat

/-- What an RTP packet says besides its template: payload type, SSRC, UDP_CSUM, and its header's fields (R387, R390 to R392). -/
structure RtpHead where
  pt : Nat
  ssrc : Word
  csum : Bool
  seq : Nat
  ts : Nat
  marker : Bool
  ext : List Byte

/-- The fixed RTP header. -/
def RtpHead.bytes (r : RtpHead) : List Byte :=
  [BitVec.ofNat 8 (0x80 + (if r.ext.isEmpty then 0 else 0x10)), BitVec.ofNat 8 (r.pt % 128 + at' (b01 r.marker) 7)]
    ++ beBytes 2 r.seq ++ beBytes 4 r.ts ++ beBytes 4 r.ssrc.toNat

/-- The headers of a frame that carries `n` bytes of payload: Ethernet, VLAN, IP, UDP and RTP. The bytes of `data` are that payload
where the model holds them; else a UDP checksum over them is `sum`, free. The IPv6 flow label, which the template does not
give, is 0 (PRESUMED, log entry 81). -/
def Template.header (t : Template) (r : RtpHead) (n : Nat) (data : List Byte) (sum : Nat) : List Byte :=
  let v6 := bit (t.w 2) 21
  let udpLen := 8 + 12 + r.ext.length + n
  let dscp := fld (t.w 2) 31 26
  let ttl := BitVec.ofNat 8 (fld (t.w 3) 31 24)
  let src := if v6 then wordBytes [t.w 8, t.w 9, t.w 10, t.w 11] else wordBytes [t.w 11]
  let dst := if v6 then wordBytes [t.w 12, t.w 13, t.w 14, t.w 15] else wordBytes [t.w 15]
  let ether := beBytes 2 (fld (t.w 5) 15 0) ++ wordBytes [t.w 4] ++ beBytes 2 (fld (t.w 5) 31 16) ++ wordBytes [t.w 6]
    ++ (if bit (t.w 2) 22 then beBytes 2 0x8100 ++ beBytes 2 (at' (fld (t.w 2) 25 23) 13 + fld (t.w 3) 11 0) else [])
    ++ beBytes 2 (if v6 then 0x86DD else 0x0800)
  let v4 (chk : Nat) : List Byte := [0x45, BitVec.ofNat 8 (4 * dscp)] ++ beBytes 2 (20 + udpLen) ++ beBytes 2 0 ++ beBytes 2 0x4000
    ++ [ttl, 17] ++ beBytes 2 chk ++ src ++ dst
  let ip := if v6 then beBytes 4 (at' 6 28 + at' dscp 22) ++ beBytes 2 udpLen ++ [17, ttl] ++ src ++ dst else v4 (netSum (v4 0))
  let udp (chk : Nat) : List Byte := beBytes 2 (fld (t.w 7) 31 16) ++ beBytes 2 (fld (t.w 7) 15 0) ++ beBytes 2 udpLen ++ beBytes 2 chk
  let chk :=
    if !v6 && !r.csum then 0
    else if data.length != n then sum % 65536
    else
      let c := netSum (src ++ dst ++ beBytes 4 17 ++ beBytes 4 udpLen ++ udp 0 ++ r.bytes ++ r.ext ++ data)
      if c = 0 then 65535 else c
  ether ++ ip ++ udp chk ++ r.bytes

/-! ### RTP time (R391, R398, R399) -/

/-- floor(t x rate) of a device time. -/
def ticksOf (t rate : Nat) : Nat := t * rate / secU

/-! ### Time code (R231, R393) -/

/-- The count rate F_tc as a fraction, and its nominal frames in a second. -/
def tcRate (g : ChCfg) : Q × Nat :=
  let ntsc := g.fden == 1001
  let f : Q := ⟨g.fnum, g.fden⟩
  let mk (n : Nat) : Q := if ntsc then ⟨n * 1000, 1001⟩ else ⟨n, 1⟩
  if f.num ≤ 60 * f.den then (f, (f.num + f.den - 1) / f.den)
  else
    let divides (n : Nat) : Bool := let q := f.div (mk n); q.num % q.den == 0
    match [60, 50, 30, 25, 24].find? divides with
    | some n => (mk n, n)
    | none => (mk 60, 60)

/-- Whether drop-frame counting is used: at 30,000/1,001 and 60,000/1,001. -/
def tcDrop (f : Q) : Bool := f.num * 1001 == 30000 * f.den || f.num * 1001 == 60000 * f.den

/-- Hours, minutes, seconds and frames of a frame count, with drop-frame numbering where it applies. -/
def tcFields (drop : Bool) (nom n : Nat) : Nat × Nat × Nat × Nat :=
  let n := if !drop then n
    else
      -- two numbers a minute (four at 60) are left out but in every tenth minute
      let k := nom / 15
      let ten := 600 * nom - 9 * k
      let one := 60 * nom - k
      let d := n / ten
      let m := n % ten
      n + 9 * k * d + (if k < m then k * ((m - k) / one) else 0)
  (n / (3600 * nom) % 24, n / (60 * nom) % 60, n / nom % 60, n % nom)

/-- The 64 bits of the SMPTE ST 12-1 time address with zero binary groups, big-endian (bit places PRESUMED from ST 12-1,
log entry 38): BCD hours, minutes, seconds, frames, drop flag, and above 30 a frame pair with the pair flag. -/
def tcBytes (drop : Bool) (nom : Nat) (x : Nat × Nat × Nat × Nat) : List Byte :=
  let (h, m, sec, f) := x
  let pair := 30 < nom
  let fr := if pair then f / 2 else f
  let flag := pair && f % 2 == 1
  let v := fr % 10 + at' (fr / 10) 8 + at' (b01 drop) 10 + at' (sec % 10) 16 + at' (sec / 10) 24
    + at' (b01 (flag && nom != 50)) 27 + at' (m % 10) 32 + at' (m / 10) 40 + at' (h % 10) 48 + at' (h / 10) 56
    + at' (b01 (flag && nom == 50)) 59
  beBytes 8 v

/-- The UTC offset in force (R441). -/
def State.utc (s : State) : Int := s.net.ptp.utc.getD (s.net.ptp.cfg.utc : Int)

/-- The device time code of a picture captured at t (R393). -/
def deviceCode (s : State) (g : ChCfg) (tcOffset : Int) (t : Nat) : List Byte :=
  let (f, nom) := tcRate g
  let drop := tcDrop f
  let u : Int := (t : Int) + (tcOffset - s.utc) * (secU : Int)
  let n := u * f.num / ((f.den * secU : Nat) : Int)
  let day := if drop then 144 * (600 * nom - 9 * (nom / 15)) else 86400 * nom
  tcBytes drop nom (tcFields drop nom (n % day).toNat)

/-- Hours, minutes, seconds and frames of a time address, and its drop flag (bit places as in `tcBytes`). -/
def tcParse (nom v : Nat) : (Nat × Nat × Nat × Nat) × Bool :=
  let bcd (lo hi w : Nat) : Nat := v / 2 ^ lo % 16 + 10 * (v / 2 ^ hi % w)
  let f := bcd 0 8 4
  let pair := if nom = 50 then nbit v 59 else nbit v 27
  ((bcd 48 56 4, bcd 32 40 8, bcd 16 24 8, if 30 < nom then 2 * f + b01 pair else f), nbit v 10)

/-- The frame count of a time address: the inverse of `tcFields`. -/
def tcCount (drop : Bool) (nom : Nat) (x : Nat × Nat × Nat × Nat) : Nat :=
  let (h, m, sec, f) := x
  let minutes := 60 * h + m
  ((minutes * 60 + sec) * nom + f) - (if drop then nom / 15 * (minutes - minutes / 10) else 0)

/-- A camera's time code advanced by frames of the camera (R231), its binary groups kept. Above 60 frames/s a count lasts several
frames, and how many counts the advance makes is free. -/
def cameraCode (s : State) (g : ChCfg) (code : List Byte) (frames : Nat) : List Byte :=
  let (_, nom) := tcRate g
  let v := beNat code
  let (x, drop) := tcParse nom v
  let day := if drop then 144 * (600 * nom - 9 * (nom / 15)) else 86400 * nom
  let n := if g.fnum ≤ 60 * g.fden then frames else s.freeVal 231 v % (frames + 1)
  let groups := (List.range 8).foldl (fun a k => a + v / 2 ^ (8 * k + 4) % 16 * 2 ^ (8 * k + 4)) 0
  beBytes 8 (beNat (tcBytes drop nom (tcFields drop nom ((tcCount drop nom x + n) % day))) + groups)

/-- The camera's time code that a frame's pictures carry: where SEI_CONFIG selects it and one came in the last two frames. -/
def State.cameraTime (s : State) (c frame : Nat) : Option (List Byte × Nat) :=
  if (s.ch c).sei.camera then ((s.ch c).notes.find? (·.frame == frame)).bind (·.code) else none

/-- The time code of a picture: the camera's, else derived from device time (R231, R393). -/
def State.timeCode (s : State) (c frame : Nat) (g : ChCfg) (tcOffset : Int) (t : Nat) : List Byte :=
  match s.cameraTime c frame with
  | some (code, n) => cameraCode s g code n
  | none => deviceCode s g tcOffset t

/-! ### Header extensions (R389) -/

/-- An extension of elements (ID, data): header of 4 bytes, one byte for each element, padded to 4. Its size E is 0
without elements. -/
def extBytes (l : List (Nat × List Byte)) : List Byte :=
  if l.isEmpty then []
  else
    let body := l.flatMap fun (i, d) => BitVec.ofNat 8 (i * 16 + d.length - 1) :: d
    let n := ceilDiv body.length 4
    beBytes 2 0xBEDE ++ beBytes 2 n ++ body ++ List.replicate (4 * n - body.length) 0

/-- R_h in bits per second (R245, R248): M / N over T_row. -/
def State.rh (s : State) (stream : Nat) : Option Q :=
  let t := s.strm stream
  let h := s.ch t.chan
  match h.cfg, h.rc, s.tRow t.chan with
  | some g, some r, some tr => some (Q.div ⟨h.maxSize g r * secU, t.rows g.ctu⟩ tr)
  | _, _, _ => none

/-! ### NAL units of a picture (R228 to R233, R248) -/

/-- The 16 bytes of the UUID of the frame record. -/
def recordUuid : List Byte :=
  [0x4C, 0x41, 0x4E, 0x49, 0x4C, 0x45, 0x4B, 0x47, 0x39, 0x31, 0x36, 0x30, 0x46, 0x52, 0x30, 0x31]

/-- The AUX items of a record: TAG, camera FRAME, length, data. -/
def auxItemBytes (x : AuxItem) : List Byte := beBytes 2 x.tag ++ beBytes 4 x.frame ++ beBytes 2 x.data.length ++ x.data

/-- The frame record of a stream's picture, after its UUID (table "Frame record"). -/
def State.frameRecord (s : State) (i c frame cap0 : Nat) : List Byte :=
  let tasks := s.picTasks i frame
  let first := match (s.ch c).lay with | some l => l.first | none => 0
  let skipped := ((tasks.filter fun t => t.skip && t.st != 4).map (·.row)).eraseDups.length
  let guarded := (tasks.filter fun t => t.guarded && t.st == 3).length
  let unlocked := ((s.ch c).notes.find? (·.frame == frame)).any (·.unlocked)
  let items := ((alookup (s.strm i).aux frame).getD []).flatMap auxItemBytes
  let flags := b01 (tasks.any (·.guarded)) + 2 * b01 (skipped != 0) + 4 * b01 (tasks.any (·.st == 4))
    + 8 * b01 (s.cameraTime c frame).isSome + 16 * b01 unlocked
  [1, BitVec.ofNat 8 flags] ++ beBytes 2 (i - first) ++ beBytes 4 frame ++ beBytes 6 (tSec cap0) ++ beBytes 4 (tNs cap0)
    ++ beBytes 2 skipped ++ beBytes 2 guarded ++ beBytes 2 items.length ++ items

/-- The sequence parameter set of a stream (R192 to R194, R204, R218, R248). The CPB size is rounded up to 16 bits, the granularity
at scale 0 (PRESUMED, log entry 78); the clock tick is a picture period, in the fewest parts of at most 1 us. -/
def State.spsOf (s : State) (i : Nat) (h : Ch) (g : ChCfg) : Sps :=
  let t := s.strm i
  let m := match h.rc with | some r => h.maxSize g r | none => 0
  { profile := Config.profileIdc (profileIndex g), level := (6, 2), tier := g.tier, width := t.rect.w, height := t.rect.h
    chroma := g.chroma, depth := depthBits g.depth, ctu := g.ctu, off := offTools g.codec
    dpb := (if g.struct = 2 then 0 else g.refs) + 1, rateNum := g.fnum, rateDen := g.fden * h.phases
    bitRate := match s.rh i with | some q => q.quot 248 | none => 0
    cpb := 16 * ceilDiv m 16, cbr := false, unitParams := true
    subTicks := ceilDiv (g.fden * h.phases * 1000000) g.fnum }

/-- What a non-VCL unit of a stream's picture says; `cap0` is the capture time of the picture's row 0. -/
def State.nalOf (s : State) (i c frame row cap0 : Nat) (g : ChCfg) : NalKind → Nal
  | .aud => .aud
  | .vps => .vps (Config.profileIdc (profileIndex g)) (6, 2) g.tier
  | .sps => .sps (s.spsOf i (s.ch c) g)
  | .pps =>
    let t := s.strm i
    let k := (s.ch c).tileCols
    .pps false false (if g.codec = 0 then [] else (List.range k).map fun x => (tileCtus g t k x).2)
      (if g.codec = 0 then [] else List.replicate (t.rows g.ctu) 1)
  | .buffering => .buffering (ceilDiv (s.tRowU c * 90000) secU)
  | .timing => .timing (s.tRowU c)
  | .recovery => .recovery ((s.ch c).gdrP - 1)
  | .colour => .colour ((s.ch c).sei.words.take 6)
  | .light => .light ((s.ch c).sei.words.getD 6 0)
  | .timeCode => .timeCode (s.timeCode c frame g (s.pv i).tcOffset cap0)
  | .pictureHeader =>
    let h := s.ch c
    .pictureHeader (h.picType g frame) (h.poc frame)
      (if h.picType g frame = .gdr then some (if g.struct = 2 then 0 else h.gdrP - 1) else none)
  | .unitInfo | .slice => .unitInfo row (s.tRowU c)
  | .hash => .hash ((alookup (s.strm i).hashes frame).getD [])
  | .record => .record (recordUuid ++ s.frameRecord i c frame cap0)
  | .endOfBitstream => .endOfBitstream

/-! ### Packets of a row (R385 to R388) -/

/-- A part of a packet: kind 0 non-VCL units, 1 slice, 2 suffix units; index; bytes. `nal` counts the NAL bytes that the
part ends. -/
structure Piece where
  parts : List (Nat × Nat × Nat)
  size : Nat
  nal : Nat
  deriving DecidableEq, Repr, Inhabited

/-- A unit alone, or cut into fragmentation units: payload header 2, FU header 1, the NAL header's 2 bytes left out;
every one but the last is full. `first` is the room of the first packet, `room` that of every other one. -/
def fragment (kind idx size first room : Nat) : List Piece :=
  if size ≤ first then [⟨[(kind, idx, size)], size, size⟩]
  else
    let body := size - 2
    let rec go (left : Nat) (p : Nat) : Nat → List Piece
      | 0 => []
      | n + 1 =>
        let k := p - 3
        if left ≤ k then [⟨[(kind, idx, left)], left + 3, left⟩]
        else ⟨[(kind, idx, k)], k + 3, k⟩ :: go (left - k) room n
    match go body first (body + 1) with
    | p :: rest => { p with nal := p.nal + 2 } :: rest
    | [] => []

/-- Units in one packet: a single one, or an aggregation packet. -/
def together (kind idx : Nat) (units : List Nat) : Piece :=
  let n := units.length
  let bytes := sumNat units
  if n = 1 then ⟨[(kind, idx, bytes)], bytes, bytes⟩ else ⟨[(kind, idx, bytes)], 2 + 2 * n + bytes, bytes⟩

/-- Non-VCL units in as few packets as take them in order: all in one where they fit (R385). Where they do not, the rule gives no
way: a packet takes as many as fit, and a unit larger than a payload is cut like a slice (DEDUCED, log entry 81). `acc` are the
units of the packet in progress. -/
def packUnits (kind room : Nat) : Nat → Nat → List Nat → List Nat → List Piece
  | _, _, [], [] => []
  | idx, _, acc, [] => [together kind idx acc]
  | idx, first, acc, x :: rest =>
    let more := acc ++ [x]
    if (together kind idx more).size ≤ first then packUnits kind room idx first more rest
    else if acc.isEmpty then fragment kind idx x first room ++ packUnits kind room (idx + 1) room [] rest
    else if x ≤ room then together kind idx acc :: packUnits kind room (idx + acc.length) room [x] rest
    else together kind idx acc :: (fragment kind (idx + acc.length) x room room
      ++ packUnits kind room (idx + acc.length + 1) room [] rest)

/-- The packets of a row of a stream: the non-VCL units before the first slice, the slices, the suffix units after the last one. -/
def packRow (first room : Nat) (pre slices suf : List Nat) : List Piece :=
  let head : List Piece := match slices with
    | [] => packUnits 0 room 0 first [] pre
    | x :: _ =>
      let agg := 2 + 2 * (pre.length + 1) + sumNat pre + x
      if !pre.isEmpty && agg ≤ first then [⟨[(0, 0, sumNat pre), (1, 0, x)], agg, sumNat pre + x⟩]
      else packUnits 0 room 0 first [] pre ++ fragment 1 0 x (if pre.isEmpty then first else room) room
  let rest := ((List.range slices.length).drop 1).flatMap fun k => fragment 1 k (slices.getD k 0) room room
  head ++ rest ++ packUnits 2 room 0 room [] suf

/-- Bytes of the decoding-unit information SEI of a row (the worked row of chapter 13; log entry 37). -/
def duiBytes : Nat := 10

/-- The bytes of the non-VCL units before the rows of a picture. -/
def Ch.prefixBytes (h : Ch) (g : ChCfg) (frame : Nat) : Nat :=
  sumNat ((h.prefixKinds g frame).map fun k => ceilDiv (nalBits g k 0) 8)

/-- The slice of a task: a coded one from the output cistern, or one that packaging writes from the skip template and the slice
header (R223, R388). -/
def State.sliceUnit (s : State) (t : TaskRec) : OutUnit :=
  match s.enc.output.find? fun x => x.stream == t.stream && x.frame == t.frame && x.row == t.row && x.col == t.col with
  | some x => x
  | none =>
    let nal : Nal := match s.job? t with | some j => .slice (j.head (some []) true) | none => .aud
    ⟨t.stream, t.frame, t.row, t.col, nal, ceilDiv t.res.bits 8, [], false, !s.awaitsCheck t⟩

/-- The NAL units of a row of a stream's picture in their order (table "NAL unit order of one picture"). -/
def State.rowUnits (s : State) (i c frame row cap0 : Nat) (g : ChCfg) : List OutUnit :=
  let h := s.ch c
  let last := row + 1 == (s.strm i).rows g.ctu
  let aux := auxBytes ((alookup (s.strm i).aux frame).getD [])
  let one (len : Nat) (k : NalKind) : OutUnit := ⟨i, frame, row, 0, s.nalOf i c frame row cap0 g k, len, [], false, true⟩
  (if row = 0 then (h.prefixKinds g frame).map fun k => one (ceilDiv (nalBits g k 0) 8) k else [])
    ++ [one duiBytes .unitInfo]
    ++ (sortBy (·.col) (s.enc.tasks.filter fun t => t.stream == i && t.frame == frame && t.row == row)).map s.sliceUnit
    ++ (if last then h.suffixKinds.map fun k => one (ceilDiv (suffixUnit g aux k) 8) k else [])
    ++ (if last && h.lastPic frame then [one (ceilDiv (nalBits g .endOfBitstream 0) 8) .endOfBitstream] else [])

/-- The units before the slices of a row, the slices, the units after them, in bytes. -/
def splitUnits (l : List OutUnit) : List Nat × List Nat × List Nat :=
  ((l.takeWhile (!·.isSlice)).map (·.len), (l.filter (·.isSlice)).map (·.len),
   ((l.dropWhile (!·.isSlice)).filter (!·.isSlice)).map (·.len))

/-- A row's units are packed: packaging returns their credits; those that the self-check still reads stay (R24, R339). -/
def State.unitsPacked (s : State) (i frame row : Nat) (l : List OutUnit) : State :=
  s.onEnc fun e =>
    { e with output := (e.output.filter fun x => !(x.stream == i && x.frame == frame && x.row == row))
        ++ (l.filter (!·.checked)).map fun x => { x with packed := true } }

/-- NAL bytes of a picture that precede a row (R423). -/
def State.nalBefore (s : State) (stream frame row : Nat) (pre : Nat) : Nat :=
  sumNat ((s.enc.tasks.filter fun t => t.stream == stream && t.frame == frame && t.row < row).map
    fun t => ceilDiv t.res.bits 8) + (if row = 0 then 0 else pre + duiBytes * row)

/-- Bytes of the transport stream that a row takes: NAL units with a start code of 4 bytes each (PRESUMED, log entry
38), a PES header of 14 at the start of a picture. -/
def tsBytes (units nal : Nat) (start : Bool) : Nat := nal + 4 * units + (if start then 14 else 0)

/-- TS packets of a row: 184 bytes each; a PCR takes 8 of the first (R398, R400). -/
def tsCount (bytes : Nat) (pcr : Bool) : Nat := ceilDiv (bytes + (if pcr then 8 else 0)) 184

/-- A group of sizes of at most seven TS packets. -/
def tsGroups (n : Nat) : List Nat :=
  (List.range (ceilDiv n 7)).map fun k => min 7 (n - 7 * k)

/-- The queues of a stream by path: N0, and N1 with DUAL (R403). -/
def paths (i : Nat) (dual : Bool) : List (Nat × Nat) := if dual then [(0, i), (1, 64 + i)] else [(0, i)]

/-- The header fields of a stream's packet that are not its template's. -/
def State.rtpHead (s : State) (p : Packet) : RtpHead :=
  let (pt, ssrc, csum) := if p.stream < 32 then let v := s.pv p.stream; (v.pt, v.ssrc, v.csum)
    else let a := s.pa (p.stream - 32); (a.pt, a.ssrc, false)
  ⟨pt, ssrc, csum, p.seq, p.ts, p.marker, p.ext⟩

/-- A packet of `n` payload bytes enters the queue of each of its paths that has a template. A UDP checksum over bytes that the model
does not hold is free (log entry 81). -/
def State.queuePacket (s : State) (i : Nat) (dual : Bool) (tmpl : List (Option Template)) (p : Packet) (n : Nat)
    (paced : Nat) (late : Bool) : State :=
  let r := s.rtpHead p
  let sum := s.freeVal 390 (65536 * p.stream + p.seq)
  (paths i dual).foldl (fun s (path, q) =>
    match tmpl.getD path none with
    | some t =>
      let p := { p with port := path, queue := q, size := n + 12 + p.ext.length + t.around
                        head := t.header r n (if p.pts.isSome then [] else p.data) sum }
      s.enqueue q { len := max 64 p.size, release := p.release, paced := paced, late := late, content := .media p }
    | none => s) s

/-- Whether every queue of a stream has room for bytes more (R23, R416). -/
def State.queueRoom (s : State) (i : Nat) (dual : Bool) (bytes : Nat) : Bool :=
  (paths i dual).all fun (_, q) => decide ((s.queue q).bytes + bytes ≤ queueCap)

/-- A late packet is counted, and PACKAGE:0x01 raised (R402). -/
def State.lateOne (s : State) (i frame release : Nat) : State :=
  if s.now ≤ release then s
  else
    let late := (s.now - release) / nsU
    let s := s.raise 0x0A 0x01 i (s.streamChan i)
    if i < 32 then
      s.onPv i fun v =>
        { v with late := v.late + 1
                 lateFrame := match v.lateFrame with
                   | some (f, n, m) => if f = frame then some (f, n + 1, max m late) else some (frame, 1, late)
                   | none => some (frame, 1, late) }
    else s.onPa (i - 32) fun v => { v with late := v.late + 1 }

/-- One RTP packet of a video stream: next sequence number, timestamp, marker, extension; in a transport stream the TS packet that
takes a PCR, the PTS of a PES packet that begins in it, and the status bytes that this carries. -/
def State.videoPacket (s : State) (i frame row ts release paced : Nat) (marker : Bool) (ext : List Byte)
    (parts : List (Nat × Nat × Nat)) (payload : Nat) (pcr pts : Option Nat) (status : List Byte) : State :=
  let v := s.pv i
  let late := decide (release < s.now)
  let p : Packet :=
    { port := 0, queue := 0, stream := i, seq := v.seq, ts := ts, marker := marker, size := 0, release := release
      frame := frame, row := row, ext := ext, parts := parts, pcr := pcr, pts := pts, data := status }
  let s := s.lateOne i frame release
  (s.queuePacket i v.dual v.tmpl p payload paced late).onPv i fun v =>
    { v with seq := (v.seq + 1) % 65536 }

/-- PKG_LATE, once for a frame with a late packet, after its last row (R402). -/
def State.lateEvt (s : State) (i frame : Nat) : State :=
  match (s.pv i).lateFrame with
  | some (f, n, m) =>
    if f = frame then
      (s.event 0x0A01 (s.streamChan i) (chanVec (s.streamChan i)) [i, frame, n, m]).onPv i fun v => { v with lateFrame := none }
    else s
  | none => s

/-- The header extension of the first packet of a row in RTP (R389). -/
def State.rowExt (s : State) (i c frame row cap0 : Nat) (g : ChCfg) (hook : List Word) : List Byte :=
  let v := s.pv i
  extBytes ((if v.hookId != 0 && !hook.isEmpty then [(v.hookId, hook.flatMap fun w => beBytes 4 w.toNat)] else [])
    ++ (if row = 0 && v.tcId != 0 then [(v.tcId, s.timeCode c frame g v.tcOffset cap0)] else []))

/-- The packets of a row in RTP (FORMAT 0 and 1): what each carries. -/
def State.rtpPieces (s : State) (i : Nat) (ext : List Byte) (l : List OutUnit) : List Piece :=
  let room := (s.pv i).maxUdp - 12
  let (pre, sl, suf) := splitUnits l
  packRow (room - ext.length) room pre sl suf

/-- The packets of a row in RTP leave for their queues. -/
def State.rtpRow (s : State) (i c frame row : Nat) (g : ChCfg) (ext : List Byte) (l : List OutUnit) (cap0 cap : Nat) : State :=
  let v := s.pv i
  let h := s.ch c
  let last := row + 1 == (s.strm i).rows g.ctu
  let pieces := s.rtpPieces i ext l
  let n := pieces.length
  let ts := ticksOf cap0 90000 % 4294967296
  let before := s.nalBefore i frame row (h.prefixBytes g frame)
  let rate := s.rh i
  ((List.range n).foldl (fun (acc : State × Nat) k =>
    let (s, b) := acc
    let p := pieces.getD k default
    let paced := if v.format = 1 then
        let lin := match rate with | some q => cap0 + h.d + quot 423 (8 * b * secU * q.den) q.num | none => 0
        max (if k = 0 then cap + h.d else 0) lin
      else 0
    let s := s.videoPacket i frame row ts (cap + h.d) paced (last && k + 1 == n) (if k = 0 then ext else []) p.parts
      p.size none none []
    (s, b + p.nal)) (s, before)).1

/-- Time from the release of a row of a stream to that of the stream's next row. -/
def State.rowGap (s : State) (i row : Nat) : Nat :=
  let h := s.ch (s.strm i).chan
  match h.cfg with
  | none => 0
  | some g =>
    let t := s.tRowU (s.strm i).chan
    let n := (s.strm i).rows g.ctu
    if row + 1 < n then t else g.framePer.ceil * h.phases - t * (n - 1)

/-- Whether the PAT and PMT go before a row's packets, and whether a PCR goes in its first: where the next row would come too late
for the longest interval (R398, R400). -/
def PkgV.psi (v : PkgV) (rel gap : Nat) : Bool :=
  match v.psiAt with | none => true | some t => decide (t + 40 * msU < rel + gap)
def PkgV.pcr (v : PkgV) (row rel gap : Nat) : Bool :=
  row == 0 || match v.pcrAt with | none => true | some t => decide (t + 20 * msU < rel + gap)

/-- TS packets of a row in each RTP packet (R398). -/
def State.tsSizes (s : State) (i row rel : Nat) (l : List OutUnit) : List Nat :=
  let v := s.pv i
  let gap := s.rowGap i row
  tsGroups (tsCount (tsBytes l.length (sumNat (l.map (·.len))) (row == 0)) (v.pcr row rel gap) + (if v.psi rel gap then 2 else 0))

/-- A PTS: floor((t + PTS_OFFSET) x 90,000) mod 2^33 (R399). -/
def PkgV.pts (v : PkgV) (t : Nat) : Nat := ticksOf (t + v.ptsOffset * nsU) 90000 % 2 ^ 33

/-- The packets of a row in a transport stream (FORMAT 2; R398 to R400). -/
def State.tsRow (s : State) (i c frame row : Nat) (g : ChCfg) (l : List OutUnit) (cap0 cap : Nat) : State :=
  let v := s.pv i
  let last := row + 1 == (s.strm i).rows g.ctu
  let rel := cap + (s.ch c).d
  let gap := s.rowGap i row
  let psi := v.psi rel gap
  let pcr := v.pcr row rel gap
  let groups := s.tsSizes i row rel l
  let s := s.onPv i fun v =>
    { v with
      psiAt := if psi then some rel else v.psiAt
      pcrAt := if pcr then some rel else v.pcrAt
      cc := [(0, b01 psi), (v.pmtPid, b01 psi), (v.videoPid, sumNat groups - 2 * b01 psi)].foldl
        (fun l (pid, n) => aset l pid (((alookup l pid).getD 0 + n) % 16)) v.cc }
  (List.range groups.length).foldl (fun s k =>
    s.videoPacket i frame row (ticksOf rel 90000 % 4294967296) rel 0 (last && k + 1 == groups.length) []
      [(3, 0, groups.getD k 0)] (188 * groups.getD k 0) (if pcr && k == 0 then some (2 * b01 psi) else none)
      (if row == 0 && k == 0 then some (v.pts cap0) else none) []) s

/-- Capture times of a row and of row 0 of its frame. -/
def State.captures (s : State) (c frame crow : Nat) : Option (Nat × Nat) :=
  match s.row? c frame crow, s.row? c frame 0 with
  | some r, some r0 => some (r.capT.getD s.now, r0.capT.getD s.now)
  | _, _ => none

/-- Bytes that a row takes in a queue: all its packets, with the longer of the two templates of its paths. That packaging waits
until the queue has room for all of them is the model's reading of R23 (DEDUCED, log entry 74). -/
def State.rowBytes (s : State) (i frame row : Nat) (hook : List Word) : Nat :=
  let c := (s.strm i).chan
  match (s.ch c).cfg with
  | none => 0
  | some g =>
    match s.captures c frame ((s.strm i).rect.y / g.ctu + row) with
    | none => 0
    | some (cap, cap0) =>
      let l := s.rowUnits i c frame row cap0 g
      let around := (((s.pv i).tmpl.filterMap id).map Template.around).foldl max 0
      let sizes := if (s.pv i).format = 2 then (s.tsSizes i row (cap + (s.ch c).d) l).map (188 * ·)
        else
          let ext := s.rowExt i c frame row cap0 g hook
          let p := (s.rtpPieces i ext l).map (·.size)
          match p with | x :: rest => (x + ext.length) :: rest | [] => []
      sumNat (sizes.map fun n => max 64 (n + 12 + around))

/-- The row of a stream is packed and queued with its release times (R385 to R400, R402). -/
def State.packageRow (s : State) (i c frame crow row : Nat) (hook : List Word) : State :=
  match (s.ch c).cfg, s.captures c frame crow with
  | some g, some (cap, cap0) =>
    let l := s.rowUnits i c frame row cap0 g
    let s := if (s.pv i).format = 2 then s.tsRow i c frame row g l cap0 cap
      else s.rtpRow i c frame row g (s.rowExt i c frame row cap0 g hook) l cap0 cap
    let s := s.unitsPacked i frame row l
    let s := if row + 1 == (s.strm i).rows g.ctu then
        (s.lateEvt i frame).onStrm i fun t => { t with aux := adel t.aux frame, hashes := adel t.hashes frame }
      else s
    s.onRow c frame crow fun r => { r with packaged := r.packaged ++ [i] }
  | _, _ => s

/-- PACKAGE_ROW: a packaging dipper's builder packs the row of its start; it waits while the queue lacks room (R23). -/
def execPackageRow (wait dipper : Nat) (s : State) : Host.Outcome State Fault Refusal :=
  let s := s.pass wait
  match (s.dp dipper).packing with
  | none => .next s
  | some (id, hook) =>
    match s.start? id with
    | none => .next (s.onDp dipper fun d => { d with packing := none })
    | some st =>
      let i := st.bind
      if !s.queueRoom i (s.pv i).dual (s.rowBytes i st.frame st.row hook) then .next s
      else
        let c := (s.strm i).chan
        let y := match (s.ch c).cfg with | some g => (s.strm i).rect.y / g.ctu | none => 0
        let s := s.packageRow i c st.frame (y + st.row) st.row hook
        .next (s.endPacking dipper id)

/-! ### Audio packets (R392, R395 to R397, R401) -/

/-- Frames of a packet: MEDIA_FS x PTIME. -/
def ptimeFrames (fs ptime : Nat) : Nat :=
  match ptime with
  | 0 => fs / 8000
  | 1 => fs / 4000
  | 2 => fs / 3000
  | _ => fs / 1000

/-- Whether PTIME x MEDIA_FS is a whole number of frames. -/
def ptimeOk (fs ptime : Nat) : Bool :=
  match ptime with
  | 0 => fs % 8000 == 0
  | 1 => fs % 4000 == 0
  | 2 => fs % 3000 == 0
  | _ => fs % 1000 == 0

/-- FLAGS and SILENT_MASK of the block of a frame: its header once written, else the block in progress. -/
def State.blockFlags (s : State) (p j : Nat) : Nat × Nat :=
  let a := s.ap p
  let b := j / 16
  if 16 * b + 16 ≤ a.next then
    let addr := audioBase p + b % a.cfg.blocks * a.cfg.blockBytes
    ((Mem.read32 s.mem.gddr (addr + 8)).toNat, (Mem.read32 s.mem.gddr (addr + 12)).toNat)
  else (a.flags, a.mask)

/-- The two audio-status bytes of a packet: block FLAGS bits 3:0 ORed, silent frames. -/
def State.audioStatus (s : State) (p j k : Nat) : List Byte :=
  let l := List.range k
  let fl := l.foldl (fun f n => f ||| ((s.blockFlags p (j + n)).1 % 16)) 0
  let silent := (l.filter fun n => nbit (s.blockFlags p (j + n)).2 ((j + n) % 16)).length
  [BitVec.ofNat 8 fl, BitVec.ofNat 8 silent]

/-- The samples of a packet's frames, big-endian, as the audio cistern holds them: 24 bits of each word, or bits 31:16 (R395). -/
def State.audioBytes (s : State) (x : PkgA) (j k : Nat) : List Byte :=
  let a := s.ap x.port
  (List.range k).flatMap fun n => (List.range x.channels).flatMap fun c =>
    let w := (Mem.read32 s.mem.gddr (a.frameAddr x.port (j + n) + 4 * (x.first + c))).toNat
    if x.l24 then beBytes 3 (w / 256) else beBytes 2 (w / 65536)

/-- The running FORMAT 2 stream that carries an audio stream. -/
def State.programOf (s : State) (a : Nat) : Option Nat :=
  (List.range 32).find? fun i =>
    let v := s.pv i
    v.set && v.format == 2 && s.streamRuns i && v.audio.any (·.1 == a)

/-- An audio packet of the next frames, once they are written (R396). -/
def State.audioPacket (s : State) (a : Nat) : State :=
  let x := s.pa a
  let p := s.ap x.port
  let fs := p.cfg.fs
  let k := ptimeFrames fs x.ptime
  let j := x.next.getD p.next
  let s := s.onPa a fun x => { x with next := some j }
  if p.next < j + k then s
  else
    let rel := mediaTime fs (j + k) + x.delay * nsU
    let status := s.audioStatus x.port j k
    let s := s.onPa a fun x => { x with next := some (j + k) }
    if x.ts then
      match s.programOf a with
      | none => s
      | some i =>
        let bytes := 14 + 4 + k * x.channels / 2 * 7 + (if x.statusId != 0 then 5 else 0)
        let groups := tsGroups (ceilDiv bytes 184)
        let s := s.onPv i fun v =>
          { v with cc := v.audio.foldl (fun l (n, pid) =>
              if n = a then aset l pid (((alookup l pid).getD 0 + ceilDiv bytes 184) % 16) else l) v.cc }
        (List.range groups.length).foldl (fun s g =>
          s.videoPacket i 0 0 (ticksOf rel 90000 % 4294967296) rel 0 false [] [(4, a, groups.getD g 0)] (188 * groups.getD g 0) none
            (if g = 0 then some ((s.pv i).pts (mediaTime fs j)) else none) (if g = 0 && x.statusId != 0 then status else [])) s
    else
      let ext := if x.statusId = 0 then [] else extBytes [(x.statusId, status)]
      let payload := k * x.channels * (if x.l24 then 3 else 2)
      let i := 32 + a
      let q : Packet :=
        { port := 0, queue := 0, stream := i, seq := x.seq, ts := j % 4294967296, marker := false, size := 0
          release := rel, frame := 0, row := 0, ext := ext, parts := [(4, a, payload)], pcr := none, data := s.audioBytes x j k }
      let late := decide (rel < s.now)
      let s := s.lateOne i 0 rel
      (s.queuePacket i x.dual x.tmpl q payload 0 late).onPa a fun x =>
        { x with seq := (x.seq + 1) % 65536 }

/-- AUDIO_PACKET_BUILD of an audio stream; the standby sends none (R404). -/
def execAudioPacketBuild (wait stream : Nat) (s : State) : Host.Outcome State Fault Refusal :=
  let s := s.pass wait
  if 7 < stream || !(s.pa stream).on || (s.ap (s.pa stream).port).st = 0 || s.standby then .next s
  else if !s.queueRoom (32 + stream) (s.pa stream).dual 9216 then .next s
  else .next (s.audioPacket stream)

/-! ### Admitted packet rates (R382, R383) -/

/-- The admitted packet rate of a video stream, once it can be judged. -/
def State.videoRate (s : State) (i : Nat) : Q :=
  let t := s.strm i
  let h := s.ch t.chan
  match h.cfg, s.rh i with
  | some g, some r =>
    (r.div ⟨8 * ((s.pv i).maxUdp - 12), 1⟩).add ⟨t.rows g.ctu * h.tileCols * g.fnum, g.fden * h.phases⟩
  | _, _ => ⟨0, 1⟩

/-- The admitted packet rate of an audio stream: 1 / PTIME. -/
def audioRate (ptime : Nat) : Nat := match ptime with | 0 => 8000 | 1 => 4000 | 2 => 3000 | _ => 1000

/-- The admitted rate of a packaging dipper. -/
def State.dipperRate (s : State) (d : Nat) : Q :=
  (Q.sum ((List.range 32).filterMap fun i => if (s.pv i).dipper == some d then some (s.videoRate i) else none)).add
    ⟨sumNat ((List.range 8).map fun a =>
      if (s.pa a).on && (s.pa a).dipper == some d then audioRate (s.pa a).ptime else 0), 1⟩

/-- The dipper with the lower admitted rate, DP4 when they are equal. -/
def State.lowerDipper (s : State) : Nat := if (s.dipperRate 4).le (s.dipperRate 5) then 4 else 5

/-- Neither packaging dipper exceeds 12 M packets/s. -/
def State.dippersOk (s : State) : Bool := [4, 5].all fun d => (s.dipperRate d).le ⟨12000000, 1⟩

/-! ### Commands of group 0x0A -/

/-- PKG_STREAM and PKG_TEMPLATE for a running stream must carry STAGE (R408). -/
def pkgNeedStage (c : Vx) (s : State) : Bool := s.streamRuns (fld (c.w 2) 4 0)
def tmplNeedStage (c : Vx) (s : State) : Bool := fld (c.w 2) 5 0 < 40 && s.streamRuns (fld (c.w 2) 5 0)
def pkgAudioNeedStage (c : Vx) (s : State) : Bool := (s.pa (fld (c.w 2) 2 0)).on

/-- The least PTS_OFFSET in ns (R399) of a stream that is sent in FORMAT 2: D + 1/F, and AUD_DELAY + PTIME of each audio stream
of the program. Before CH_START, D is what CH_DELAY selects (R239). -/
def State.minPts (s : State) (i : Nat) (audio : List (Nat × Nat)) : Nat :=
  let c := (s.strm i).chan
  let h := s.ch c
  let d :=
    if h.st != 0 then h.d
    else if h.delay != 0 then h.delay * nsU
    else ((s.onPv i fun v => { v with set := true, format := 2 }).minDelay c (h.wantsX (s.twin.role != 0))).getD 0
  let v := match h.cfg with | some g => nsUp (d + g.framePer.ceil) | none => 0
  audio.foldl (fun m (a, pid) =>
    if pid = 0 then m else max m ((s.pa a).delay + ceilDiv 1000000000 (audioRate (s.pa a).ptime))) v

/-- The PTS_OFFSET of a stream is not below its minimum, where it is sent in FORMAT 2. -/
def State.ptsOk (s : State) (i : Nat) : Bool :=
  (s.pv i).format != 2 || decide (s.minPts i (s.pv i).audio ≤ (s.pv i).ptsOffset)

/-- PKG_STREAM (0x0A00; R384, R386, R389, R394, R398, R399, R403). -/
def hPkgStream (c : Vx) (s : State) : Res :=
  let w := c.w 2
  let i := fld w 4 0
  let f := fld w 13 12
  let udp := if fld (c.w 4) 15 0 = 0 then 1460 else fld (c.w 4) 15 0
  let pid (n : Nat) : Bool := decide (0x20 ≤ n) && decide (n ≤ 0x1FFE)
  let auds := [(fld (c.w 9) 15 13, fld (c.w 9) 12 0), (fld (c.w 9) 31 29, fld (c.w 9) 28 16)].filter (·.2 != 0)
  refuseRsv c [(2, 0xFFFFFFFF - msk 11 5), (7, msk 31 16)] <|
  refuse (f == 3) .badParam 2 <|
  refuse (fld w 31 28 == 15 || fld w 27 24 == 15) .badParam 2 <|
  refuse (f != 2 && (decide (fld w 23 17 < 96))) .badParam 2 <|
  refuse (decide (udp < 512) || decide (8960 < udp)) .badParam 4 <|
  refuse (f == 1 && !bit w 15 && decide (1460 < udp)) .badParam 4 <|
  refuse (f == 2 && !(pid (fld (c.w 6) 31 16) && pid (fld (c.w 6) 15 0))) .badParam 6 <|
  refuse (f == 2 && auds.any fun a => !pid a.2) .badParam 9 <|
  let least := s.minPts i auds
  let pts := (c.w 8).toNat
  refuse (f == 2 && pts != 0 && decide (pts < least)) .badParam 8 <|
  refuse (sameDest (bit w 14) (s.pv i).tmpl) .badParam 2 <|
  let s' := s.onPv i fun v =>
    { v with
      set := true, tcId := fld w 31 28, hookId := fld w 27 24, pt := if f = 2 then 33 else fld w 23 17
      csum := bit w 16, extended := bit w 15, dual := bit w 14, format := f, ssrc := c.w 3
      seq0 := fld (c.w 4) 31 16, maxUdp := udp, tcOffset := sgn32 (c.w 5).toNat
      pmtPid := fld (c.w 6) 31 16, videoPid := fld (c.w 6) 15 0, program := fld (c.w 7) 31 16
      ptsOffset := if pts = 0 then ceilDiv least 1000000 * 1000000 else pts, ptsAuto := pts == 0
      audio := if f = 2 then auds else [] }
  admitted false (if (s.strm i).used then [(s.strm i).chan] else []) s' fun s' =>
  .ok [((s'.pv i).dipper).getD 0] s'

/-- PKG_TEMPLATE (0x0A01; R390, R403). -/
def hPkgTemplate (c : Vx) (s : State) : Res :=
  let w := c.w 2
  let i := fld w 5 0
  let path := fld w 20 20
  let t : Template := ⟨(List.range 14).map fun k => c.w (2 + k)⟩
  let put (l : List (Option Template)) : List (Option Template) := l.set path (some t)
  refuseRsv c [(2, 0xFFFFFFFF - msk 19 6), (3, 0xFFFFFFFF - msk 23 12)] <|
  refuse (decide (39 < i)) .badParam 2 <|
  if i < 32 then
    refuse (sameDest (s.pv i).dual (put (s.pv i).tmpl)) .badParam 12 <|
    .ok [] (s.onPv i fun v => { v with tmpl := put v.tmpl })
  else
    refuse (sameDest (s.pa (i - 32)).dual (put (s.pa (i - 32)).tmpl)) .badParam 12 <|
    .ok [] (s.onPa (i - 32) fun v => { v with tmpl := put v.tmpl })

/-- PKG_AUDIO (0x0A02; R382, R383, R395, R396, R401, R403). -/
def hPkgAudio (c : Vx) (s : State) : Res :=
  let w := c.w 2
  let a := fld w 2 0
  let p := fld w 7 6
  let ap := s.ap p
  let g := ap.cfg
  let ch := fld w 15 12 + 1
  let pt := fld w 17 16
  let ts := bit w 20
  let udp := if fld (c.w 5) 15 0 = 0 then 1460 else fld (c.w 5) 15 0
  let ext := if fld w 24 21 = 0 then 0 else 8
  let size := ptimeFrames g.fs pt * ch * (if bit w 18 then 3 else 2) + 12 + ext
  let least := g.trim + 2500000
  let delay := if (c.w 4).toNat = 0 then least else (c.w 4).toNat
  refuseRsv c [(2, 0xFFFFFFFF - msk 4 3)] <|
  if !bit w 5 then .ok [least] (s.onPa a fun x => { x with on := false, dipper := none })
  else
    refuse (ap.st == 0) .badState 2 <|
    refuse (decide (fld w 31 25 < 96)) .badParam 2 <|
    refuse (fld w 24 21 == 15) .badParam 2 <|
    refuse (!ptimeOk g.fs pt) .badParam 2 <|
    refuse (decide (g.nChan < fld w 11 8 + ch)) .badParam 2 <|
    refuse (decide (udp < 512) || decide (8960 < udp)) .badParam 5 <|
    refuse (!ts && decide (udp < size)) .badParam 5 <|
    refuse (ts && !(g.mediaFs == 0 && (ch == 2 || ch == 4 || ch == 6 || ch == 8) && bit w 18 && pt == 3)) .badParam 2 <|
    refuse (decide (delay < least) || decide ((g.blocks - 2) * 16 * 1000000000 < delay * g.fs)) .badParam 4 <|
    refuse (sameDest (bit w 19) (s.pa a).tmpl) .badParam 2 <|
    let s0 := s.onPa a fun x =>
      { x with
        on := true, pt := fld w 31 25, statusId := fld w 24 21, ts := ts, dual := bit w 19, l24 := bit w 18
        ptime := pt, channels := ch, first := fld w 11 8, port := p, ssrc := c.w 3, delay := delay
        seq0 := fld (c.w 5) 31 16, maxUdp := udp, seq := if x.on then x.seq else fld (c.w 5) 31 16
        next := if x.on then x.next else none }
    let d := match (s.pa a).dipper, (s.pa a).on with
      | some d, true => d
      | _, _ => (s.onPa a fun x => { x with on := false }).lowerDipper
    let s' := s0.onPa a fun x => { x with dipper := some d }
    refuse (match s.programOf a with | some i => !s'.ptsOk i | none => false) .badParam 4 <|
    refuse (!s'.dippersOk) .noResource noWord <|
    .ok [least] s'

/-- PKG_QUERY (0x0A03). -/
def hPkgQuery (c : Vx) (s : State) : Res :=
  let i := fld (c.w 2) 5 0
  let sending (p : Nat) : Nat := b01 (s.streamRuns i && s.onPath i p && (s.port p).sends)
  let bits := sending 0 + 2 * sending 1
  refuseRsv c [(2, msk 5 0)] <|
  refuse (decide (39 < i)) .badParam 2 <|
  if i < 32 then
    let v := s.pv i
    .ok [v.seq, v.sent.toNat, v.late.toNat, v.resent.toNat, bits] s
  else
    let v := s.pa (i - 32)
    .ok [v.seq, v.sent.toNat, v.late.toNat, v.resent.toNat, bits] s

/-- The siphon traffic of the configured channels, bytes per second (R479). -/
def State.siphonRate (s : State) : Q :=
  (Q.sum ((List.range 32).filterMap fun i => if (s.strm i).used then (s.rh i).map (·.div ⟨8, 1⟩) else none)).add
    (Q.sum ((List.range 16).filterMap fun c => (s.ch c).cfg.map fun g => ⟨4096 * g.ctuRows * g.fnum, g.fden⟩))

/-- At most 12.0 GB/s. -/
def State.siphonOk (s : State) : Bool := s.siphonRate.le ⟨12000000000, 1⟩

end Sys2Proof.Machine
end

