-- ==== Sys2Proof/Machine/ChanCfg.lean ====
section
/-!
DEFINITION. The commands of group 0x04 but CH_START: configuration, layout, delay, stop, query, refresh, lossless
regions, SEI and engine control (R192 to R244).
-/
namespace Sys2Proof.Machine

/-- Commands for a running channel must carry STAGE (R241). -/
def chNeedStage (c : Vx) (s : State) : Bool := s.runs (fld (c.w 2) 3 0)

/-- A load in M units/s; its rounding is free. -/
def mUnits (q : Q) : Nat := (q.mul ⟨1, 1000000⟩).quot 192

/-- The stream records of a channel's layout, in index order: rectangle and phase (R202 to R204). -/
def layStreams (c : Nat) (g : ChCfg) (l : Layout) : List (Nat × Strm) :=
  (List.range l.m).flatMap fun k => (l.tiles g).map fun (tx, ty, r) =>
    (l.first + k * l.mx * l.my + ty * l.mx + tx, ({ chan := c, used := true, rect := r, phase := k } : Strm))

/-- A channel's streams are set anew for its layout; those of an earlier run of IDs are freed,
and the flows of their tile columns (R206). -/
def State.setStreams (s : State) (c : Nat) : State :=
  let old := (s.enc.streams.filter fun t => t.used && t.chan == c).flatMap (·.flows)
  let s := s.onDs fun d => { d with flows := d.flows.filter fun f => !old.contains f.1 }
  let s := s.onEnc fun e =>
    { e with streams := e.streams.map fun t => if t.used && t.chan == c then {} else t }
  match (s.ch c).cfg, (s.ch c).lay with
  | some g, some l => (layStreams c g l).foldl (fun s (i, t) => s.onStrm i fun _ => t) s
  | _, _ => s

/-- CH_CONFIG (0x0400; R192, R195, R241). -/
def hChConfig (c : Vx) (s : State) : Res :=
  let w2 := c.w 2
  let ch := fld w2 3 0
  let g : ChCfg :=
    { codec := fld w2 4 4, chroma := fld w2 7 6, depth := fld w2 9 8, small := bit w2 10, struct := fld w2 12 11
      refs := fld w2 15 13, tier := fld w2 16 16, prio := fld w2 19 17, width := fld (c.w 3) 15 0
      height := fld (c.w 3) 31 16, fnum := (c.w 4).toNat, fden := (c.w 5).toNat, gdr := fld (c.w 6) 10 0 }
  refuseRsv c [(2, msk 19 6 + msk 4 0), (6, msk 10 0)] <|
  refuse (s.runs ch) .badState 2 <|
  refuse (decide (5 < g.prio) || g.struct == 3 || g.depth == 3
    || (g.struct != 2 && (g.refs == 0 || decide (4 < g.refs)))) .badParam 2 <|
  refuse (g.codec == 1 && g.depth == 2) .badParam 2 <|
  refuse (g.width == 0 || g.height == 0 || g.width % 8 != 0 || g.height % 8 != 0
    || decide (16384 < g.width) || decide (16384 < g.height)) .badParam 3 <|
  refuse (g.fnum == 0) .badParam 4 <|
  refuse (g.fden == 0) .badParam 5 <|
  refuse (g.gdr == 1 || decide (1024 < g.gdr)) .badParam 6 <|
  -- what R193, R203 and R226 asked of the layout and of the lossless regions must hold of the new picture too (DEDUCED, log
  -- entry 77)
  refuse ((s.ch ch).lay.any fun l => decide (g.ctuCols < l.mx) || decide (g.ctuRows < l.my)
    || !((List.range 20).any fun k => (l.cols == 0 || l.cols == k + 1) && levelOk g l (k + 1))) .badParam 3 <|
  refuse ((s.ch ch).regions.any fun r => decide (g.width < r.x + r.w) || decide (g.height < r.y + r.h)) .badParam 3 <|
  let s' := ((s.onCh ch fun h => { h with cfg := some g }).setStreams ch).reserveLines ch
  refuse (!s'.buffersOk) .noResource noWord <|
  admitted false [ch] s' fun s => .ok [Config.profileIdc (profileIndex g), mUnits (s.ch ch).load] s.capacityCheck

/-- The lowest run of free stream IDs for a channel's streams (R202). -/
def State.freeRun (s : State) (c n : Nat) : Option Nat :=
  (List.range 32).find? fun a => decide (a + n ≤ 32) && (List.range n).all fun i =>
    let t := s.strm (a + i)
    !t.used || t.chan == c

/-- CH_LAYOUT (0x0401; R193, R200 to R203, R242, R595). While COLS = 0 leaves the column count open, the largest T_task
that it answers is free (DESIGN CHOICE, log entry 69). -/
def hChLayout (c : Vx) (s : State) : Res :=
  let w2 := c.w 2
  let ch := fld w2 3 0
  let mx := fld w2 5 4 + 1
  let my := fld w2 7 6 + 1
  let m := fld w2 10 8 + 1
  let want := fld w2 15 11
  let n := mx * my * m
  let others := (s.enc.streams.filter fun t => t.used && t.chan != ch).length
  refuseRsv c [(2, msk 15 0)] <|
  refuse (s.runs ch) .badState 2 <|
  refuse (decide (4 < mx) || decide (4 < my) || decide (20 < want) || decide (32 < n)) .badParam 2 <|
  match (s.ch ch).cfg with
  | none => .err .badState noWord
  | some g =>
    refuse (decide (32 < others + n)) .noResource noWord <|
    match s.freeRun ch n with
    | none => .err .noResource noWord
    | some first =>
      refuse (decide (g.ctuCols < mx) || decide (g.ctuRows < my)) .badParam 2 <|
      let l : Layout := ⟨mx, my, m, want, want, first⟩
      refuse (if want = 0 then !((List.range 20).any fun k => levelOk g l (k + 1)) else !levelOk g l want) .badParam 2 <|
      let s' := (s.onCh ch fun h => { h with lay := some l }).setStreams ch
      admitted true [ch] s' fun s =>
        let cols := (s.ch ch).tileCols
        let judged := (s.tRow ch).isSome
        let (tt, s) := match s.maxTaskTime ch with
          | some q => ((q.mul ⟨1, nsU⟩).quot 199, s)
          | none => (s.freeVal 595 ch % 4294967296, s.drawn)
        let h := s.ch ch
        let tr := match s.tRow ch with | some q => (q.mul ⟨1, nsU⟩).quot 195 | none => 0
        let minD := match s.minDelay ch (h.wantsX (s.twin.role != 0)) with | some d => nsUp d | none => 0
        let peak := match s.peakLoad ch with | some q => mUnits q | none => 0
        .ok [first + at' n 8, if judged || want != 0 then cols else 0, tt, tr, minD, peak] s

/-- CH_DELAY (0x0402; R35, R239). While the minimum delay cannot be judged (R595), what D = 0 answers is free (DESIGN
CHOICE, log entry 69). -/
def hChDelay (c : Vx) (s : State) : Res :=
  let ch := fld (c.w 2) 3 0
  let rsv := fld (c.w 2) 5 4
  let d := (c.w 3).toNat
  refuseRsv c [(2, msk 5 0)] <|
  refuse (s.runs ch) .badState 2 <|
  refuse (rsv == 3) .badParam 2 <|
  let s' := s.onCh ch fun h => { h with delay := d, reserve := rsv }
  refuse (!s'.host.lenient && !s'.settle.delayOk ch && s'.settle.admission false [ch] == some .badParam) .badParam 3 <|
  admitted false [ch] s' fun s =>
    if d = 0 then
      match s.minDelay ch ((s.ch ch).wantsX (s.twin.role != 0)) with
      | some d => .ok [nsUp d] s
      | none => .ok [s.freeVal 596 ch % 4294967296] s.drawn
    else .ok [d] s

/-- The first frame of a running channel whose boundary falls at or after a device time, by search upwards. -/
def State.frameAfter (s : State) (c t : Nat) : Nat → Nat → Nat
  | 0, f => f
  | k + 1, f =>
    match s.predictStart c f 0 with
    | some b => if t ≤ b then f else s.frameAfter c t k (f + 1)
    | none => f

/-- The next frame that has no boundary yet. -/
def Ch.nextFrame (h : Ch) : Nat := match h.frame with | some f => f + 1 | none => 0

/-- CH_STOP (0x0404; R243). -/
def hChStop (c : Vx) (s : State) : Res :=
  let ch := fld (c.w 2) 3 0
  let h := s.ch ch
  refuseRsv c [(2, msk 3 0)] <|
  refuse (h.st == 0 || h.last.isSome) .badState 2 <|
  let f := s.frameAfter ch (s.now + 30 * usU) 4096 h.nextFrame
  .acc ((s.onCh ch fun h => { h with last := some f }).start 0x0404 c.tag ch)

/-- CH_QUERY (0x0405). -/
def hChQuery (c : Vx) (s : State) : Res :=
  let h := s.ch (fld (c.w 2) 3 0)
  refuseRsv c [(2, msk 3 0)] <|
  .ok [if h.cfg.isNone then 0 else if h.st = 0 then 1 else 2, h.coded % 4294967296, h.guarded, h.underrun,
    nsUp h.d, match h.frame with | some f => h.gdrPos f | none => 0] s

/-- A new GDR period or an IDR picture at the channel's first boundary at or after a device time. -/
def State.refreshFrom (s : State) (ch : Nat) (idr : Bool) (t : Nat) : Nat × State :=
  let h := s.ch ch
  let f := s.frameAfter ch t 4096 h.nextFrame
  if match h.cfg with | some g => g.struct == 2 | none => true then (f, s)
  else (f, s.onCh ch fun h => { h with refreshes := h.refreshes ++ [(f, idr)] })

/-- The same at least 30 us from now (R222, R346). -/
def State.refreshChan (s : State) (ch : Nat) (idr : Bool) : Nat × State := s.refreshFrom ch idr (s.now + 30 * usU)

/-- CH_REFRESH (0x0406; R222). On a channel that does not run it is refused with BAD_STATE (DESIGN CHOICE, log
entry 32). -/
def hChRefresh (c : Vx) (s : State) : Res :=
  let ch := fld (c.w 2) 3 0
  refuseRsv c [(2, msk 4 0)] <|
  refuse (!s.runs ch) .badState 2 <|
  refuse (bit (c.w 2) 4 && match (s.ch ch).cfg with | some g => g.codec == 1 | none => false) .badParam 2 <|
  let (f, s) := s.refreshChan ch (bit (c.w 2) 4)
  .ok [f] s

/-- LOSSLESS_CONFIG (0x0410; R226, R227). -/
def hLosslessConfig (c : Vx) (s : State) : Res :=
  let ch := fld (c.w 2) 3 0
  let i := fld (c.w 2) 5 4
  let on := bit (c.w 2) 8
  let r : Rect := ⟨fld (c.w 3) 15 0, fld (c.w 3) 31 16, fld (c.w 4) 15 0, fld (c.w 4) 31 16⟩
  refuseRsv c [(2, msk 8 8 + msk 5 0)] <|
  refuse (on && (r.x % 8 != 0 || r.y % 8 != 0)) .badParam 3 <|
  refuse (on && (r.w % 8 != 0 || r.h % 8 != 0 || r.w == 0 || r.h == 0)) .badParam 4 <|
  refuse (on && match (s.ch ch).cfg with
    | some g => decide (g.width < r.x + r.w) || decide (g.height < r.y + r.h)
    | none => false) .badParam noWord <|
  let s' := s.onCh ch fun h => { h with lossless := upd h.lossless i fun _ => if on then some r else none }
  admitted false [ch] s' fun s => .ok [mUnits (s.ch ch).load] s.capacityCheck

/-- SEI_CONFIG (0x0420). -/
def hSeiConfig (c : Vx) (s : State) : Res :=
  let w := c.w 2
  refuseRsv c [(2, msk 13 8 + msk 3 0)] <|
  .ok [] (s.onCh (fld w 3 0) fun h =>
    { h with sei := { hash := bit w 8, timecode := bit w 9, camera := bit w 10, mdcv := bit w 11, cll := bit w 12
                      record := bit w 13, words := (List.range 7).map fun i => c.w (3 + i) } })

/-- The engines in service as a mask. -/
def State.serviceMask (s : State) : Nat :=
  maskOf ((List.range 16).filter s.serves)

/-- ENG_CONTROL (0x0430; R211, R244). `allowed` are the engines that the power state enables. Result word 0 is the mask
of engines in service (DEDUCED, log entry 31). -/
def engControl (c : Vx) (s : State) (allowed : Nat) : Res :=
  let mask := fld (c.w 2) 15 0
  let back := bit (c.w 2) 16
  refuseRsv c [(2, msk 16 0)] <|
  if back then
    let s := (bitsOf mask 16).foldl (fun s e =>
      if (tab s.enc.engines e).service then s
      else
        let s := s.onEnc fun x => { x with engines := upd x.engines e fun y => { y with service := true, errors := [] } }
        let s := s.onUnit e fun u => { u with enabled := nbit allowed e }
        (s.causeOff 0x05 0x04 e).engEvt e 1 1) s
    let s := s.capacityCheck
    .ok [s.serviceMask] s
  else
    let left := (bitsOf s.serviceMask 16).filter fun i => !nbit mask i
    refuse (!(s.totalLoad).le ⟨left.length * 1000000000, 1⟩) .noResource noWord <|
    let s := (bitsOf mask 16).foldl (fun s e => if (tab s.enc.engines e).service then s.engineOff e 1 else s) s
    .ok [s.serviceMask] s

end Sys2Proof.Machine
end

