-- ==== Sys2Proof/Machine/Skov.lean ====
section
/-!
DEFINITION. Skovlink and admission (R493 to R507, R521 of chapter 17): frames and their checks, JOIN, SPDM, ADMIT,
heartbeats, roster, and the commands of group 0x0E but those of global operations.
-/
namespace Sys2Proof.Machine

/-! ### Roles and addresses (R493, R496) -/

/-- The module's ID; 0xFFF where it has none. -/
def State.myId (s : State) : Nat := s.cl.id.getD 0xFFF

/-- A cluster or array manager. -/
def State.isManager (s : State) : Bool := 2 ≤ s.strapRole

/-- The manager of this module, none where it has none. -/
def State.managerId (s : State) : Option Nat :=
  match s.cl.id with
  | none => none
  | some i =>
    if s.strapRole = 1 then some (i / 64 * 64)
    else if s.strapRole = 2 && i != 0 then some 0 else none

/-- The Skovlink port of CL_CONFIG. -/
def State.skovPort (s : State) : Nat := if s.cl.portM1 then 3 else 2

/-- The destination MAC address of a unicast ID or a group code (R496). -/
def skovMac (group : Bool) (code : Nat) : List Byte :=
  [0x03, 0x4C, 0x4E, 0x4B, BitVec.ofNat 8 ((if group then 16 else 0) + code / 256), BitVec.ofNat 8 code]

/-! ### Frames (R495, R497, R498) -/

/-- A Skovlink header (table "Skovlink header"). -/
structure Hdr where
  version : Nat
  type : Nat
  src : Nat
  dst : Nat
  len : Nat
  alive : Nat
  group : Bool
  twinB : Bool
  relayed : Bool
  sub : Nat
  seq : Nat
  tag : Word
  deriving DecidableEq, Repr, Inhabited

/-- The header of a frame. -/
def hdrOf (f : SkovFrame) : Hdr :=
  ⟨fld f.h0 31 28, fld f.h0 27 24, fld f.h0 23 12, fld f.h0 11 0, fld f.h1 31 16, fld f.h1 15 8, bit f.h1 7, bit f.h1 6,
   bit f.h1 5, fld f.h1 3 0, f.h2.toNat, f.h3⟩

/-- A header as its four words. -/
def Hdr.words (h : Hdr) : List Word :=
  [w32 (at' h.version 28 + at' h.type 24 + at' h.src 12 + h.dst),
   w32 (at' h.len 16 + at' h.alive 8 + at' (b01 h.group) 7 + at' (b01 h.twinB) 6 + at' (b01 h.relayed) 5 + h.sub),
   w32 h.seq, h.tag]

/-- Words as they stand on the wire, most significant byte first. -/
def wireBytes (l : List Word) : List Byte := l.flatMap fun w => beBytes 4 w.toNat

/-- The Ethernet header of a Skovlink frame: the next hop's address, the port's, an 802.1Q tag where CL_CONFIG asks for one, the
configured EtherType (R410, R495). -/
def State.skovHead (s : State) (port : Nat) (mac : List Byte) : List Byte :=
  mac ++ beBytes 6 (s.macOf port)
    ++ (if s.cl.vlan then beBytes 2 0x8100 ++ beBytes 2 (s.cl.pcp * 8192 + s.cl.vid) else []) ++ beBytes 2 s.cl.etherType

/-- A frame enters queue 41 of a port, addressed to a next hop: its words most significant byte first (R495), its CRC least
significant byte first (R539). -/
def State.queueSkov (s : State) (port : Nat) (mac data : List Byte) (crc : Nat) : State :=
  let s := s.onCl fun c => { c with sent := c.sent + 1 }
  s.enqueue (64 * port + 41)
    { len := max 64 (14 + (if s.cl.vlan then 4 else 0) + data.length + 4 + 4), release := s.now
      content := .skov (s.skovHead port mac ++ data ++ leBytes 4 crc) }

/-- The next SEQ to an address: from 1 to 0xFFFF_FFFF and on at 1 (R498). -/
def nextSeq (n : Nat) : Nat := if n = 0xFFFFFFFF then 1 else n + 1

/-- A frame of this module: numbered, with its alive counter and CRC appended by the port's context (R495, R497). -/
def State.sendOn (s : State) (port type sub : Nat) (group : Bool) (dst : Nat) (tag : Word) (relayed : Bool)
    (payload : List Word) (hop : Option Nat := none) : State :=
  let key := (if group then 4096 else 0) + dst
  let seq := nextSeq ((alookup s.cl.seqs key).getD 0)
  let h : Hdr := ⟨1, type, s.myId, dst, 4 * payload.length, 0, group, s.selB, relayed, sub, seq, tag⟩
  let (x, data, crc) := (s.cvu.ctx (11 + 2 * port)).send (wireBytes (h.words ++ payload))
  let s := (s.useCtx (11 + 2 * port) x).onCl fun c => { c with seqs := aset c.seqs key seq }
  s.queueSkov port (match hop with | some m => skovMac false m | none => skovMac group dst) data crc

/-- The same on the Skovlink port, to an ID or a group; a STANDALONE module and one that is not enabled send none
(R493). -/
def State.sendSkov (s : State) (type sub : Nat) (group : Bool) (dst : Nat) (tag : Word) (payload : List Word)
    (relayed : Bool := false) : State :=
  if s.strapRole = 0 || !s.cl.on then s else s.sendOn s.skovPort type sub group dst tag relayed payload

/-- The next hop of a CMD frame to an ID: a manager reaches its own cluster and the array manager every cluster manager; any
other frame goes to the manager above (R506). -/
def State.cmdHop (s : State) (dst : Nat) : Nat :=
  if s.isManager then
    if dst / 64 = s.myId / 64 then dst else if s.strapRole = 3 then dst / 64 * 64 else 0
  else s.managerId.getD dst

/-- A CMD frame: a command (0) or response slot (1). -/
def State.sendCmd (s : State) (sub dst : Nat) (tag : Word) (slot : List Word) : State :=
  if s.strapRole = 0 || !s.cl.on then s else s.sendOn s.skovPort 2 sub false dst tag false slot (some (s.cmdHop dst))

/-- A frame is forwarded as it came, with RELAYED set (R506). -/
def State.forward (s : State) (f : SkovFrame) (hop : Nat) : State :=
  let data := wireBytes ((({ hdrOf f with relayed := true } : Hdr).words) ++ f.payload)
  s.queueSkov s.skovPort (skovMac false hop) data f.crc.toNat

/-- Frames that a module accepts: to its ID, its cluster's group and the groups of its role; a manager also takes CMD
frames that it forwards (R496, R506). -/
def State.addressed (s : State) (h : Hdr) : Bool :=
  if h.group then
    (decide (h.dst < 64) && s.strapRole != 0 && h.dst == s.myId / 64) || (h.dst == 0x040 && s.isManager)
      || (h.dst == 0x041 && s.strapRole != 0)
  else h.dst == s.myId || (s.isManager && h.type == 2)

/-- The port at which a frame of this type is taken: the Skovlink port, or for a twin heartbeat HB_PORT (R471). -/
def State.hearsOn (s : State) (port : Nat) (h : Hdr) : Bool :=
  (s.cl.on && s.strapRole != 0 && port == s.skovPort) ||
    (h.type == 9 && h.sub == 0 && port == (if s.twin.hbM1 then 3 else 2) && (s.twin.role != 0 || s.twin.pairing.isSome))

/-- What a receiver keeps of a sender. -/
def State.sender (s : State) (h : Hdr) : Sender :=
  (s.cl.senders.find? fun x => x.src == h.src && x.twinB == h.twinB).getD { src := h.src, twinB := h.twinB }

/-- A sender's record is set. -/
def State.setSender (s : State) (x : Sender) : State :=
  s.onCl fun c => { c with senders := x :: c.senders.filter fun y => !(y.src == x.src && y.twinB == x.twinB) }

/-- SEQ a is greater than SEQ b modulo 2^32. -/
def seqAfter (a b : Nat) : Bool :=
  let d := (a + 4294967296 - b % 4294967296) % 4294967296
  decide (0 < d ∧ d < 2147483648)

/-- A fault raised at most once in a device second for an ID. -/
def State.raiseOnce (s : State) (cls code id : Nat) : State :=
  if s.cl.raised.contains (256 * cls + code, id, s.second) then s
  else
    (s.raise cls code id).onCl fun c =>
      { c with raised := (256 * cls + code, id, s.second) :: c.raised.filter fun r => !(r.1 == 256 * cls + code && r.2.1 == id) }

/-- The roster entry of an ID. -/
def State.entry (s : State) (id : Nat) : Roster := (s.cl.roster.find? (·.id == id)).getD { id := id }

/-- A module at this manager. -/
def State.member (s : State) (id : Nat) (selB : Bool) : Member :=
  (s.cl.members.find? fun m => m.id == id && m.selB == selB).getD { id := id, selB := selB }

/-- What a manager lets through of a sender below it (R502, R503). -/
def State.rosterPass (s : State) (h : Hdr) : State × Bool :=
  if !s.isManager || h.relayed || some h.src == s.managerId || h.src == s.myId then (s, true)
  else if !(s.entry h.src).enabled then (s.raiseOnce 0x15 0x05 h.src, false)
  else if (s.member h.src h.twinB).st == 3 && (h.type == 2 || h.type == 3 || h.type == 6 || h.type == 8) then
    (s.raiseOnce 0x15 0x04 h.src, false)
  else (s, true)

/-- The frame carries the payload that its LENGTH says, in whole words (R495; a frame that lacks it counts as damaged, log entry
73). -/
def skovWhole (f : SkovFrame) : Bool :=
  decide (fld f.h1 31 16 ≤ 1480) && (fld f.h1 31 16 + 3) / 4 == f.payload.length

/-- The record of the sender of the frame f as it stands when f arrives: its SEQ records are forgotten once it has been silent for
4 ms (R498). -/
def State.skovSender (s : State) (f : SkovFrame) : Sender :=
  if (s.sender (hdrOf f)).heard + 4 * msC ≤ s.clk + f.wait then { s.sender (hdrOf f) with seqs := [] } else s.sender (hdrOf f)

/-- The context of a port as it stands for the sender of the frame f (R497). -/
def State.skovCtx (s : State) (f : SkovFrame) : Ctx :=
  { s.cvu.ctx (10 + 2 * f.port) with
    aliveValid := (s.sender (hdrOf f)).alive.isSome, aliveLast := (s.sender (hdrOf f)).alive.getD 0 }

/-- What that context does with it; a frame of more or less payload than its LENGTH says fails its CRC (R495; log entry 73). -/
def State.skovCheck (s : State) (f : SkovFrame) : Ctx × Found :=
  (s.skovCtx f).check (wireBytes ([f.h0, f.h1, f.h2, f.h3] ++ f.payload)) (if skovWhole f then f.crc.toNat else 4294967296)

/-- The address of a header, as the SEQ records name it. -/
def Hdr.addr (h : Hdr) : Nat := (if h.group then 4096 else 0) + h.dst

/-- What becomes of a frame with the header h, whose sender has the record r, after its check by the port's context (R497, R498,
R502, R503): a repeated frame, and one that is not newer than the last of its sender to its address, goes no further. -/
def State.skovJudge (s : State) (h : Hdr) (r : Sender) (found : Found) : State × Option Hdr :=
  match found with
  | .crcFail => (s.raise 0x0E 0x03 h.src, none)
  | .again => (s.raise 0x0E 0x04 h.src, none)
  | _ =>
    let s := match found with | .gap _ => s.raise 0x0E 0x05 h.src | _ => s
    let r := { r with alive := some h.alive }
    let fresh := h.seq == 1 || (alookup r.seqs h.addr).all (seqAfter h.seq)
    if !fresh then (s.setSender r, none)
    else
      let p := (s.setSender { r with seqs := aset r.seqs h.addr h.seq, heard := s.clk }).rosterPass h
      (p.1, if p.2 then some h else none)

/-- SKOV_FRAME_CHECK (R494 to R498): a received frame is discarded, or passed on with its header. A port under a lane test
hears nothing (R463). The alive counter is kept by sender; the SEQ records of a sender silent for 4 ms are forgotten. -/
def skovIn (s : State) (f : SkovFrame) : State × Option Hdr :=
  let r := s.skovSender f
  let x := s.skovCheck f
  let s := s.pass f.wait
  let h := hdrOf f
  if h.version != 1 || (h.src == s.myId && h.twinB == s.selB) || !s.hears f.port || !s.hearsOn f.port h
      || !s.addressed h then (s, none)
  else ((s.onCl fun c => { c with received := c.received + 1 }).useCtx (10 + 2 * f.port) x.1).skovJudge h r x.2

/-! ### Members (R500 to R505) -/

/-- The words of the module's identification: GLB_SERIAL_LO, GLB_SERIAL_HI in BCD (R2) and GLB_FW. -/
def bcd : Nat → Nat → Nat
  | 0, _ => 0
  | k + 1, n => n % 10 + 16 * bcd k (n / 10)
def serialLo : Nat := bcd 8 Config.serialNumber
def serialHi : Nat := bcd 4 (Config.serialNumber / 100000000)

/-- GLB_FW: the image that runs, and once FW_READY is 1 the command set and versions (table "GLB_ registers", R564). -/
def State.fwWord (s : State) : Nat :=
  at' s.pw.runs 24 + (if !s.host.fwReady then 0 else if s.pw.recovery then 0x030002 else (tab s.pw.slots s.pw.runs).fw % 16777216)

/-- A member's record is set; a change of state writes CL_MEMBER (R505). -/
def State.setMember (s : State) (m : Member) : State :=
  let old := (s.member m.id m.selB).st
  let s := s.onCl fun c => { c with members := c.members.filter (fun x => !(x.id == m.id && x.selB == m.selB)) ++ [m] }
  let s := if old = 5 && m.st != 5 then s.causeOff 0x0E 0x01 m.id else s
  let s := if old = 3 && m.st != 3 then (s.causeOff 0x15 0x03 m.id).causeOff 0x15 0x06 m.id else s
  if old = m.st then s
  else s.event 0x0E01 0xFF 6 [m.id + at' (b01 m.selB) 12 + at' m.st 16 + at' old 20]

/-- The bytes of an SPDM message are those of the SPDM specification and are free; a fragment says where it stands. -/
def State.sendSpdm (s : State) (sub dst : Nat) : State :=
  (s.sendSkov 1 sub false dst 0 [w32 (4 * (1 + s.freeVal 501 dst % 360)), w32 (s.freeVal 502 dst)]).drawn

/-- Admission begins (again): JOINING, and the first SPDM request. -/
def State.letIn (s : State) (m : Member) : State :=
  (s.setMember { m with st := 1, spdm := 0, digest := List.replicate 12 0 }).sendSpdm 1 m.id

/-- SKOV_JOIN_RX: a manager takes what JOIN reports and starts admission of a module that is ABSENT or MISSING (R501,
R502). -/
def execSkovJoinRx (f : SkovFrame) (s : State) : Host.Outcome State Fault Refusal :=
  let (s, h) := skovIn s f
  match h with
  | none => .next s
  | some h =>
    if h.type != 1 || h.sub != 0 || !s.isManager then .next s
    else
      let p (i : Nat) : Word := f.payload.getD i 0
      let m := { s.member h.src h.twinB with role := fld (p 0) 13 12, serial := [p 1, p 2], fw := p 3 }
      if m.st = 0 || m.st = 5 then .next (s.letIn m) else .next (s.setMember m)

/-- How much of a fragmented message is complete (R501): bytes collected, and whether it is whole. -/
def skovParts (got : Nat) (f : SkovFrame) : Nat × Bool :=
  let w := f.payload.getD 0 0
  let n := (hdrOf f).len - 4
  if fld w 31 16 = 0 || fld w 31 16 = got then
    let got := fld w 31 16 + n
    if fld w 15 0 ≤ got then (0, true) else (got, false)
  else (got, false)

/-- SKOV_SPDM_REQ_RX: a complete request of the admission is answered (R83, R501). -/
def execSkovSpdmReqRx (f : SkovFrame) (s : State) : Host.Outcome State Fault Refusal :=
  let (s, h) := skovIn s f
  match h with
  | none => .next s
  | some h =>
    if h.type != 1 || h.sub != 1 then .next s
    else if s.isManager && some h.src != s.managerId then
      let m := s.member h.src h.twinB
      if m.st != 1 then .next s
      else
        let (n, whole) := skovParts m.spdm f
        let s := s.setMember { m with spdm := n }
        .next (if whole then s.sendSpdm 2 h.src else s)
    else if some h.src == s.managerId && !s.cl.refused then
      let (n, whole) := skovParts s.cl.spdm f
      let s := s.onCl fun c => { c with spdm := n }
      .next (if whole then s.sendSpdm 2 h.src else s)
    else .next s

/-- The decision of an admission, the first row that matches (table "Admission outcomes" of R502). -/
def decide' (s : State) (m : Member) (d : Finding) : State :=
  let e := s.entry m.id
  let m := { m with digest := d.digest }
  if !d.chain then (s.raise 0x15 0x01 m.id).setMember { m with st := 4 }
  else if !d.signature then (s.raise 0x15 0x02 m.id).setMember { m with st := 4 }
  else if m.role != e.role then (s.raise 0x0E 0x0B m.id).setMember { m with st := 4 }
  else if d.digest != (if m.selB then e.digestB else e.digestA) then
    ((s.raiseOn 0x15 0x03 m.id).setMember { m with st := 3 }).event 0x0E02 0xFF 6
      [m.id + at' (b01 m.selB) 12, (m.serial.getD 0 0).toNat, (m.serial.getD 1 0).toNat, (d.digest.getD 11 0).toNat]
  else if s.cl.sameFw && !d.firmware then (s.raiseOn 0x15 0x06 m.id).setMember { m with st := 3 }
  else (s.setMember { m with st := 2, heard := s.clk }).sendSkov 1 3 false m.id 0 []

/-- SKOV_SPDM_RSP_RX: a response is collected; the one that completes the exchange decides the admission at the manager
(R502), and at a member the manager's identity (R504). -/
def execSkovSpdmRspRx (f : SkovFrame) (find : Option Finding) (s : State) : Host.Outcome State Fault Refusal :=
  let (s, h) := skovIn s f
  match h with
  | none => .next s
  | some h =>
    if h.type != 1 || h.sub != 2 then .next s
    else if s.isManager && some h.src != s.managerId then
      let m := s.member h.src h.twinB
      if m.st != 1 then .next s
      else
        let (n, whole) := skovParts m.spdm f
        let s := s.setMember { m with spdm := n }
        match whole, find with
        | true, some d => .next (decide' s { m with spdm := 0 } d)
        | true, none => .next (s.sendSpdm 1 h.src)
        | false, _ => .next s
    else if some h.src == s.managerId && !s.cl.refused then
      let (n, whole) := skovParts s.cl.spdm f
      let s := s.onCl fun c => { c with spdm := n }
      match whole, find with
      | true, some d =>
        let wrong := match s.cl.pin with | some p => p != d.digest | none => false
        if !(d.chain && d.signature) then .next s
        else if wrong then .next ((s.raiseOn 0x15 0x07 h.src).onCl fun c => { c with refused := true, joined := false })
        else
          let w (i : Nat) : Nat := (d.digest.getD i 0).toNat
          .next (s.event 0x0E04 0xFF 6 [1 + at' h.src 16, w 11, w 10, w 9])
      | true, none => .next (s.sendSpdm 1 h.src)
      | false, _ => .next s
    else .next s

/-- SKOV_ADMIT_RX: the member is admitted and stops sending JOIN (R501). -/
def execSkovAdmitRx (f : SkovFrame) (s : State) : Host.Outcome State Fault Refusal :=
  let (s, h) := skovIn s f
  match h with
  | none => .next s
  | some h =>
    if h.type = 1 && h.sub = 3 && some h.src == s.managerId && !s.cl.refused then
      .next ((s.causeOff 0x0E 0x02 h.src).onCl fun c => { c with joined := true, heard := s.clk })
    else .next s

/-- JOIN_TX: every 100 ms until ADMIT comes (R501). -/
def execJoinTx (s : State) : Host.Outcome State Fault Refusal :=
  match s.managerId with
  | some m =>
    if !s.cl.on || s.cl.joined || s.cl.refused then .next s
    else
      let s := s.toClk s.cl.nextJoin
      let id := w32 (s.myId + at' s.strapRole 12 + at' (b01 s.selB) 14)
      let s := s.sendSkov 1 0 false m 0 [id, w32 serialLo, w32 serialHi, w32 s.fwWord]
      .next (s.onCl fun c => { c with nextJoin := s.clk + 100 * msC })
  | none => .next s

/-- CLUSTER_HEARTBEAT_TX: every 1 ms an admitted module sends to its manager, and a manager to its groups (R505). -/
def execClusterHeartbeatTx (s : State) : Host.Outcome State Fault Refusal :=
  if !s.cl.on || s.strapRole = 0 || !(s.cl.joined || s.isManager) then .next s
  else
    let s := s.toClk s.cl.nextBeat
    let p := [w32 s.twin.role, w32 s.pw.st] ++ timeWords s.now
    let s := if s.cl.joined then s.sendSkov 9 1 false (s.managerId.getD 0) 0 p else s
    let s := if s.isManager then s.sendSkov 9 1 true (s.myId / 64) 0 p else s
    let s := if s.strapRole = 3 then s.sendSkov 9 1 true 0x040 0 p else s
    .next (s.onCl fun c => { c with nextBeat := s.clk + msC })

/-- A cluster heartbeat renews its sender (R505). -/
def clusterBeat (s : State) (h : Hdr) : State :=
  if some h.src == s.managerId then s.onCl fun c => { c with heard := s.clk }
  else if s.isManager then
    s.onCl fun c =>
      { c with members := c.members.map fun m => if m.id = h.src && m.selB = h.twinB then { m with heard := s.clk } else m }
  else s

/-- IDs with an ADMITTED module, and the core clock of the newest heartbeat of any of theirs. -/
def State.admitted (s : State) : List (Nat × Nat) :=
  let l := s.cl.members.filter (·.st == 2)
  ((l.map (·.id)).eraseDups).map fun i => (i, ((l.filter (·.id == i)).map (·.heard)).foldl max 0)

/-- MEMBER_MISSING: the clock runs on until an admitted member has been silent for 4 ms (R505). -/
def execMemberMissing (s : State) : Host.Outcome State Fault Refusal :=
  match minBy (·.2) s.admitted with
  | none => .next s
  | some (i, t) =>
    let s := s.toClk (t + 4 * msC)
    let s := s.raiseOn 0x0E 0x01 i
    .next ((s.cl.members.filter fun m => m.id == i && m.st == 2).foldl (fun s m => s.setMember { m with st := 5 }) s)

/-- MANAGER_LOST: no heartbeat of the manager for 4 ms (R505). -/
def execManagerLost (s : State) : Host.Outcome State Fault Refusal :=
  match s.managerId with
  | some m =>
    if !s.cl.joined then .next s
    else
      let s := s.toClk (s.cl.heard + 4 * msC)
      .next ((s.raiseOn 0x0E 0x02 m).onCl fun c => { c with joined := false, nextJoin := s.clk })
  | none => .next s

/-- SEQ_RECORD_EXPIRE: the records of a sender silent for 4 ms are forgotten (R498). -/
def execSeqRecordExpire (s : State) : Host.Outcome State Fault Refusal :=
  match minBy (·.heard) (s.cl.senders.filter fun x => !x.seqs.isEmpty) with
  | none => .next s
  | some x =>
    let s := s.toClk (x.heard + 4 * msC)
    .next (s.setSender { x with seqs := [] })

/-! ### Commands -/

/-- A channel bound to cluster rate control runs. -/
def State.boundRuns (s : State) : Bool := (List.range 16).any fun c => s.runs c && (s.ch c).clrc.level != 0

/-- An ID that agrees with the strapped role (R493). -/
def State.idFits (s : State) (id : Nat) : Bool :=
  match s.strapRole with
  | 1 => id % 64 != 0
  | 2 => id % 64 == 0
  | 3 => id == 0
  | _ => false

/-- CL_CONFIG (0x0E00; R493, R498, R521). -/
def hClConfig (c : Vx) (s : State) : Res :=
  let id := fld (c.w 2) 11 0
  refuseRsv c [(2, msk 14 0), (3, msk 15 0), (4, msk 15 0)] <|
  refuse s.boundRuns .badState noWord <|
  refuse (!s.idFits id) .denied 2 <|
  let ev := fld (c.w 4) 15 0
  let s := s.onFlt fun f => { f with causes := f.causes.filter fun q => q.cls != 0x0E && q.cls != 0x15 }
  .ok [] (s.onCl fun x =>
    { x with
      id := some id, portM1 := bit (c.w 2) 12, sameFw := bit (c.w 2) 13, on := bit (c.w 2) 14
      vid := fld (c.w 3) 11 0, vlan := bit (c.w 3) 12, pcp := fld (c.w 3) 15 13
      etherType := if ev = 0 then 0x88B5 else ev
      joined := false, refused := false, heard := s.clk, nextJoin := s.clk, nextBeat := s.clk, spdm := 0
      members := [], seqs := [] })

/-- Twelve words of a digest from slot word k. -/
def digestOf (c : Vx) (k : Nat) : List Word := (List.range 12).map fun i => c.w (k + i)

/-- CL_PIN (0x0E01; R504). -/
def hClPin (c : Vx) (s : State) : Res :=
  let d := digestOf c 2
  .ok [] (s.onCl fun x => { x with pin := if d.all (· == 0) then none else some d })

/-- IDs of this manager's roster (R500). -/
def State.inRoster (s : State) (id : Nat) : Bool :=
  match s.cl.id with
  | none => false
  | some i => (id / 64 == i / 64 && id % 64 != 0) || (s.strapRole == 3 && id % 64 == 0 && id != 0)

/-- CL_ROSTER_WRITE (0x0E02; R500, R521): a change restarts the admission of a module that is under way or decided. -/
def hClRosterWrite (c : Vx) (s : State) : Res :=
  let w := c.w 2
  let id := fld w 11 0
  let d := digestOf c 3
  refuseRsv c [(2, msk 15 0)] <|
  refuse (!s.isManager) .denied noWord <|
  refuse (!s.inRoster id) .noResource 2 <|
  let old := s.entry id
  let e : Roster :=
    { old with
      role := fld w 13 12, enabled := bit w 15
      digestA := if bit w 14 then old.digestA else d, digestB := if bit w 14 then d else old.digestB }
  let s := s.onCl fun x => { x with roster := x.roster.filter (·.id != id) ++ [e] }
  if e = old then .ok [] s
  else
    .ok [] ((s.cl.members.filter fun m => m.id == id && decide (1 ≤ m.st ∧ m.st ≤ 4)).foldl
      (fun s m => if e.enabled then s.letIn m else s.setMember { m with st := 0 }) s)

/-- The module of an ID that CL_ROSTER_QUERY shows: an admitted one first, then one under way. -/
def State.shownMember (s : State) (id : Nat) : Member :=
  let l := s.cl.members.filter (·.id == id)
  (([2, 3, 1, 4, 5].filterMap fun st => l.find? (·.st == st)).head?).getD { id := id, selB := false }

/-- CL_ROSTER_QUERY (0x0E03). -/
def hClRosterQuery (c : Vx) (s : State) : Res :=
  let id := fld (c.w 2) 11 0
  let m := s.shownMember id
  refuseRsv c [(2, msk 11 0)] <|
  .ok ([m.st + at' (b01 (s.entry id).enabled) 8, (m.serial.getD 0 0).toNat, (m.serial.getD 1 0).toNat, m.fw.toNat]
    ++ m.digest.map (·.toNat)) s

/-- CL_ACCEPT (0x0E04; R503, R521). -/
def hClAccept (c : Vx) (s : State) : Res :=
  let w := c.w 2
  let id := fld w 11 0
  let m := s.member id (bit w 14)
  refuseRsv c [(2, msk 11 0 + msk 14 14)] <|
  refuse (!s.isManager) .denied noWord <|
  refuse (m.st != 3) .badState noWord <|
  let e := s.entry id
  let e : Roster := if bit w 14 then { e with digestB := m.digest } else { e with digestA := m.digest }
  .ok [] ((s.onCl fun x => { x with roster := x.roster.filter (·.id != id) ++ [e] }).letIn m)

/-- CL_STATUS (0x0E20). -/
def hClStatus (_ : Vx) (s : State) : Res :=
  let n (st : Nat) : Nat := (((s.cl.members.filter (·.st == st)).map (·.id)).eraseDups).length
  .ok [s.myId + at' (b01 s.cl.joined) 16, n 2, n 3, s.cl.sent.toNat, s.cl.received.toNat] s

/-- CL_OP_SLOT (0x0E12; R521). -/
def hClOpSlot (c : Vx) (s : State) : Res :=
  let ws := (List.range 8).map fun i => c.w (3 + i)
  refuseRsv c [(2, msk 0 0)] <|
  refuse (!s.isManager) .denied noWord <|
  .ok [] (s.onCl fun x => if bit (c.w 2) 0 then { x with slotHi := some ws } else { x with slotLo := some ws })

end Sys2Proof.Machine
end

