-- ==== Sys2Proof/Machine/RateControl.lean ====
section
/-!
DEFINITION. Rate control (R247, R263 to R281 of chapter 08): its commands, the starts of phases, sharing groups, and the
exchange with the cluster.
-/
namespace Sys2Proof.Machine

/-! ### Dippers and declared times (R268, R269, R281) -/

/-- The user program that a channel is bound to. -/
def State.boundProg (s : State) (c : Nat) : Option Prog :=
  match (s.ch c).bind with
  | some b => if b.user then (s.dp b.dipper).progs.find? (·.num == b.program) else none
  | none => none

/-- Declared worst-case cycles of a channel's phases. -/
def State.phaseCycles (s : State) (c : Nat) : List Nat :=
  match s.boundProg c with
  | some p => p.budgets
  | none => (List.range 4).map (Config.builtinCycles (match (s.ch c).rc with | some r => r.mode | none => 0))

/-- Cycles of a dipper in time units: 750 MHz (R311). -/
def cyclesU (n : Nat) : Nat := ceilDiv (n * 4 * nsU) 3

/-- The channels that a dipper serves: bound to it, or running on it. -/
def State.servedBy (s : State) (d : Nat) : List Nat :=
  (List.range 16).filter fun c =>
    (match (s.ch c).bind with | some b => b.dipper == d | none => false) || (s.runs c && (s.ch c).dip == d)

/-- Sum of the cycles of all phases of some channels, and their smallest T_row. -/
def State.dipperSum (s : State) (l : List Nat) : Nat := sumNat (l.map fun c => sumNat (s.phaseCycles c))
def State.leastRow (s : State) (l : List Nat) : Option Nat :=
  (l.filterMap fun c => (s.tRow c).map fun q => q.quot 269).min?

/-- The rule of R269 for the channels of one dipper. -/
def State.dipperFits (s : State) (l : List Nat) : Bool :=
  (match s.leastRow l with
   | some t => decide (2 * cyclesU (s.dipperSum l) ≤ t)
   | none => true) && l.all fun c => decide ((s.phaseCycles c).getD 2 0 ≤ 6000)

/-- The dipper on which a channel runs: its binding's, or the lowest that passes R269 (R281). -/
def State.chooseDipper (s : State) (c : Nat) : Option Nat :=
  match (s.ch c).bind with
  | some b => some b.dipper
  | none => (List.range 4).find? fun d => s.dipperFits (c :: (s.servedBy d).filter (· != c))

/-- Q_d of a dipper (R268). -/
def State.qd (s : State) (d : Nat) : Nat := cyclesU (s.dipperSum (s.servedBy d)) + usU

/-! ### Settings of a running channel (R280) -/

/-- A setting applies to the picture in progress: its row 0 has not been issued. -/
def State.beforeIssue (s : State) (c : Nat) : Bool :=
  match (s.ch c).frame with
  | some f => !(s.enc.rows.any fun r => r.chan == c && r.frame == f && r.row == 0 && r.readied)
  | none => true

/-- RC_CONFIG, RC_BIND and CLRC_CONFIG of a running channel must be staged. -/
def rcNeedStage (c : Vx) (s : State) : Bool := s.runs (fld (c.w 2) 3 0)

/-- The streams of a channel with their numbers. -/
def State.chStreams (s : State) (c : Nat) : List (Nat × Strm) :=
  match (s.ch c).lay with
  | some l => (List.range l.count).map fun i => (l.first + i, s.strm (l.first + i))
  | none => []

/-- The settings that wait take effect, at the boundary of a picture. RATE is then that of RC_CONFIG until a group sets it. -/
def State.takeRc (s : State) (c : Nat) : State :=
  let s := match (s.ch c).bindNext, (s.ch c).bind with
    | some n, some b =>
      let s := if b.user then s.closeWindow b.dipper c b.program else s
      if n.user then s.openWindow n.dipper c n.program else s
    | some n, none => if n.user then s.openWindow n.dipper c n.program else s
    | none, _ => s
  let s := if (s.ch c).rcNext.isSome then (s.chStreams c).foldl (fun s (i, _) => s.onStrm i fun t => { t with rate := 0 }) s else s
  s.onCh c fun h =>
    { h with
      dip := match h.bindNext with | some b => b.dipper | none => h.dip
      rc := match h.rcNext with | some r => some r | none => h.rc
      bind := match h.bindNext with | some b => some b | none => h.bind
      clrc := match h.clrcNext with
        | some (l, m, f) => { h.clrc with level := l, manager := m, first := f }
        | none => h.clrc
      rcNext := none, bindNext := none, clrcNext := none }

/-- A change of the waiting settings, which take effect at once before row 0 of the picture is issued. -/
def State.setRc (s : State) (c : Nat) (f : Ch → Ch) : State :=
  let s := s.onCh c f
  if s.runs c && !s.beforeIssue c then s else s.takeRc c

/-! ### Commands of group 0x05 -/

/-- Some row's floor exceeds M / N, in the first picture or a later one (R247). -/
def Ch.floorOver (h : Ch) (g : ChCfg) (r : RcCfg) (t : Strm) : Bool :=
  let m := h.maxSize g r
  let n := t.rows g.ctu
  (List.range n).any fun k =>
    decide (m < h.rowFloor g t 0 k * n) || decide (m < h.rowFloor g t h.phases k * n)

/-- R_h in kbit/s of a stream: M / N over T_row (R248). -/
def Ch.rhK (h : Ch) (g : ChCfg) (r : RcCfg) (t : Strm) (tr : Q) : Nat :=
  (Q.div ⟨h.maxSize g r * secU, t.rows g.ctu * 1000⟩ tr).quot 248

/-- RC_CONFIG (0x0500; R247, R251, R260, R280). -/
def hRcConfig (c : Vx) (s : State) : Res :=
  let ch := fld (c.w 2) 3 0
  let h := s.ch ch
  let mode := fld (c.w 2) 5 4
  let r : RcCfg :=
    { mode := mode, headroom := fld (c.w 2) 25 16, rate := (c.w 3).toNat, rateMax := (c.w 4).toNat
      qpCq := fld (c.w 5) 23 16, qpMax := fld (c.w 5) 15 8, qpMin := fld (c.w 5) 7 0, window := fld (c.w 6) 13 0 }
  refuseRsv c [(2, msk 25 16 + msk 5 0), (5, msk 23 0), (6, msk 13 0)] <|
  match h.cfg, h.lay, s.tRow ch with
  | some g, some _, some tr =>
    let top := if r.qpMax = 0 then defaultQpMax g.codec else r.qpMax
    let low := if g.codec = 0 then 40 else 50
    refuse (mode == 3 || decide (250 < r.headroom)) .badParam 2 <|
    refuse (decide (top < low) || decide (defaultQpMax g.codec < top)) .badParam 5 <|
    refuse (decide (top < r.qpMin) || decide (top < r.qpCq)) .badParam 5 <|
    refuse (r.window != 0 && (decide (r.window < 100) || decide (10000 < r.window))) .badParam 6 <|
    let h' := { h with rc := some r }
    let l := s.chStreams ch
    let rh := (l.map fun (_, t) => h'.rhK g r t tr).foldl max 0
    let m := h'.maxSize g r
    refuse (decide (Config.levelMaxRate g.codec g.tier (profileIndex g) < rh)
        || decide (Config.levelMaxCpb g.codec g.tier (profileIndex g) < m))
      .badParam noWord <|
    refuse (l.any fun (_, t) => h'.floorOver g r t) .badParam noWord <|
    let floor := match l.head? with | some (_, t) => h'.floorRest g t h'.phases 0 | none => 0
    .ok [rh, m, floor] (s.setRc ch fun h => { h with rcNext := some r })
  | _, _, _ => .err .badState noWord

/-- RC_QUERY (0x0501). The mean QP of a last picture without a CU that took one is free (log entry 29). -/
def hRcQuery (c : Vx) (s : State) : Res :=
  let ch := fld (c.w 2) 3 0
  let i := fld (c.w 2) 8 4
  let h := s.ch ch
  refuseRsv c [(2, msk 8 0)] <|
  match h.cfg, h.rc, h.lay with
  | some g, some r, some l =>
    refuse (decide (l.count ≤ i)) .badParam 2 <|
    let t := s.strm (l.first + i)
    let k : Int := if r.mode = 0 then t.carry else sumInt (t.diffs.take (h.windowPics g r))
    .ok [r.mode, t.lastSize, (wInt k).toNat, t.reservePics, t.fallbacks, h.floorRest g t h.phases 0,
      if t.lastCus = 0 then s.freeVal 501 i % (63 * 256 + 1) else quot 501 (256 * t.lastQp) t.lastCus, if t.rate = 0 then r.rate else t.rate] s.drawn
  | _, _, _ => .err .badState noWord

/-- RC_BIND (0x0502; R269, R280). -/
def hRcBind (c : Vx) (s : State) : Res :=
  let w := c.w 2
  let ch := fld w 3 0
  let b : RcBind := ⟨fld w 5 4, bit w 8, fld w 21 16⟩
  refuseRsv c [(2, msk 21 16 + msk 8 8 + msk 5 0)] <|
  refuse (b.user && !((s.dp b.dipper).progs.any fun p => p.num == b.program && p.kind == 0)) .badParam 2 <|
  let s' := s.onCh ch fun h => { h with bind := some b }
  let l := ch :: (s.servedBy b.dipper).filter (· != ch)
  refuse (!s'.dipperFits l) .noResource noWord <|
  refuse (b.user && !(s.dp b.dipper).windowFits ch b.program) .noResource noWord <|
  let load := match s'.leastRow l with
    | some t => quot 502 (200 * cyclesU (s'.dipperSum l)) (max 1 t)
    | none => 0
  .ok [load] (s.setRc ch fun h => { h with bindNext := some b })

/-- CLRC_CONFIG (0x0520; R272, R280). -/
def hClrcConfig (c : Vx) (s : State) : Res :=
  let ch := fld (c.w 2) 3 0
  let level := fld (c.w 2) 5 4
  refuseRsv c [(2, msk 27 16 + msk 5 0), (3, msk 7 0)] <|
  refuse (level == 3) .badParam 2 <|
  refuse (level == 1 && match s.tRow ch with | some t => t.lt ⟨50 * usU, 1⟩ | none => false) .badParam 2 <|
  .ok [] (s.setRc ch fun h => { h with clrcNext := some (level, fld (c.w 2) 27 16, fld (c.w 3) 7 0) })

/-! ### Sharing groups (R265 to R267) -/

/-- Water-filling (R266): members with a base, a weight and a cap share a pool in proportion to weight; those that reach
the cap keep it and their excess returns. A share that is no whole unit is rounded one way or the other. -/
def waterFill : Nat → Nat → List (Nat × Nat × Nat × Bool) → List (Nat × Nat × Nat × Bool)
  | 0, _, l => l
  | k + 1, pool, l =>
    let open' := l.filter fun (_, _, _, full) => !full
    let w := sumNat (open'.map fun (_, w, _, _) => w)
    if w = 0 then l
    else
      let capped := open'.filter fun (b, wi, cap, _) => decide (cap ≤ b + pool * wi / w)
      if capped.isEmpty then l
      else
        let used := sumNat (capped.map fun (b, _, cap, _) => cap - b)
        waterFill k (pool - used) (l.map fun (b, wi, cap, full) =>
          if !full && decide (cap ≤ b + pool * wi / w) then (b, wi, cap, true) else (b, wi, cap, full))

/-- The shares: base, weight, cap of each member. -/
def shareOut (pool : Nat) (l : List (Nat × Nat × Nat)) : List Nat :=
  let m := waterFill (l.length + 1) pool (l.map fun (b, w, cap) => (b, w, cap, false))
  let left := pool - sumNat (m.map fun (b, _, cap, full) => if full then cap - b else 0)
  let w := sumNat (m.map fun (_, w, _, full) => if full then 0 else w)
  m.map fun (b, wi, cap, full) => if full then cap else if w = 0 then b else min cap (b + quot 266 (left * wi) w)

/-- Some member of a group is a stream that runs (R280). -/
def Group.affects (g : Group) (s : State) : Bool := g.members.any fun m => s.streamRuns m.1

/-- The settings of a group as the next command sees them. -/
def Group.seen (g : Group) : Group :=
  match g.held with
  | some ⟨on, p, r, l⟩ => { g with on := on, period := p, rate := r, members := l }
  | none => g

/-- Changed settings, held for the next period while they affect a running stream. -/
def Group.put (g n : Group) (hold : Bool) : Group :=
  if hold then { g with held := some ⟨n.on, n.period, n.rate, n.members⟩ }
  else { n with held := none, last := g.last }

/-- GROUP_CONFIG and GROUP_MEMBER that affect a running stream must be staged. -/
def groupNeedStage (c : Vx) (s : State) : Bool :=
  let g := (tab s.enc.groups (fld (c.w 2) 2 0)).seen
  g.affects s
/-- The same for a member to be. -/
def memberNeedStage (c : Vx) (s : State) : Bool := groupNeedStage c s || s.streamRuns (fld (c.w 2) 7 3)

/-- GROUP_CONFIG (0x0510; R265). -/
def hGroupConfig (c : Vx) (s : State) : Res :=
  let w := c.w 2
  let i := fld w 2 0
  let p := fld w 8 4
  let old := tab s.enc.groups i
  let n := { old.seen with on := bit w 3, period := p, rate := (c.w 3).toNat }
  refuseRsv c [(2, msk 8 0)] <|
  refuse (p == 0 || decide (20 < p)) .badParam 2 <|
  refuse (decide (n.rate < sumNat (n.members.map fun m => m.2.2.1))) .badParam 3 <|
  .ok [] (s.onEnc fun e => { e with groups := upd e.groups i fun g => g.put n (old.seen.affects s) })

/-- GROUP_MEMBER (0x0511; R265). -/
def hGroupMember (c : Vx) (s : State) : Res :=
  let w := c.w 2
  let i := fld w 2 0
  let st := fld w 7 3
  let old := tab s.enc.groups i
  let rest := old.seen.members.filter (·.1 != st)
  let t := s.strm st
  let (rmin, rmax) := ((c.w 3).toNat, (c.w 4).toNat)
  refuseRsv c [(2, msk 15 12 + msk 8 0)] <|
  if bit w 8 then
    refuse (fld w 15 12 == 0) .badParam 2 <|
    refuse (!t.used || match (s.ch t.chan).rc with | some r => r.mode != 1 || decide (r.rateMax < rmax) | none => true) .badParam 2 <|
    refuse ((List.range 8).any fun k => k != i && (tab s.enc.groups k).seen.members.any (·.1 == st)) .badParam 2 <|
    let l := rest ++ [(st, fld w 15 12, rmin, rmax)]
    let n := { old.seen with members := l }
    refuse (decide (n.rate < sumNat (l.map fun m => m.2.2.1))) .badParam 3 <|
    .ok [l.length] (s.onEnc fun e => { e with groups := upd e.groups i fun g => g.put n (n.affects s) })
  else
    let n := { old.seen with members := rest }
    .ok [rest.length] (s.onEnc fun e => { e with groups := upd e.groups i fun g => g.put n (old.seen.affects s) })

/-- The next period boundary of a group on device time. -/
def Group.due (g : Group) (now : Nat) : Nat :=
  let p := g.period * 500 * usU
  let m := ceilDiv now p * p
  if m = g.last then m + p else m

/-- The mean row complexity of a stream over a time span before now, none without a row in it (R266). -/
def State.meanX (s : State) (stream span : Nat) : Option Nat :=
  let l := s.enc.rows.filterMap fun r =>
    match (s.ch r.chan).cfg, (s.ch r.chan).lay with
    | some g, some l =>
      let i := s.issueTime r.chan r.start
      if r.readied && decide (s.now < i + span) && decide (i ≤ s.now)
          && (l.rowStreams g r.frame r.row).any (·.1 == stream) then
        some (quot 256 (s.rowX r.chan r.frame r.row stream) g.xUnit)
      else none
    | _, _ => none
  if l.isEmpty then none else some (sumNat l / l.length)

/-- GROUP_PERIOD: the clock runs on to the next multiple of T_g of an enabled group, whose rate is shared anew (R266,
R280). -/
def execGroupPeriod (s : State) : Host.Outcome State Fault Refusal :=
  let l := (List.range 8).filterMap fun i =>
    let g := tab s.enc.groups i
    if g.on || g.held.isSome then some (i, g.due s.now) else none
  match minBy (·.2) l with
  | none => .next s
  | some (i, t) =>
    let s := s.toTime t
    let s := s.onEnc fun e => { e with groups := upd e.groups i fun g => { g.seen with held := none, last := t } }
    let g := tab s.enc.groups i
    if !g.on then .next s
    else
      let span := g.period * 500 * usU
      let items := g.members.map fun (st, w, rmin, rmax) =>
        (rmin, w * (match s.meanX st span with | some x => x | none => s.freeVal 266 st), rmax)
      let rates := shareOut (g.rate - sumNat (g.members.map fun m => m.2.2.1)) items
      .next ((g.members.zip rates).foldl (fun s (m, r) =>
        let busy := match (s.ch (s.strm m.1).chan).frame with
          | some _ => !(s.pictureOver m.1 (s.strm m.1).frame)
          | none => false
        s.onStrm m.1 fun x => if busy then { x with nextRate := some r } else { x with rate := r }) s.drawn)

/-! ### Reports and budgets (R272 to R279, R499, R519) -/

/-- Exchange of a row: none, or the figures of the row or of the picture. -/
def State.exchanges (s : State) (c row : Nat) : Bool :=
  match (s.ch c).clrc.level with
  | 1 => true
  | 2 => row == 0
  | _ => false

/-- The first three words of a report or budget payload (R499). -/
def prefixWords (n chan mosaic row t : Nat) : List Word :=
  [w32 (at' n 24 + at' chan 20 + at' (mosaic % 16) 16 + row), w32 (tNs t), w32 (tSec t)]

/-- The six words of a report entry of a stream of a row, from the module's own figures (table "RC_REPORT entry"). -/
def State.reportEntry (s : State) (c frame crow stream n : Nat) : List Word :=
  let h := s.ch c
  let t := s.strm stream
  let idx := h.clrc.first + (stream - (match h.lay with | some l => l.first | none => 0))
  match h.cfg, h.rc with
  | some g, some r =>
    let m := h.maxSize g r
    if h.clrc.level = 1 then
      [w32 (at' (idx % 256) 16 + crow), w32 (quot 256 (s.rowX c frame crow stream) g.xUnit), w32 (s.rowTarget c frame crow stream n),
       w32 (budgetLine m (t.rows g.ctu) n - s.charge stream frame), w32 (h.rowFloor g t frame n), w32 (min t.guards 65535)]
    else
      [w32 (at' (idx % 256) 16 + 0xFFFF), w32 (quot 256 (sumNat (t.xBefore h.phases frame)) g.xUnit), w32 (h.target g r t), w32 m,
       w32 (h.floorRest g t frame 0), w32 (min t.guards 65535)]
  | _, _ => []

/-- Reports reach the manager: each is kept, late where it comes after I_n - 30 us or names a stream reported already
(R274, R519). -/
def State.takeReports (s : State) (member : Nat) (ws : List Word) : State :=
  let w (i : Nat) : Word := ws.getD i 0
  let n := fld (w 0) 31 24
  let sec := tSec s.now / 4294967296 * 4294967296 + (w 2).toNat
  let t := mkTime sec (w 1).toNat 0
  let late := decide (t < s.now + 30 * usU)
  (List.range n).foldl (fun s k =>
    let e (i : Nat) : Word := w (3 + 6 * k + i)
    let r : RcReport :=
      { member := member, chan := fld (w 0) 23 20, mosaic := fld (w 0) 19 16, t := t, row := fld (e 0) 15 0
        stream := fld (e 0) 23 16, x := (e 1).toNat, target := (e 2).toNat, room := (e 3).toNat, floor := (e 4).toNat
        guarded := fld (e 5) 15 0, late := late }
    let dup := s.enc.reports.any fun q => q.mosaic == r.mosaic && q.row == r.row && q.stream == r.stream && q.member != member
    let s := if dup then s.raise 0x0E 0x0C member else s
    let s := s.onEnc fun x =>
      { x with
        reports := x.reports ++ [{ r with late := late || dup }]
        workers := aset x.workers member
          (let y := (alookup x.workers member).getD {}
           { y with missing := aset y.missing r.mosaic 0, guards := ((r.guarded, Config.reportTasks r.stream) :: y.guards).take 256 }) }
    s) s

/-- A channel's reports for a row leave for its manager, or stay where this module is the manager. Only the active module
of a pair sends (R494). -/
def State.sendReports (s : State) (c frame crow : Nat) (entries : List (List Word)) : State :=
  let h := s.ch c
  let t := match s.row? c frame crow with | some r => s.issueTime c r.start | none => s.now
  let ws := prefixWords entries.length c (Config.mosaicNumber c) (if h.clrc.level = 1 then crow else 0xFFFF) t ++ entries.flatten
  let s := (match s.row? c frame crow with | some r => s.rowStreamsOf r | none => []).foldl
    (fun s i => s.onStrm i fun x => { x with guards := 0 }) s
  if s.standby then s
  else if h.clrc.manager = s.myId then s.takeReports s.myId ws
  else s.sendSkov 3 0 false h.clrc.manager 0 ws

/-- Budgets reach a worker: kept for the row that they name up to I_n - 10 us, else discarded (R275). -/
def State.takeBudgets (s : State) (manager : Nat) (ws : List Word) : State :=
  let w (i : Nat) : Word := ws.getD i 0
  let n := fld (w 0) 31 24
  (List.range n).foldl (fun s k =>
    let e0 := w (3 + 2 * k)
    let idx := fld e0 23 16
    let row := if fld e0 15 0 = 0xFFFF then 0 else fld e0 15 0
    (List.range 16).foldl (fun s c =>
      let h := s.ch c
      let count := match h.lay with | some l => l.count | none => 0
      if h.clrc.level = 0 || h.clrc.manager != manager || idx < h.clrc.first || h.clrc.first + count ≤ idx then s
      else
        match s.enc.rows.find? fun r => r.chan == c && r.row == row && r.capT.isSome && !r.readied with
        | some r =>
          if s.now + 10 * usU ≤ s.issueTime c r.start then
            s.onCh c fun h =>
              { h with clrc := { h.clrc with
                  scale := fld e0 31 24
                  budgets := (idx - h.clrc.first, r.frame, row, (w (4 + 2 * k)).toNat, fld e0 31 24) :: h.clrc.budgets.take 63 } }
          else s
        | none => s) s) s

/-- SKOV_RC_REPORT_RX (R274, R499). -/
def execSkovRcReportRx (f : SkovFrame) (s : State) : Host.Outcome State Fault Refusal :=
  let (s, h) := skovIn s f
  match h with
  | none => .next s
  | some h =>
    if h.type = 3 && h.sub = 0 && s.isManager && !s.standby && (s.member h.src h.twinB).st = 2 then
      .next (s.takeReports h.src f.payload)
    else .next s

/-- SKOV_RC_BUDGET_RX: targets of a worker's streams, or a cluster manager's group target (R275, R279). -/
def execSkovRcBudgetRx (f : SkovFrame) (s : State) : Host.Outcome State Fault Refusal :=
  let (s, h) := skovIn s f
  match h with
  | none => .next s
  | some h =>
    if h.type != 4 || h.sub != 0 || some h.src != s.managerId then .next s
    else if s.strapRole = 2 then
      .next (s.onEnc fun e => { e with share := some (f.payload.getD 4 0).toNat, answered := e.asked, shareGot := true, shareDue := none })
    else .next (s.takeBudgets h.src f.payload)

/-- The median of a list, the lower of the two middle values. -/
def median (l : List Nat) : Nat := (sortBy id l).getD ((l.length - 1) / 2) 0

/-- The scale of a worker x 128 (R277). -/
def RcWorker.newScale (y : RcWorker) : Nat :=
  let rec go (l : List (Nat × Nat)) (tasks bad : Nat) : Nat :=
    match l with
    | [] => bad
    | (g, n) :: rest => if 256 ≤ tasks then bad else go rest (tasks + n) (bad + g)
  let bad := go y.guards 0 0
  if bad * 64 ≤ 256 then 128 else max 64 (128 - min 128 (quot 277 (2 * 128 * bad) 256))

/-- The reports that are pooled first: those of the earliest I_n, of members or of cluster managers. -/
def State.poolOf (s : State) (ofManagers : Bool) : Option (Nat × List RcReport) :=
  let mine := s.enc.reports.filter fun r => (s.strapRole == 3 && r.member % 64 == 0 && r.row == 0xFFFF && r.chan == 15) == ofManagers
  match minBy (·.t) (mine.filter (!·.late)) with
  | none => none
  | some r =>
    let l := mine.filter fun q => q.mosaic == r.mosaic && q.row == r.row
    some (median ((l.filter (!·.late)).map (·.t)), l)

/-- The targets of a pool (R274): late reports keep their own, the rest of G is shared above the floors up to ROOM, in
proportion to s x X. `g` replaces the sum where a group target is in force (R279). -/
def State.pooled (s : State) (l : List RcReport) (g : Option Nat) : List (RcReport × Nat × Nat) :=
  let timely := l.filter (!·.late)
  let sum := match g with
    | some x => x - sumNat ((l.filter (·.late)).map (·.target))
    | none => sumNat (timely.map (·.target))
  let sc (r : RcReport) : Nat := ((alookup s.enc.workers r.member).getD {}).scale
  let shares := shareOut (sum - sumNat (timely.map (·.floor))) (timely.map fun r => (min r.floor r.room, sc r * r.x, r.room))
  (timely.zip shares).map (fun (r, b) => (r, b, sc r)) ++ (l.filter (·.late)).map fun r => (r, r.target, sc r)

/-- Budgets leave for their workers, one frame for each (R499). -/
def State.sendBudgets (s : State) (t row : Nat) (l : List (RcReport × Nat × Nat)) : State :=
  ((l.map fun x => (x.1.member, x.1.chan, x.1.mosaic)).eraseDups).foldl (fun s (m, ch, mo) =>
    let mine := l.filter fun x => x.1.member == m && x.1.chan == ch
    let ws := prefixWords mine.length ch mo row t ++
      mine.flatMap fun (r, b, sc) => [w32 (at' sc 24 + at' r.stream 16 + r.row), w32 b]
    if m = s.myId then s.takeBudgets m ws else s.sendSkov 4 0 false m 0 ws) s

/-- Workers that reported for a mosaic before and did not now (R276). -/
def State.missReports (s : State) (mosaic : Nat) (l : List RcReport) (limit : Nat) : State :=
  s.enc.workers.foldl (fun s (m, y) =>
    match alookup y.missing mosaic with
    | some n =>
      if l.any (·.member == m) then s
      else
        let s := s.onEnc fun e => { e with workers := aset e.workers m { y with missing := aset y.missing mosaic (n + 1) } }
        if n + 1 = limit then s.raise 0x06 0x04 (m % 64) else s
    | none => s) s

/-- The sums of a picture that the entries of one collection give: a frame-level exchange gives them at once, a row-level one
row by row from row 0 on. -/
def addSums (old : List Nat) (row : Nat) (l : List RcReport) : List Nat :=
  let new := [sumNat (l.map (·.x)), sumNat (l.map (·.target)), sumNat (l.map (·.room)), sumNat (l.map (·.floor)),
    sumNat (l.map (·.guarded))]
  if row = 0 || row = 0xFFFF || old.isEmpty then new else (old.zip new).map fun (a, b) => a + b

/-- A cluster manager reports its group's sums to the array manager at I_0 - 40 us of a picture (R279): those of the picture that it
collected last (DEDUCED, log entry 63). The room of a row-level exchange, whose reports do not give M, is free. -/
def State.reportGroup (s : State) (ref : Nat) (l : List RcReport) : State :=
  let row := match l.head? with | some r => r.row | none => 0
  if !(row = 0 || row = 0xFFFF) || s.strapRole != 2 || s.managerId.isNone || s.enc.sums.isEmpty then s
  else
    let s := s.toTime (ref - 40 * usU)
    let g (k : Nat) : Word := w32 (s.enc.sums.getD k 0)
    let room := if row = 0xFFFF then g 2 else w32 (s.freeVal 279 0)
    let s := s.onEnc fun e =>
      { e with shareDue := if e.shareGot then none else some (ref - 10 * usU), shareGot := false, asked := e.sums.getD 1 0 }
    (s.sendSkov 3 0 false 0 0 (prefixWords 1 15 0 0xFFFF ref ++ [w32 (at' (s.myId / 64) 16 + 0xFFFF), g 0, g 1, room, g 3, g 4])).drawn

/-- The pool of a collection where a group target is in force: that target, of a row the same proportion of what its streams ask
for (R279; DEDUCED, log entry 63). -/
def State.groupPool (s : State) (row : Nat) (l : List RcReport) : Option Nat :=
  s.enc.share.map fun x =>
    if row = 0xFFFF then x else quot 279 (sumNat (l.map (·.target)) * x) (max 1 s.enc.answered)

/-- RC_COLLECT: at the first row of a picture a cluster manager reports its sums to the array manager (R279); the clock runs on to
I_n - 30 us, where the manager pools the reports and sends the budgets (R274 to R277, R519). -/
def execRcCollect (s : State) : Host.Outcome State Fault Refusal :=
  match s.poolOf false with
  | none => .next s
  | some (ref, l) =>
    let s := (s.reportGroup ref l).toTime (ref - 30 * usU)
    let far (r : RcReport) : Bool := decide (r.t + 2 * usU < ref) || decide (ref + 2 * usU < r.t)
    let s := (((l.filter fun r => far r && !r.late).map (·.member)).eraseDups).foldl (fun s m => s.raiseOnce 0x0E 0x09 m) s
    let l := l.map fun r => { r with late := r.late || far r }
    let s := s.onEnc fun e =>
      { e with reports := e.reports.filter fun q => !(l.any fun r => r.mosaic == q.mosaic && r.row == q.row && r.member == q.member) }
    let s := s.missReports ((l.head?.map (·.mosaic)).getD 0) l (if l.any (·.row == 0xFFFF) then 2 else 8)
    let s := ((l.map (·.member)).eraseDups).foldl (fun s m =>
      let y := (alookup s.enc.workers m).getD {}
      let sc := y.newScale
      let s := if sc < 128 && y.scale = 128 then s.raise 0x06 0x05 (m % 64) else s
      s.onEnc fun e => { e with workers := aset e.workers m { y with scale := sc } }) s
    let row := match l.head? with | some r => r.row | none => 0
    .next ((s.sendBudgets ref row (s.pooled l (s.groupPool row l))).onEnc fun e => { e with sums := addSums e.sums row l })

/-- ARRAY_SHARE: the array manager pools the sums of the cluster managers and returns their group targets (R279). -/
def execArrayShare (s : State) : Host.Outcome State Fault Refusal :=
  if s.strapRole != 3 then .next s
  else match s.poolOf true with
  | none => .next s
  | some (ref, l) =>
    let s := s.toTime (ref - 30 * usU)
    let s := s.onEnc fun e =>
      { e with reports := e.reports.filter fun q => !(l.any fun r => r.row == q.row && r.member == q.member && r.chan == q.chan) }
    .next (s.sendBudgets ref 0xFFFF (s.pooled l none))

/-! ### Starts of phases (R268, R275, R276) -/

/-- The phase by which a row begins: REPORT where it takes part in an exchange, else ISSUE. -/
def State.firstPhase (s : State) (r : RowRec) : Nat := if s.exchanges r.chan r.row then 1 else 0

/-- Rows that are to be issued by a program. -/
def State.programRows (s : State) : List RowRec :=
  s.enc.rows.filter fun r =>
    r.needed && !r.readied && !r.skip && r.capT.isSome && !s.inSafe r.chan && s.issuesRow r.chan r.frame r.row

/-- A budget of a row has arrived. -/
def State.hasBudget (s : State) (r : RowRec) : Bool :=
  (s.ch r.chan).clrc.budgets.any fun b => b.2.1 == r.frame && b.2.2.1 == r.row

/-- Pictures of a channel that are complete and whose PICTURE_END has not started: the records of their last rows. -/
def State.endedPictures (s : State) : List RowRec :=
  if s.standby then []
  else s.enc.rows.filter fun r =>
    !r.phases.contains 3 && s.runs r.chan
      && (match (s.ch r.chan).cfg with | some g => r.row + 1 == g.ctuRows | none => false)
      && (let l := s.frameStreams r.chan r.frame; !l.isEmpty && l.all fun i => s.pictureOver i r.frame)

/-- The starts that are due or will be: row, phase, device time. -/
def State.phaseStarts (s : State) : List (RowRec × Nat × Nat) :=
  (s.programRows.filterMap fun r =>
    let p := s.firstPhase r
    if r.phases.contains p then
      if p = 1 && !r.phases.contains 2 && s.hasBudget r then some (r, 2, s.now) else none
    else some (r, p, if s.sounded r then s.now else s.issueTime r.chan r.start - s.qd (s.ch r.chan).dip))
  ++ s.endedPictures.map fun r => (r, 3, s.now)

/-- A phase of a row starts: its start is queued for the dipper. -/
def State.startPhase (s : State) (r : RowRec) (p : Nat) : State :=
  (s.onRow r.chan r.frame r.row fun x => { x with phases := p :: x.phases }).startDip (s.ch r.chan).dip 5 r.chan p r.frame r.row

/-- RC_FALLBACK, once for each frame in which a row fell back. -/
def State.fallbackEvt (s : State) (c frame : Nat) : State :=
  let k := (s.ch c).clrc
  if k.fallFrame = 0 then s
  else (s.event 0x0502 c (chanVec c) [frame, k.fallFrame, k.scale]).onCh c fun h => { h with clrc := { h.clrc with fallFrame := 0 } }

/-- RC_PHASE_START: the clock runs on to the earliest start that is due; of several on one dipper in that clock R37 picks the
channel (R268). -/
def execRcPhaseStart (s : State) : Host.Outcome State Fault Refusal :=
  match minBy (·.2.2) s.phaseStarts with
  | none => .next s
  | some (r0, _, t0) =>
    let overdue := decide (t0 ≤ s.now)
    let s := s.toTime t0
    let d := (s.ch r0.chan).dip
    let l := s.phaseStarts.filter fun (r, _, t) => t ≤ (if overdue then t0 else s.now) && (s.ch r.chan).dip == d
    match (rotPick (tab s.dip.startPtr d) 16 (l.map (·.1.chan))).bind fun c => minBy (·.2.2) (l.filter (·.1.chan == c)) with
    | none => .next s
    | some (r, p, _) =>
      let s := (s.startPhase r p).onDip fun x => { x with startPtr := upd x.startPtr d fun _ => (r.chan + 1) % 16 }
      .next (if p = 3 then s.fallbackEvt r.chan r.frame else s)

/-- RC_FALLBACK_POINT: the clock runs on to the first I_n - 10 us of a row without its budget, whose BUDGET phase starts with
the worker's own target (R275, R276), or to that of a group target that has not come (R279). -/
def execRcFallbackPoint (s : State) : Host.Outcome State Fault Refusal :=
  let rows := (s.programRows.filter fun r => s.firstPhase r = 1 && !r.phases.contains 2 && !s.hasBudget r).map fun r =>
    (some r, s.issueTime r.chan r.start - 10 * usU)
  let groups := match s.enc.shareDue with | some t => [((none : Option RowRec), t)] | none => []
  match minBy (·.2) (rows ++ groups) with
  | none => .next s
  | some (none, t) => .next (((s.toTime t).raise 0x06 0x08).onEnc fun e => { e with shareDue := none })
  | some (some r, t) =>
    let s := s.toTime t
    let s := (s.rowStreamsOf r).foldl (fun s i => s.raise 0x06 0x03 i r.chan) s
    let s := s.onCh r.chan fun h =>
      { h with clrc := { h.clrc with fallRun := h.clrc.fallRun + 1, fallFrame := h.clrc.fallFrame + 1 } }
    let s := (s.frameStreams r.chan r.frame).foldl (fun s i => s.onStrm i fun x => { x with fallbacks := x.fallbacks + 1 }) s
    let k := (s.ch r.chan).clrc
    let s := if k.fallRun = (if k.level = 1 then 16 else 4) then s.raiseOn 0x06 0x07 (s.myId % 64) r.chan else s
    .next (s.startPhase r 2)

/-! ### What the built-in program does (R257, R258, R281) -/

/-- The target that a row's BUDGET phase uses: the cluster's, or its own (R275). -/
def State.phaseTarget (s : State) (c frame crow stream n : Nat) : Nat :=
  let h := s.ch c
  let idx := stream - (match h.lay with | some l => l.first | none => 0)
  match h.clrc.budgets.find? fun b => b.1 == idx && b.2.1 == frame && b.2.2.1 == crow with
  | some b => if h.clrc.level = 1 then b.2.2.2.1 else s.rowTarget c frame crow stream n
  | none => s.rowTarget c frame crow stream n

/-- The written budgets and QPs of a row, for each stream and column. -/
def State.writeBudgets (s : State) (c frame crow : Nat) : State :=
  let h := s.ch c
  match h.cfg, h.lay, h.rc with
  | some g, some l, some r =>
    (l.rowStreams g frame crow).foldl (fun s (stream, n) =>
      let idx := stream - l.first
      let s := match h.clrc.budgets.find? fun b => h.clrc.level == 2 && b.1 == idx && b.2.1 == frame && b.2.2.1 == 0 && crow == 0 with
        | some b => s.onStrm stream fun t => { t with shared := some b.2.2.2.1 }
        | none => s
      let b := s.rowBudget stream frame n (s.phaseTarget c frame crow stream n)
      let parts := s.splitBudget c frame crow stream n b
      let qp (k : Nat) : Word :=
        w32 (at' (s.taskQp h r frame stream k n (parts.getD k 0) (s.taskX c frame crow stream k)) 16 + at' h.qpMax 8 + r.lowQp)
      s.drawn.onRow c frame crow fun x =>
        { x with
          written := x.written.filter (·.1 != stream) ++ (List.range parts.length).map fun k => (stream, k, parts.getD k 0)
          qps := x.qps.filter (·.1 != stream) ++ (List.range parts.length).map fun k => (stream, k, qp k) }) s
  | _, _, _ => s

/-- A row that got its budget in time ends a run of fallbacks. -/
def State.endFallRun (s : State) (c frame crow : Nat) : State :=
  if (s.ch c).clrc.budgets.any fun b => b.2.1 == frame && b.2.2.1 == crow then
    (s.causeOff 0x06 0x07 (s.myId % 64) c).onCh c fun h => { h with clrc := { h.clrc with fallRun := 0 } }
  else s

/-- The report entries of a row by the built-in program. -/
def State.reportRow (s : State) (c frame crow : Nat) : State :=
  let h := s.ch c
  match h.cfg, h.lay with
  | some g, some l =>
    s.sendReports c frame crow ((l.rowStreams g frame crow).map fun (stream, n) => s.reportEntry c frame crow stream n)
  | _, _ => s

end Sys2Proof.Machine
end

