-- ==== Sys2Proof/Machine/Flags.lean ====
section
/-!
DEFINITION. The event flags of a dipper's host unit, as PENDING and WAIT see them (R326), and the device times at which
the flags of time become set.
-/
namespace Sys2Proof.Machine

/-- I_n of a run of a rate-control program. -/
def State.runIssue (s : State) (r : Run) : Nat :=
  match s.row? r.bind r.frame r.row with
  | some x => s.issueTime r.bind x.start
  | none => s.now

/-- The budget of a run's row has arrived. -/
def State.runBudget (s : State) (r : Run) : Bool :=
  (s.ch r.bind).clrc.budgets.any fun b => b.2.1 == r.frame && b.2.2.1 == r.row

/-- The flags of a run's host unit: rate control, hooks (none), Time base; a point of time has passed from the first
clock at or after it (DEDUCED, log entry 45). -/
def State.pendingFlags (s : State) (d : Nat) (r : Run) : Nat :=
  if d < 4 then
    let t := s.runIssue r
    b01 (!(s.enc.dones.getD d ([], false)).1.isEmpty) + at' (b01 (s.runBudget r)) 1
      + at' (b01 (decide (t ≤ s.now + 10 * usU))) 2 + at' (b01 (decide (t ≤ s.now))) 3
  else if d = 6 then
    b01 ((s.trk s.dip.tlSel).last != s.dip.edgeSeen) + at' (b01 (!s.time.startQ.isEmpty)) 1
  else 0

/-- The device times at which masked flags of time become set. -/
def State.flagTimes (s : State) (d : Nat) (r : Run) (mask : Nat) : List Nat :=
  if d < 4 then
    let t := s.runIssue r
    (if nbit mask 2 then [t - 10 * usU] else []) ++ (if nbit mask 3 then [t] else [])
  else []

/-- Flags that a host unit exposes to WAIT (table "Event flags"), by the kind of program. -/
def flagsOfKind : Nat → Nat
  | 0 => 15
  | 2 => 3
  | _ => 0

end Sys2Proof.Machine
end

