-- ==== Sys2Proof/Machine/Steering.lean ====
section
/-!
DEFINITION. What steers device time (R86 to R90 of chapter 03): steps and the choice of the source; and EVT_ADD, which
needs to know the scripts of DP6.
-/
namespace Sys2Proof.Machine

/-- An interval in whole nanoseconds, as an answer or event shows it. -/
def nsOf (units : Int) : Int := quotI 88 units nsU

/-- A device time that is too low or too high (R88). -/
def badTime (t : Int) : Bool := decide (t < 0) || decide ((timeLimit : Int) ≤ t)

/-- Stamps that an exchange in progress has taken move with a step, so that no offset counts the step twice (DEDUCED, log
entry 40). -/
def Ptp.shift (p : Ptp) (units : Int) : Ptp :=
  { p with
    sync := p.sync.map fun x => (x.1, x.2.1 + units, x.2.2)
    last := p.last.map fun x => (x.1 + units, x.2)
    delayReq := p.delayReq.map fun x => (x.1, x.2 + units) }

/-- Device time steps by a whole number of units in this clock (R88 to R90, R300, R380): TIME:0x0A, TIME_STEPPED, and
what a forward step skips. Gate lists follow device time by themselves (R429). The caller has checked the range. -/
def deviceStep (s : State) (units : Int) : State :=
  let old := s.now
  let new := ((old : Int) + units).toNat
  let ns := low64 (nsOf units)
  let s := { s with now := new }
  let s := s.onNet fun n => { n with ptp := n.ptp.shift units }
  let s := (s.raise 0x01 0x0A).event 0x0105 0xFF timeVector [ns % 4294967296, ns / 4294967296]
  let s := if old < new then skipDelays (skipEvents s old new) old new else s
  stepAudio s old new

/-- A source stops steering or starts: the causes that belong to the old one end. TIME_SOURCE MODE 1 sent in holdover chooses the
source anew and so ends the holdover, without the 10 ms of R87 (DESIGN CHOICE, log entry 72). -/
def leaveSource (s : State) : State :=
  if s.time.mode = 1 && s.time.holdover then (s.causeOff 0x01 0x05).onTime fun t => { t with holdover := false } else s

/-- TIME_SOURCE (0x0101; R86). FREE takes effect at once; the other modes complete at lock or after 100 ms. -/
def hTimeSource (c : Vx) (s : State) : Res :=
  let m := fld (c.w 2) 1 0
  refuseRsv c [(2, msk 1 0)] <|
  refuse (m == 3) .badParam 2 <|
  refuse (m == 2 && !s.net.ptp.cfg.on) .badState noWord <|
  refuse s.time.pending.isSome .busy noWord <|
  let s := (leaveSource s).start 0x0101 c.tag 0
  if m = 0 then
    .acc ((s.onTime fun t => { t with mode := 0, addend := trimAddend t.trim }).complete 0x0101 0 .ok)
  else .acc (s.onTime fun t => { t with mode := m, pending := some (m, s.clk + 100 * msC) })

/-- The source that TIME_SOURCE named is locked (R86, R438). -/
def State.sourceLocked (s : State) (m : Nat) : Bool :=
  if m = 2 then s.net.ptp.st == 3 || s.net.ptp.st == 6 else s.time.refPresent && !s.time.holdover

/-- TIME_SOURCE_DONE: the loop reports lock after some clocks, or the clock runs on to the 100 ms limit (R86). -/
def execTimeSourceDone (wait : Nat) (lock : Bool) (s : State) : Host.Outcome State Fault Refusal :=
  match s.time.pending with
  | none => .next s
  | some (m, due) =>
    let t := if lock then s.pass (min wait (due - s.clk)) else s.toClk due
    let ok := lock && t.sourceLocked m
    let t := if ok then t else t.toClk due
    .next ((t.onTime fun x => { x with pending := none }).complete 0x0101 0 (if ok then .ok else .timeout))

/-- TIME_STEP (0x0102; R88). -/
def hTimeStep (c : Vx) (s : State) : Res :=
  let ns := sgn64 ((c.w 2).toNat + (c.w 3).toNat * 4294967296)
  refuse (s.time.mode == 2) .denied noWord <|
  refuse (badTime ((s.now : Int) + ns * nsU)) .badParam noWord <|
  .ok [] (deviceStep s (ns * nsU))

/-- A program of DP6 that an event may name: loaded and not disabled. -/
def State.scriptUsable (s : State) (num : Nat) : Bool :=
  (tab s.dip.dips 6).progs.any fun p => p.num == num && !p.disabled

/-- EVT_ADD (0x0120; R107, R120). -/
def hEvtAdd (c : Vx) (s : State) : Res :=
  match addEvt s c.w (s.scriptUsable (fld (c.w 8) 5 0)) false with
  | .error (st, w) => .err st w
  | .ok (slot, s) => .ok [slot] s

end Sys2Proof.Machine
end

