-- ==== Sys2Proof/Machine/Ports.lean ====
section
/-!
DEFINITION. The ports of the dippers: which are exposed, what a read gives, what a write does (R270, R271, R325, R327,
R328, R329). A port that is not exposed reads zero and ignores writes (R41).
-/
namespace Sys2Proof.Machine

/-! ### Exposure, for the loader (R317, R324) -/

/-- Whether a port may be read by a program of a kind. -/
def portReadable (kind p : Nat) : Bool :=
  (0x30 ≤ p && p ≤ 0x35) || p == 0x38 ||
  match kind with
  | 0 => [0x00, 0x01, 0x02, 0x03, 0x04, 0x05, 0x06, 0x07, 0x08, 0x09, 0x0A, 0x0B, 0x10, 0x11, 0x19, 0x1A, 0x1C].contains p
  | 1 => p ≤ 0x07
  | 2 => [0x00, 0x01, 0x02, 0x03, 0x04, 0x11, 0x13, 0x14].contains p
  | _ => false

/-- Whether a port may be written by a program of a kind. -/
def portWritable (kind p : Nat) : Bool :=
  p == 0x36 || p == 0x37 ||
  match kind with
  | 0 => [0x04, 0x0A, 0x0C, 0x0D, 0x0E, 0x12, 0x18].contains p
  | 1 => 0x08 ≤ p && p ≤ 0x0C
  | 2 => p == 0x00 || (0x08 ≤ p && p ≤ 0x10) || p == 0x12
  | _ => false

/-- Ports that have rows of their own in the command table: ISSUE, EVT_ADD, EVT_CANCEL, USER_EVT, USER_FAULT. -/
def ownRow (d p : Nat) : Bool :=
  p == 0x36 || p == 0x37 || (d < 4 && p == 0x0E) || (d == 6 && (p == 0x10 || p == 0x12))

/-! ### Records in Dispatch SRAM (R208, R216, R270) -/

/-- The summary of a band: sums over its blocks (table "Sounder record"). -/
def bandSummary (bs : List (Nat × Word × Word)) (st : Nat) : List Word :=
  let scene := (bs.filter fun b => nbit (fld b.2.1 31 24) 0).length
  [w32 (st % 4), w32 (at' bs.length 16 + scene), w32 (sumNat (bs.map fun b => entryInter b.2.2)),
   w32 (sumNat (bs.map fun b => entryIntra b.2.1))]

/-- The words of a row's sounder record: block entries, low word first, then one summary of each band. -/
def State.sounderWords (s : State) (r : RowRec) : List Word :=
  match (s.ch r.chan).cfg with
  | none => []
  | some g =>
    let n := (s.bandsOf r.chan).length
    let bl := sortBy (·.1) r.blocks
    let entries := (List.range (ceilDiv g.width 64)).flatMap fun b =>
      match alookup r.blocks b with
      | some (hi, lo) => [lo, hi]
      | none => [if (s.ch r.chan).firstPic r.frame then w32 0xFFFF0000 else 0, 0]
    entries ++ (List.range n).flatMap fun k =>
      let x := (part g.ctuCols n k).1 * g.ctu
      let w := g.bandWidth n k
      bandSummary (bl.filter fun b => x ≤ 64 * b.1 && decide (64 * b.1 < x + w)) (r.bandStatus k)

/-- SRAM as port 0x11 reads it: only sounder records and task records of the channel; elsewhere 0. -/
def State.sramRead (s : State) (c a : Nat) : Word :=
  let recs := (s.enc.rows.filter (·.chan == c)).map (fun r => (Config.sramBase 0 (sounderIdx c r.frame r.row), s.sounderWords r))
    ++ (s.enc.tasks.filter (·.chan == c)).map fun t => (Config.sramBase 1 t.id, State.taskWords t)
  match recs.find? fun r => r.1 ≤ a && decide (a < r.1 + 4 * r.2.length) with
  | some r => r.2.getD ((a - r.1) / 4) 0
  | none => 0

/-! ### Rate-control ports (R270, R271) -/

/-- The stream that STREAM selects: its number, and the run's row within it where the stream has a part of the row. -/
def State.selStream (s : State) (d : Nat) (r : Run) : Option (Nat × Option Nat) :=
  match (s.ch r.bind).cfg, (s.ch r.bind).lay with
  | some g, some l =>
    let i := (s.dp d).stream
    if i < l.count then some (l.first + i, (l.rowStreams g r.frame r.row).lookup (l.first + i)) else none
  | _, _ => none

/-- CL_BUDGET: the target t' of the selected stream, 0 when none has arrived. -/
def State.clBudget (s : State) (d : Nat) (r : Run) : Nat :=
  match (s.ch r.bind).clrc.budgets.find? fun b => b.1 == (s.dp d).stream && b.2.1 == r.frame && b.2.2.1 == r.row with
  | some b => b.2.2.2.1
  | none => 0

/-- The next word of the DONE FIFO; bit 31 of the next entry's first word tells that completions were kept out of it
(R271). -/
def State.readDone (s : State) (d : Nat) : Word × State :=
  let (l, spill) := s.enc.dones.getD d ([], false)
  match l with
  | [] => (0, s)
  | e :: rest =>
    let first := e.words.length == 5
    let w := e.words.headD 0
    let w := if first && spill then w ||| 0x80000000 else w
    let l := if e.words.length ≤ 1 then rest else ⟨e.words.drop 1⟩ :: rest
    (w, s.onEnc fun x => { x with dones := upd x.dones d fun _ => (l, spill && !first) })

/-- A read of a rate-control port. A figure of a stream that the channel does not have, or that has no part of the row, is
not stated and free (log entry 46). -/
def State.readRc (s : State) (d : Nat) (r : Run) (p : Nat) : Word × State :=
  let h := s.ch r.bind
  let free : Word × State := (w32 (s.freeVal 270 p), s.drawn)
  let strm (f : ChCfg → RcCfg → Strm → Nat → Nat → Nat) (needRow : Bool) : Word × State :=
    match h.cfg, h.rc, s.selStream d r with
    | some g, some rc, some (i, n) =>
      if needRow && n.isNone then free else (w32 (f g rc (s.strm i) i (n.getD 0)), s)
    | _, _, _ => free
  match p with
  | 0x00 => (w32 (r.bind + match h.lay with | some l => at' l.first 8 + at' l.count 16 | none => 0), s)
  | 0x01 => (w32 r.row, s)
  | 0x02 => (w32 r.frame, s)
  | 0x03 => (w32 r.phase, s)
  | 0x04 => (w32 (s.dp d).stream, s)
  | 0x05 => strm (fun _ _ _ i _ => s.charge i r.frame) false
  | 0x06 => strm (fun g rc t _ n => budgetLine (h.maxSize g rc) (t.rows g.ctu) n) true
  | 0x07 => strm (fun g rc t _ _ => h.target g rc t) false
  | 0x08 => strm (fun g _ t _ n => h.floorRest g t r.frame n) true
  | 0x09 => (w32 (Config.sramBase 0 (sounderIdx r.bind r.frame r.row)), s)
  | 0x0A => (w32 (s.dp d).task, s)
  | 0x0B => if (s.dp d).task < h.tileCols then strm (fun g _ t _ n => h.taskFloor g t r.frame n (s.dp d).task) true else free
  | 0x10 => s.readDone d
  | 0x11 => (s.sramRead r.bind (s.dp d).sramAddr, s.onDp d fun x => { x with sramAddr := (x.sramAddr + 4) % 4294967296 })
  | 0x19 => (w32 (s.clBudget d r), s)
  | 0x1A => (w32 (b01 (s.runBudget r) + at' (b01 (decide (s.runIssue r ≤ s.now + 10 * usU))) 1 + at' h.clrc.scale 8), s)
  | 0x1C => (w32 (min 0xFFFFFFFF (quot 270 (s.runIssue r - s.now) (10 * nsU))), s)
  | _ => (0, s)

/-- A write of a rate-control port but ISSUE. Budgets and QPs of tasks that do not exist are ignored. -/
def State.writeRc (s : State) (d : Nat) (r : Run) (p : Nat) (v : Word) : State :=
  let x := s.dp d
  let put (f : Nat → RowRec → RowRec) : State :=
    match s.selStream d r with
    | some (i, some _) => if x.task < (s.ch r.bind).tileCols then s.onRow r.bind r.frame r.row (f i) else s
    | _ => s
  match p with
  | 0x04 => s.onDp d fun x => { x with stream := v.toNat }
  | 0x0A => s.onDp d fun x => { x with task := v.toNat }
  | 0x0C => put fun i row =>
      { row with written := (i, x.task, v.toNat) :: row.written.filter fun (a, b, _) => !(a == i && b == x.task) }
  | 0x0D => put fun i row =>
      { row with qps := (i, x.task, v) :: row.qps.filter fun (a, b, _) => !(a == i && b == x.task) }
  | 0x12 => s.onDp d fun x => { x with sramAddr := v.toNat }
  | 0x18 => s.onDp d fun x => { x with report := aset x.report x.stream (((alookup x.report x.stream).getD []) ++ [v]) }
  | _ => s

/-! ### Hook ports (R329) -/

/-- A read of a hook port: the run is of stream `bind`, its row within the stream. -/
def State.readHook (s : State) (r : Run) (p : Nat) : Word :=
  let i := r.bind
  let t := s.strm i
  let g := (s.ch t.chan).cfg
  let crow := (match g with | some g => t.rect.y / g.ctu | none => 0) + r.row
  let row := s.row? t.chan r.frame crow
  let cap := (row.bind (·.capT)).getD 0
  let cap0 := ((s.row? t.chan r.frame 0).bind (·.capT)).getD 0
  let tasks := s.enc.tasks.filter fun x => x.stream == i && x.frame == r.frame && x.row == r.row
  match p with
  | 0x00 => w32 (i + at' t.chan 8)
  | 0x01 => w32 r.row
  | 0x02 => w32 r.frame
  | 0x03 => w32 (tNs cap)
  | 0x04 => w32 (tSec cap)
  | 0x05 => w32 (if (s.pv i).format = 2 then ticksOf (cap + (s.ch t.chan).d) 90000 else ticksOf cap0 90000)
  | 0x06 => w32 (s.pv i).seq
  | 0x07 => w32 (b01 (row.any (·.skip)) + at' (b01 (tasks.any (·.guarded))) 1 + at' (b01 (tasks.any (·.st == 4))) 2)
  | _ => 0

/-- A write of a hook port; a length above 4 is taken as 4. -/
def State.writeHook (s : State) (d p : Nat) (v : Word) : State :=
  match p with
  | 0x08 => s.onDp d fun x => { x with ext := x.ext.set 0 v }
  | 0x09 => s.onDp d fun x => { x with ext := x.ext.set 1 v }
  | 0x0A => s.onDp d fun x => { x with ext := x.ext.set 2 v }
  | 0x0B => s.onDp d fun x => { x with ext := x.ext.set 3 v }
  | 0x0C => s.onDp d fun x => { x with extLen := min 4 v.toNat }
  | _ => s

/-! ### Time-base ports (R327) -/

/-- The live status of a timeline, as TB_TL_STATUS. -/
def State.tlStatus (s : State) (tl : Nat) : Nat :=
  if tl = 0 then 2 else let k := s.trk tl; at' k.mode 4 + at' (b01 k.reverse) 3 + k.st

/-- A read of a Time-base port. TL_SEL 13 to 15 names no timeline, and a timeline without a period has no T_pred: those
values are not stated and free (log entry 46). -/
def State.readTb (s : State) (r : Run) (p : Nat) : Word × State :=
  let tl := s.dip.tlSel
  let free : Word × State := (w32 (s.freeVal 327 p), s.drawn)
  match p with
  | 0x00 => (w32 tl, s)
  | 0x01 => if 12 < tl then free else (w32 (s.position tl).1, s)
  | 0x02 => if 12 < tl then free else (w32 (s.position tl).2, s)
  | 0x03 => if 12 < tl then free else (w32 (s.tlStatus tl), s)
  | 0x04 => if tl = 0 then (1000000000, s) else if 12 < tl || (s.trk tl).tpred = 0 then free else (w32 ((s.trk tl).tpred / nsU), s)
  | 0x11 => (s.dip.result, s)
  | 0x13 => (w32 s.time.startQ.length, s)
  | 0x14 => (w32 (tSec r.fire / 4294967296), s)
  | _ => (0, s)

/-- A write of a Time-base port but EVT_ADD and EVT_CANCEL. A new selection starts afresh with its edge flag. -/
def State.writeTb (s : State) (p : Nat) (v : Word) : State :=
  if p = 0 then s.onDip fun x => { x with tlSel := fld v 3 0, edgeSeen := (s.trk (fld v 3 0)).last }
  else if 0x08 ≤ p && p ≤ 0x0F then s.onDip fun x => { x with args := x.args.set (p - 8) v }
  else s

/-- EVT_ADD from a script: the checks of the command, at this clock (R328). -/
def State.portAdd (s : State) : State :=
  let ws (k : Nat) : Word := s.dip.args.getD (k - 2) 0
  match addEvt s ws (s.scriptUsable (fld (ws 8) 5 0)) true with
  | .ok (slot, s) => s.onDip fun x => { x with result := w32 (0x80000000 + slot) }
  | .error (st, _) => s.onDip fun x => { x with result := w32 (at' (if st == .refusedFull then 2 else 1) 28) }

/-- EVT_CANCEL from a script: only slots that scripts added (R328). -/
def State.portCancel (s : State) (slot : Nat) : State :=
  match alookup s.time.evts slot with
  | some e =>
    if e.byScript then s.onTime fun t => { t with evts := adel t.evts slot }
    else s.onDip fun x => { x with result := 0x10000000 }
  | none => s.onDip fun x => { x with result := 0x10000000 }

/-! ### Common ports (R325) -/

/-- SELF of a run. -/
def Run.self (r : Run) (d : Nat) : Nat := d + at' (r.num % 64) 8 + at' (r.bind % 1024) 16

/-- IN: a port is read in the first clock of the instruction (R324). -/
def State.readPort (s : State) (d : Nat) (r : Run) (p : Nat) : Word × State :=
  match p with
  | 0x30 => (w32 (tNs s.now), s.onDp d fun x => { x with latch := s.now })
  | 0x31 => (w32 (tSec (s.dp d).latch), s)
  | 0x32 => (w32 (tSec (s.dp d).latch / 4294967296), s)
  | 0x33 => (w32 (r.self d), s)
  | 0x34 => (w32 r.cycles, s)
  | 0x35 => (w32 r.budget, s)
  | 0x38 => (w32 (s.pendingFlags d r), s)
  | _ =>
    if d < 4 then s.readRc d r p
    else if d < 6 then (s.readHook r p, s)
    else if d = 6 then s.readTb r p
    else (0, s)

/-- OUT of a port that has no row of its own (R324). -/
def State.writePort (s : State) (d : Nat) (r : Run) (p : Nat) (v : Word) : State :=
  if ownRow d p then s
  else if d < 4 then s.writeRc d r p v
  else if d < 6 then s.writeHook d p v
  else if d = 6 then s.writeTb p v
  else s

/-- USER_EVT: DIP_USER once in a run; a second write is ignored with DIPPER:0x05 (R325). -/
def State.userEvt (s : State) (d : Nat) (r : Run) (v : Word) : State × Run :=
  if r.evtSent then (s.raise 0x10 0x05 d, r)
  else (s.event 0x0701 0xFF 1 [r.self d, v.toNat], { r with evtSent := true })

/-- USER_FAULT: DIPPER:0x06 with the bits written, once in a run (R325). -/
def State.userFault (s : State) (r : Run) (v : Word) : State × Run :=
  if r.faultSent then (s, r) else (s.raise 0x10 0x06 (fld v 7 0), { r with faultSent := true })

end Sys2Proof.Machine
end

