-- ==== Sys2Proof/Machine/Dipper.lean ====
section
/-!
DEFINITION. Runs of the dippers (R310 to R328 of chapter 10): starts, the instructions one by one, waits, ends, the
watchdog and memory errors. An instruction row names its dipper; the instruction is the one that the dipper's program
memory holds at the run's pc, and the row acts where that word has its opcode.
-/
namespace Sys2Proof.Machine

/-! ### Ends of runs (R319, R321, R322) -/

/-- The run of a dipper is over at the present clock: counted, with its busy interval of the last second. -/
def State.closeRun (s : State) (d : Nat) (r : Run) : State :=
  s.onDp d fun x =>
    { x with
      run := none, ended := s.clk, runs := x.runs + 1
      busy := (r.began, s.clk) :: x.busy.filter fun b => decide (s.clk < b.2 + secC) }

/-- The start of a run is finished. -/
def State.closeStart (s : State) (r : Run) : State := match r.start with | some id => s.endStart id | none => s

/-- YIELD completes a run: a hook hands its words to the builder, a REPORT phase sends its entries (R274, R319, R329). -/
def State.yieldRun (s : State) (d : Nat) (r : Run) : State :=
  let s := s.closeRun d r
  if d = 4 || d = 5 then
    match r.start with
    | some id => s.beginPacking d id ((s.dp d).ext.take (s.dp d).extLen)
    | none => s
  else
    let s := if d < 4 && r.phase = 1 && !r.builtin then
        (s.sendReports r.bind r.frame r.row ((s.dp d).report.map (·.2))).onDp d fun x => { x with report := [] }
      else s
    s.closeStart r

/-- The number of the built-in program that a dipper runs for a mode. -/
def builtinProg (d mode : Nat) : Nat := Config.builtinNum d mode % 16

/-- A change of a loaded program. -/
def State.onProg (s : State) (d num : Nat) (f : Prog → Prog) : State :=
  s.onDp d fun x => { x with progs := x.progs.map fun p => if p.num = num then f p else p }

/-- A program must be rewritten between runs within 1 ms (R323). -/
def State.mustReload (s : State) (d num : Nat) (builtin : Bool) : State :=
  let s := if builtin then s.onDip fun x => { x with builtinBroken := x.builtinBroken ++ [(d, num)] }
    else s.onProg d num fun p => { p with broken := true }
  s.onDip fun x => { x with reloads := x.reloads ++ [(d, num, s.clk + msC)] }

/-- A run ends before its YIELD: what it wrote stands, and its unit goes on as R321 says. A hook's row carries no hook
data; a rate-control row is issued at I_n; a built-in packaging or cluster program is rewritten. -/
def State.breakRun (s : State) (d : Nat) (r : Run) : State :=
  let s := (s.closeRun d r).onDp d fun x => { x with report := [] }
  if (d = 4 || d = 5) && !r.builtin then
    match r.start with
    | some id => s.beginPacking d id []
    | none => s
  else s.closeStart r

/-- The built-in packaging program ends before it is done, and must be rewritten: of its row nothing goes out, and the row
counts as packaged (log entry 44; R321, R323). -/
def State.breakPacking (s : State) (d id : Nat) : State :=
  let s := match s.start? id with
    | none => s
    | some st =>
      let c := (s.strm st.bind).chan
      let y := match (s.ch c).cfg with | some g => (s.strm st.bind).rect.y / g.ctu | none => 0
      s.onRow c st.frame (y + st.row) fun r => { r with packaged := r.packaged ++ [st.bind] }
  (s.endPacking d id).mustReload d (builtinProg d 0) true

/-- The channels bound to a program, with the frame in progress of each: from the next one they run the built-in program
(R322). -/
def State.boundFrames (s : State) (d : Nat) (r : Run) : List (Nat × Nat) :=
  ((List.range 16).filter fun c => match (s.ch c).bind with | some b => b.user && b.dipper == d && b.program == r.num | none => false).map
    fun c => (c, if c = r.bind then r.frame else (s.ch c).frame.getD 0)

/-- DIPPER_WATCHDOG: the run of a dipper exceeds its budget: it ends in the cycle after the last of the budget, with
DIPPER:0x01; the third such end of a user program within 1 s disables it. The built-in packaging program, whose budget is
not stated, ends at the present clock and is rewritten; one of rate control is not (R320 to R322). -/
def watchdogEnd (s : State) (d : Nat) : State :=
  match (s.dp d).run with
  | none =>
    match (s.dp d).packing with
    | none => s
    | some (id, _) =>
      ((s.breakPacking d id).raise 0x10 0x01 d).onDp d fun x => { x with watchdogs := x.watchdogs + 1 }
  | some r =>
    let s := s.toClk (r.began + 2 * (r.budget + 1))
    let s := (s.breakRun d r).raise 0x10 0x01 d
    let s := s.onDp d fun x => { x with watchdogs := x.watchdogs + 1 }
    if r.builtin then s
    else
      let times := match (s.dp d).progs.find? (·.num == r.num) with | some p => (s.clk :: p.ends).take 3 | none => []
      let s := s.onProg d r.num fun p => { p with ends := times }
      if times.length = 3 && s.clk < times.getD 2 0 + secC then
        let off := s.boundFrames d r
        let s := s.onProg d r.num fun p => { p with disabled := true, offAt := off }
        (s.raiseOn 0x10 0x02 d).event 0x0702 0xFF 1 [d + at' r.num 8, 2]
      else s

/-! ### Starts (R117, R268, R311, R319, R329) -/

/-- A run of a loaded program at an entry. -/
def State.beginRun (s : State) (d : Nat) (p : Prog) (entry bind phase frame row fire : Nat) (regs : List Word)
    (start : Option Nat) : State :=
  s.onDp d fun x =>
    { x with
      ext := [0, 0, 0, 0], extLen := 0, report := []
      run := some
        { num := p.num, builtin := false, bind := bind, phase := phase, frame := frame, row := row, start := start, fire := fire
          budget := p.budgets.getD entry 0, pc := p.base + p.offsets.getD entry 0, regs := regs, calls := [], loops := []
          began := s.clk, next := s.clk, cycles := 0, wait := none, evtSent := false, faultSent := false } }

/-- What the built-in rate-control program does in a phase (R257, R258, R275). -/
def State.builtinPhase (s : State) (st : Start) : State :=
  match st.phase with
  | 0 | 2 =>
    let s := ((s.endFallRun st.bind st.frame st.row).writeBudgets st.bind st.frame st.row)
    match s.row? st.bind st.frame st.row with
    | some r => if r.issued || r.readied || r.skip then s else s.issueRow st.bind st.frame st.row false true
    | none => s
  | 1 => s.reportRow st.bind st.frame st.row
  | _ => s

/-- Whether a built-in program waits to be rewritten. -/
def State.broken (s : State) (d num : Nat) : Bool := s.dip.builtinBroken.contains (d, num)

/-- A run of the built-in rate-control program: its effects stand at its start, and YIELD ends it within its declared
time (log entry 44). While it waits to be rewritten, its starts are discarded (R323). -/
def State.beginBuiltin (s : State) (d : Nat) (st : Start) : State :=
  let mode := match (s.ch st.bind).rc with | some r => r.mode | none => 0
  if s.broken d (builtinProg d mode) then s.endStart st.id
  else (s.builtinPhase st).onDp d fun x =>
    { x with
      run := some
        { num := builtinProg d mode, builtin := true, bind := st.bind, phase := st.phase, frame := st.frame, row := st.row, start := some st.id
          fire := 0, budget := Config.builtinCycles mode st.phase, pc := 0, regs := List.replicate 16 0, calls := [], loops := []
          began := s.clk, next := s.clk, cycles := 0, wait := none, evtSent := false, faultSent := false } }

/-- The start of a rate-control phase: the user program of the channel where it is bound and usable; a phase without an
entry does nothing; a disabled program gives way to the built-in one from the channel's next picture; starts of a program
that waits to be rewritten are discarded (R281, R322, R323, R330). -/
def State.beginPhase (s : State) (d : Nat) (st : Start) : State :=
  let regs : List Word := List.replicate 16 0
  match s.boundProg st.bind with
  | some p =>
    if p.disabled then
      if st.frame ≤ (alookup p.offAt st.bind).getD 0 then s.endStart st.id else s.beginBuiltin d st
    else if p.broken || p.budgets.getD st.phase 0 = 0 then s.endStart st.id
    else s.beginRun d p st.phase st.bind st.phase st.frame st.row 0 regs (some st.id)
  | none => s.beginBuiltin d st

/-- The hook of a stream's picture. -/
def State.hookOf (s : State) (stream frame : Nat) : Option Nat :=
  match s.dip.hooks.find? fun h => h.1 == stream && h.2.1 ≤ frame with
  | some h => h.2.2
  | none => none

/-- The start of a row's packaging: the stream's hook first where one is enabled and usable (R329). -/
def State.beginPackage (s : State) (d : Nat) (st : Start) : State :=
  if s.broken d (builtinProg d 0) then s.endStart st.id
  else
    let prog := (s.hookOf st.bind st.frame).bind fun n => (s.dp d).progs.find? (·.num == n)
    match prog with
    | some p =>
      if p.disabled || p.broken || p.budgets.getD 0 0 = 0 then s.beginPacking d st.id []
      else s.beginRun d p 0 st.bind 0 st.frame st.row 0 (List.replicate 16 0) (some st.id)
    | none => s.beginPacking d st.id []

/-- The next start record of DP6: its script runs; a start of a disabled script, of one that waits to be rewritten, or of one
that is gone, is discarded (R117, R322, R323). -/
def State.beginScript (s : State) : State :=
  match s.time.startQ with
  | [] => s
  | q :: rest =>
    let s := s.onTime fun t => { t with startQ := rest }
    match (s.dp 6).progs.find? (·.num == q.script) with
    | some p =>
      if p.disabled || p.broken || p.budgets.getD 0 0 = 0 then s
      else
        let regs : List Word := [0, w32 (q.slot + at' q.flags 12), w32 (tNs q.t), w32 (tSec q.t), w32 q.cycle, w32 q.phase]
          ++ List.replicate 10 0
        (s.onDip fun x => { x with edgeSeen := (s.trk x.tlSel).last }).beginRun 6 p 0 q.slot 0 0 0 q.t regs none
    | none => s

/-- DIPPER_RUN_START: an idle dipper begins the run of the start that its unit holds, or of DP6's queue (R319). -/
def startRun (s : State) (d : Nat) : State :=
  let x := s.dp d
  if x.run.isSome || x.packing.isSome then s
  else if d = 6 then s.beginScript
  else
    let held := (tab s.ds.units (22 + d)).holds.bind s.ent
    match held.bind fun e => s.start? e.desc.payload with
    | none => s
    | some st => if d < 4 then s.beginPhase d st else if d < 6 then s.beginPackage d st else s.endStart st.id

/-! ### Instructions (R313 to R316, R324) -/

/-- An instruction of `cyc` cycles runs on a dipper: the clock runs to its end, and the run goes on as `f` says. -/
def State.instr (s : State) (d op cyc : Nat) (f : Run → Word → Run) : State :=
  match s.fetch d with
  | none => s
  | some (r, w) =>
    if opOf w = op then
      let t := max r.next s.clk + 2 * cyc
      let r' := f r w
      (s.toClk t).setRun d { r' with next := t, cycles := r.cycles + cyc }
    else s

/-- A result goes to a register, and the run goes on at the next address. -/
def Run.put (r : Run) (i : Nat) (v : Word) : Run := (r.setReg i v).goto (r.pc + 1)

/-- An instruction of format R. -/
def State.instrR (s : State) (d op cyc : Nat) (f : Word → Word → Word) : State :=
  s.instr d op cyc fun r w => r.put (rdOf w) (f (r.reg (raOf w)) (r.reg (rbOf w)))

/-- An instruction of format I, with its immediate read by `imm`. -/
def State.instrI (s : State) (d op : Nat) (imm : Word → Word) (f : Word → Word → Word) : State :=
  s.instr d op 1 fun r w => r.put (rdOf w) (f (r.reg (raOf w)) (imm w))

/-- A 64-bit product into rd and rd + 1. -/
def Run.putPair (r : Run) (i : Nat) (v : Nat) : Run :=
  ((r.setReg i (w32 v)).setReg (i + 1) (w32 (v / 4294967296))).goto (r.pc + 1)

/-- A write of a port with a row of its own: it takes effect in the last clock of the second cycle (R324). -/
def State.outPort (s : State) (d : Nat) (sel : Nat → Bool) (f : State → Run → Word → State × Run) : State :=
  match s.fetch d with
  | none => s
  | some (r, w) =>
    if opOf w = 0x2B && sel (portOf w) then
      let t := max r.next s.clk
      let (s, r) := f (s.toClk (t + 3)) r (r.reg (rdOf w))
      (s.toClk (t + 4)).setRun d { r.goto (r.pc + 1) with next := t + 4, cycles := r.cycles + 2 }
    else s

/-- DIP_NOP (0x00). -/
def execDipNop (d : Nat) (s : State) : Host.Outcome State Fault Refusal := .next (s.instr d 0x00 1 fun r _ => r.goto (r.pc + 1))

/-- ADD (0x01): rd = ra + rb, modulo 2^32 (R311). -/
def execDipAdd (d : Nat) (s : State) : Host.Outcome State Fault Refusal := .next (s.instrR d 0x01 1 (· + ·))

/-- SUB (0x02): rd = ra - rb. -/
def execDipSub (d : Nat) (s : State) : Host.Outcome State Fault Refusal := .next (s.instrR d 0x02 1 (· - ·))

/-- AND (0x03): bitwise. -/
def execDipAnd (d : Nat) (s : State) : Host.Outcome State Fault Refusal := .next (s.instrR d 0x03 1 (· &&& ·))

/-- OR (0x04): bitwise. -/
def execDipOr (d : Nat) (s : State) : Host.Outcome State Fault Refusal := .next (s.instrR d 0x04 1 (· ||| ·))

/-- XOR (0x05): bitwise. -/
def execDipXor (d : Nat) (s : State) : Host.Outcome State Fault Refusal := .next (s.instrR d 0x05 1 (· ^^^ ·))

/-- SHL (0x06): ra shifted left by rb[4:0]. -/
def execDipShl (d : Nat) (s : State) : Host.Outcome State Fault Refusal := .next (s.instrR d 0x06 1 shl)

/-- SHR (0x07): logical right shift by rb[4:0]. -/
def execDipShr (d : Nat) (s : State) : Host.Outcome State Fault Refusal := .next (s.instrR d 0x07 1 shr)

/-- SRA (0x08): arithmetic right shift by rb[4:0]. -/
def execDipSra (d : Nat) (s : State) : Host.Outcome State Fault Refusal := .next (s.instrR d 0x08 1 sra)

/-- MIN (0x09): signed minimum. -/
def execDipMin (d : Nat) (s : State) : Host.Outcome State Fault Refusal := .next (s.instrR d 0x09 1 minS)

/-- MAX (0x0A): signed maximum. -/
def execDipMax (d : Nat) (s : State) : Host.Outcome State Fault Refusal := .next (s.instrR d 0x0A 1 maxS)

/-- MINU (0x0B): unsigned minimum. -/
def execDipMinu (d : Nat) (s : State) : Host.Outcome State Fault Refusal := .next (s.instrR d 0x0B 1 minU)

/-- MAXU (0x0C): unsigned maximum. -/
def execDipMaxu (d : Nat) (s : State) : Host.Outcome State Fault Refusal := .next (s.instrR d 0x0C 1 maxU)

/-- SLT (0x0D): 1 where ra < rb, signed, else 0. -/
def execDipSlt (d : Nat) (s : State) : Host.Outcome State Fault Refusal := .next (s.instrR d 0x0D 1 slt)

/-- SLTU (0x0E): the same, unsigned. -/
def execDipSltu (d : Nat) (s : State) : Host.Outcome State Fault Refusal := .next (s.instrR d 0x0E 1 sltu)

/-- MUL (0x0F): the low 32 bits of the product. -/
def execDipMul (d : Nat) (s : State) : Host.Outcome State Fault Refusal := .next (s.instrR d 0x0F 1 (· * ·))

/-- DIVU (0x13): unsigned quotient; by zero 0xFFFF_FFFF (R316). -/
def execDipDivu (d : Nat) (s : State) : Host.Outcome State Fault Refusal := .next (s.instrR d 0x13 18 divU)

/-- QMUL (0x14): Q16.16 product, rounded half up, saturated. -/
def execDipQmul (d : Nat) (s : State) : Host.Outcome State Fault Refusal := .next (s.instrR d 0x14 2 qMul)

/-- QDIV (0x15): Q16.16 quotient, rounded towards zero, saturated (R316). -/
def execDipQdiv (d : Nat) (s : State) : Host.Outcome State Fault Refusal := .next (s.instrR d 0x15 18 qDiv)

/-- MUL64 (0x10): the signed 64-bit product into rd and rd + 1. -/
def execDipMul64 (d : Nat) (s : State) : Host.Outcome State Fault Refusal :=
  .next (s.instr d 0x10 2 fun r w => r.putPair (rdOf w) (low64 ((r.reg (raOf w)).toInt * (r.reg (rbOf w)).toInt)))

/-- MUL64U (0x11): the unsigned 64-bit product. -/
def execDipMul64u (d : Nat) (s : State) : Host.Outcome State Fault Refusal :=
  .next (s.instr d 0x11 2 fun r w => r.putPair (rdOf w) ((r.reg (raOf w)).toNat * (r.reg (rbOf w)).toNat))

/-- DIVW (0x12): (ra + 1 : ra) by rb, saturated; by zero 0xFFFF_FFFF (R316). -/
def execDipDivw (d : Nat) (s : State) : Host.Outcome State Fault Refusal :=
  .next (s.instr d 0x12 34 fun r w => r.put (rdOf w) (divW (r.reg (raOf w + 1)) (r.reg (raOf w)) (r.reg (rbOf w))))

/-- QLOG2 (0x16; R316). -/
def execDipQlog2 (d : Nat) (s : State) : Host.Outcome State Fault Refusal :=
  .next (s.instr d 0x16 6 fun r w => r.put (rdOf w) (qLog2 (r.reg (raOf w))))

/-- QSQRT (0x17; R316). -/
def execDipQsqrt (d : Nat) (s : State) : Host.Outcome State Fault Refusal :=
  .next (s.instr d 0x17 18 fun r w => r.put (rdOf w) (qSqrt (r.reg (raOf w))))

/-- ADDI (0x20): IMM sign-extended. -/
def execDipAddi (d : Nat) (s : State) : Host.Outcome State Fault Refusal := .next (s.instrI d 0x20 immS (· + ·))

/-- ANDI (0x21): IMM zero-extended. -/
def execDipAndi (d : Nat) (s : State) : Host.Outcome State Fault Refusal := .next (s.instrI d 0x21 immU (· &&& ·))

/-- ORI (0x22): IMM zero-extended. -/
def execDipOri (d : Nat) (s : State) : Host.Outcome State Fault Refusal := .next (s.instrI d 0x22 immU (· ||| ·))

/-- XORI (0x23): IMM zero-extended. -/
def execDipXori (d : Nat) (s : State) : Host.Outcome State Fault Refusal := .next (s.instrI d 0x23 immU (· ^^^ ·))

/-- SHLI (0x24): by IMM[4:0]. -/
def execDipShli (d : Nat) (s : State) : Host.Outcome State Fault Refusal := .next (s.instrI d 0x24 immU shl)

/-- SHRI (0x25): logical, by IMM[4:0]. -/
def execDipShri (d : Nat) (s : State) : Host.Outcome State Fault Refusal := .next (s.instrI d 0x25 immU shr)

/-- SRAI (0x26): arithmetic, by IMM[4:0]. -/
def execDipSrai (d : Nat) (s : State) : Host.Outcome State Fault Refusal := .next (s.instrI d 0x26 immU sra)

/-- LUI (0x27): IMM x 2^14. -/
def execDipLui (d : Nat) (s : State) : Host.Outcome State Fault Refusal :=
  .next (s.instr d 0x27 1 fun r w => r.put (rdOf w) (immU w <<< 14))

/-- The window number of a run's binding: a channel, a stream, or the script itself (R312). -/
def Run.windowOf (r : Run) (d : Nat) : Nat := if d = 6 then r.num else r.bind

/-- LD (0x28): the window word at ra + IMM (R312). -/
def execDipLd (d : Nat) (s : State) : Host.Outcome State Fault Refusal :=
  .next (s.instr d 0x28 1 fun r w =>
    r.put (rdOf w) (windowRead ((s.dp d).window (r.windowOf d) r.num) (r.reg (raOf w) + immS w)))

/-- ST (0x29): the window word at ra + IMM is rd (R312). -/
def execDipSt (d : Nat) (s : State) : Host.Outcome State Fault Refusal :=
  match s.fetch d with
  | some (r, w) =>
    if opOf w = 0x29 then
      let a := r.reg (raOf w) + immS w
      let s := s.onDp d fun x =>
        { x with windows := x.windows.map fun v =>
            if v.bind = r.windowOf d && v.num = r.num then { v with words := windowWrite v.words a (r.reg (rdOf w)) } else v }
      .next (s.instr d 0x29 1 fun r _ => r.goto (r.pc + 1))
    else .next s
  | none => .next s

/-- IN (0x2A): the port is sampled in the first clock (R324). -/
def execDipIn (d : Nat) (s : State) : Host.Outcome State Fault Refusal :=
  match s.fetch d with
  | some (r, w) =>
    if opOf w = 0x2A then
      let t := max r.next s.clk
      let (v, s) := (s.toClk t).readPort d r (portOf w)
      .next ((s.toClk (t + 8)).setRun d { r.put (rdOf w) v with next := t + 8, cycles := r.cycles + 4 })
    else .next s
  | none => .next s

/-- OUT (0x2B) of a port without a row of its own; a written value that the row's port does not act on changes nothing
(R324). -/
def execDipOut (d : Nat) (s : State) : Host.Outcome State Fault Refusal :=
  .next (s.outPort d (fun p => !ownRow d p) fun s r v => 
    (s.writePort d r (portOf ((s.dp d).word r.pc)) v, r))

/-- PORT_ISSUE: writing 1 issues the run's row; its tasks become ready at I_n (R259). -/
def execPortIssue (d : Nat) (s : State) : Host.Outcome State Fault Refusal :=
  .next (s.outPort d (fun p => decide (d < 4) && p == 0x0E) fun s r v =>
    match s.row? r.bind r.frame r.row with
    | some x => (if v != 1 || x.issued || x.readied || x.skip || !s.issuesRow r.bind r.frame r.row then s else s.issueRow r.bind r.frame r.row false true, r)
    | none => (s, r))

/-- PORT_EVT_ADD: writing 1 adds the event of EVT_ARG0 to EVT_ARG7 (R327, R328). -/
def execPortEvtAdd (d : Nat) (s : State) : Host.Outcome State Fault Refusal :=
  .next (s.outPort d (fun p => d == 6 && p == 0x10) fun s r v => (if v = 1 then s.portAdd else s, r))

/-- PORT_EVT_CANCEL: a slot that scripts added is freed (R328). -/
def execPortEvtCancel (d : Nat) (s : State) : Host.Outcome State Fault Refusal :=
  .next (s.outPort d (fun p => d == 6 && p == 0x12) fun s r v => (s.portCancel (fld v 9 0), r))

/-- PORT_USER_EVT (R325). -/
def execPortUserEvt (d : Nat) (s : State) : Host.Outcome State Fault Refusal :=
  .next (s.outPort d (fun p => p == 0x36) fun s r v => s.userEvt d r v)

/-- PORT_USER_FAULT (R325). -/
def execPortUserFault (d : Nat) (s : State) : Host.Outcome State Fault Refusal :=
  .next (s.outPort d (fun p => p == 0x37) fun s r v => s.userFault r v)

/-- BCC (0x30): on at pc + 1 + OFF where COND holds for ra and rb, which stand in the places of rd and ra. -/
def execDipBcc (d : Nat) (s : State) : Host.Outcome State Fault Refusal :=
  .next (s.instr d 0x30 2 fun r w =>
    r.goto (if condHolds (condOf w) (r.reg (rdOf w)) (r.reg (raOf w)) then r.pc + 1 + offOf w else r.pc + 1))

/-- LOOP (0x32): the next LEN instructions COUNT times. -/
def execDipLoop (d : Nat) (s : State) : Host.Outcome State Fault Refusal :=
  .next (s.instr d 0x32 1 fun r w => r.enter (countOf w) (lenOf w))

/-- LOOPR (0x33): min(ra, MAX) times; ra stands in the place of rd. -/
def execDipLoopr (d : Nat) (s : State) : Host.Outcome State Fault Refusal :=
  .next (s.instr d 0x33 1 fun r w => r.enter (min (r.reg (rdOf w)).toNat (maxOf w)) (lenOf w))

/-- BREAK (0x34): the innermost loop is left, and the run goes on after its body. -/
def execDipBreak (d : Nat) (s : State) : Host.Outcome State Fault Refusal :=
  .next (s.instr d 0x34 2 fun r _ =>
    match r.loops with
    | l :: rest => { r with loops := rest }.goto l.stop
    | [] => r.goto (r.pc + 1))

/-- CALL (0x35): pc + 1 is pushed; on at pc + 1 + OFF. -/
def execDipCall (d : Nat) (s : State) : Host.Outcome State Fault Refusal :=
  .next (s.instr d 0x35 2 fun r w =>
    { r with calls := (r.pc + 1) :: r.calls, pc := ((r.pc + 1 : Nat) + callOff w).toNat })

/-- RET (0x36): on at the popped address; a loop body of the caller may end there. -/
def execDipRet (d : Nat) (s : State) : Host.Outcome State Fault Refusal :=
  .next (s.instr d 0x36 2 fun r _ =>
    match r.calls with
    | a :: rest => { r with calls := rest }.goto a
    | [] => r.goto (r.pc + 1))

/-- A WAIT returns with the masked flags after some waited cycles. -/
def State.waitDone (s : State) (d : Nat) (r : Run) (rd flags waited : Nat) : State :=
  let t := s.clk
  -- the edge flag starts afresh once it has been seen
  let s := if d = 6 && nbit flags 0 then s.onDip fun x => { x with edgeSeen := (s.trk x.tlSel).last } else s
  s.setRun d { r.put rd (w32 flags) with next := t, cycles := r.cycles + 2 + waited, wait := none }

/-- WAIT (0x38): returns at once where a masked flag is set, else waits (R326). -/
def execDipWait (d : Nat) (s : State) : Host.Outcome State Fault Refusal :=
  match s.fetch d with
  | some (r, w) =>
    if opOf w = 0x38 then
      let s := s.toClk (max r.next s.clk + 4)
      let f := s.pendingFlags d r &&& maskOf' w
      if f != 0 then .next (s.waitDone d r (rdOf w) f 0)
      else .next (s.setRun d { r with wait := some ⟨maskOf' w, rdOf w, s.clk, timeoutOf w⟩ })
    else .next s
  | none => .next s

/-- WAIT_RETURN: a masked flag is set, or the clock runs on to the first masked point of time or to TIMEOUT; a flag set in
the cycle of the timeout wins (R326). -/
def execWaitReturn (d : Nat) (s : State) : Host.Outcome State Fault Refusal :=
  match (s.dp d).run with
  | some r =>
    match r.wait with
    | none => .next s
    | some q =>
      let stop := q.since + 2 * q.timeout
      let go (s : State) : State :=
        s.waitDone d r q.rd (s.pendingFlags d r &&& q.mask) (min q.timeout (ceilDiv (s.clk - q.since) 2))
      if s.pendingFlags d r &&& q.mask != 0 then .next (go s)
      else
        let times := (s.flagTimes d r q.mask).map fun t => s.clk + ceilDiv (t - s.now) s.time.addend
        .next (go (s.toClk (times.foldl min stop)))
  | none => .next s

/-- YIELD (0x39): the run ends. A built-in program ends so within its declared time (log entry 44). -/
def execDipYield (d : Nat) (s : State) : Host.Outcome State Fault Refusal :=
  match (s.dp d).run with
  | some r =>
    if r.builtin then .next (s.yieldRun d r)
    else match s.fetch d with
    | some (r, w) => .next (if opOf w = 0x39 then (s.toClk (max r.next s.clk + 2)).yieldRun d { r with cycles := r.cycles + 1 } else s)
    | none => .next s
  | none => .next s

/-! ### Happenings of the dippers -/

/-- DIPPER_RUN_START. -/
def execDipperRunStart (d : Nat) (s : State) : Host.Outcome State Fault Refusal := .next (startRun s d)

/-- DIPPER_WATCHDOG. -/
def execDipperWatchdog (d : Nat) (s : State) : Host.Outcome State Fault Refusal := .next (watchdogEnd s d)

/-- DIPPER_MEM_ERROR (R323): kind 0 a single-bit error, corrected; 1 a double-bit error in the instruction that the run
fetches, which ends the run and has the program rewritten; 2 one in the word that the LD at the pc reads, which reads
zero. -/
def execDipperMemError (wait d kind : Nat) (s : State) : Host.Outcome State Fault Refusal :=
  let s := s.pass wait
  match kind with
  | 0 => .next (s.raise 0x10 0x07 d)
  | 1 =>
    match (s.dp d).run with
    | some r => .next (((s.breakRun d r).raise 0x10 0x03 d).mustReload d r.num r.builtin)
    | none =>
      match (s.dp d).packing with
      | some (id, _) => .next ((s.breakPacking d id).raise 0x10 0x03 d)
      | none => .next s
  | _ =>
    match s.fetch d with
    | some (_, w) =>
      if opOf w = 0x28 then .next ((s.raise 0x10 0x04 d).instr d 0x28 1 fun r w => r.put (rdOf w) 0) else .next s
    | none => .next s

/-- PROGRAM_RELOAD: between runs Vehitrix rewrites the program that is due first, and writes DIP_PROGRAM RELOADED (R323). -/
def execProgramReload (wait : Nat) (s : State) : Host.Outcome State Fault Refusal :=
  match s.dip.reloads.filter fun q => (s.dp q.1).run.isNone && (s.dp q.1).packing.isNone with
  | [] => .next s
  | (d, num, due) :: _ =>
    let s := s.pass (min wait (due - s.clk))
    let s := s.onDip fun x => { x with reloads := x.reloads.erase (d, num, due) }
    let s := if s.broken d num then s.onDip fun x => { x with builtinBroken := x.builtinBroken.erase (d, num) }
      else s.onProg d num fun p => { p with broken := false }
    .next (s.event 0x0702 0xFF 1 [d + at' num 8, 3])

end Sys2Proof.Machine
end

