-- ==== Sys2Proof/Machine/Loader.lean ====
section
/-!
DEFINITION. The loader of the dippers (R310, R317, R318, R330 to R333 of chapter 10): the checks of an image, the static
bound, and the commands of group 0x07.
-/
namespace Sys2Proof.Machine

/-! ### Program images (R314, R315, R330) -/

/-- Cycles of an instruction other than WAIT, by OPCODE; none for an unknown one (R315). -/
def opCycles (op : Nat) : Option Nat :=
  match op with
  | 0x10 | 0x11 | 0x14 => some 2
  | 0x12 => some 34
  | 0x13 | 0x15 | 0x17 => some 18
  | 0x16 => some 6
  | 0x2A => some 4
  | 0x2B | 0x30 | 0x34 | 0x35 | 0x36 | 0x38 => some 2
  | 0x32 | 0x33 | 0x39 => some 1
  | _ => if op ≤ 0x0F || (0x20 ≤ op && op ≤ 0x29) then some 1 else none

/-- The bits that must be zero in a word of an OPCODE (table "Instruction formats"). -/
def zeroBits (op : Nat) : Nat :=
  if op = 0x00 || op = 0x34 || op = 0x36 || op = 0x39 then msk 25 0
  else if op ≤ 0x17 then msk 13 0
  else if op = 0x2A || op = 0x2B then msk 21 8
  else if op = 0x30 then msk 14 10
  else if op = 0x32 then msk 15 10
  else if op = 0x33 then msk 11 10
  else if op = 0x35 then msk 25 16
  else 0

/-- A word that reason 2 refuses: unknown opcode, zero fields, COND 6 or 7, registers of MUL64, DIVW, QLOG2, QSQRT, LUI. -/
def badWord (w : Word) : Bool :=
  let op := opOf w
  (opCycles op).isNone || w.toNat &&& zeroBits op != 0
    || (op == 0x30 && 6 ≤ condOf w)
    || ((op == 0x10 || op == 0x11) && (rdOf w % 2 == 1 || rdOf w == 0))
    || (op == 0x12 && raOf w % 2 == 1)
    || ((op == 0x16 || op == 0x17) && rbOf w != 0)
    || (op == 0x27 && raOf w != 0)

/-- A word that reason 3 refuses. -/
def badPort (kind : Nat) (w : Word) : Bool :=
  let op := opOf w
  (op == 0x2A && !portReadable kind (portOf w)) || (op == 0x2B && !portWritable kind (portOf w))
    || (op == 0x38 && maskOf' w &&& (255 - flagsOfKind kind) != 0)

/-- Loop bodies of a program: first address and the address after the body, in the order of their LOOPs. -/
def bodiesOf (code : List Word) : List (Nat × Nat) :=
  (List.range code.length).filterMap fun i =>
    let w := code.getD i 0
    if opOf w = 0x32 || opOf w = 0x33 then some (i + 1, i + 1 + lenOf w) else none

/-- The bodies that hold an address, outermost first. -/
def around (bodies : List (Nat × Nat)) (i : Nat) : List (Nat × Nat) := bodies.filter fun b => b.1 ≤ i && decide (i < b.2)

/-- The innermost body of an address. -/
def innerBody (bodies : List (Nat × Nat)) (i : Nat) : Option (Nat × Nat) := (around bodies i).getLast?

/-- Where a branch or call at an address goes. -/
def branchTo (i : Nat) (w : Word) : Nat := i + 1 + offOf w
def callTo (i : Nat) (w : Word) : Int := (i + 1 : Nat) + callOff w

/-- A branch or call that reason 4 refuses (R317). -/
def badBranch (code : List Word) (bodies : List (Nat × Nat)) (i : Nat) : Bool :=
  let w := code.getD i 0
  if opOf w = 0x30 then
    offOf w == 0 || decide (code.length ≤ branchTo i w)
      || ((innerBody bodies i).isSome && innerBody bodies (branchTo i w) != innerBody bodies i)
  else if opOf w = 0x35 then decide (callTo i w < 0) || decide ((code.length : Int) ≤ callTo i w)
  else false

/-- A loop or BREAK that reason 5 refuses. -/
def badLoop (code : List Word) (bodies : List (Nat × Nat)) (i : Nat) : Bool :=
  let w := code.getD i 0
  if opOf w = 0x32 || opOf w = 0x33 then
    decide (code.length < i + 1 + lenOf w)
      || (match innerBody bodies i with | some b => decide (b.2 < i + 1 + lenOf w) | none => false)
  else opOf w == 0x34 && (innerBody bodies i).isNone

/-- Where a run may go on from an instruction within its routine; the length of the program stands for its end. -/
def nexts (code : List Word) (bodies : List (Nat × Nat)) (i : Nat) : List Nat :=
  let w := code.getD i 0
  match opOf w with
  | 0x30 => [i + 1, branchTo i w]
  | 0x32 | 0x33 => [i + 1, i + 1 + lenOf w]
  | 0x34 => match innerBody bodies i with | some b => [b.2] | none => []
  | 0x36 | 0x39 => []
  | _ => [i + 1]

/-- The instructions that a routine reaches, in rising order: every path goes forward. -/
def reaches (code : List Word) (bodies : List (Nat × Nat)) (start : Nat) : List Nat :=
  (List.range code.length).foldl
    (fun l i => if l.contains i then l ++ (nexts code bodies i).filter fun j => !l.contains j else l) [start]

/-- Routines of one level of calls: address, loops entered before it, the CALL that names it. -/
abbrev Level := List (Nat × Nat × Nat)

/-- Loops entered at an address of a routine, beyond those around its start. -/
def loopsIn (bodies : List (Nat × Nat)) (start i : Nat) : Nat := (around bodies i).length - (around bodies start).length

/-- The routines that the routines of a level call. -/
def called (code : List Word) (bodies : List (Nat × Nat)) (l : Level) : Level :=
  (l.flatMap fun (st, n, _) =>
    (reaches code bodies st).filterMap fun i =>
      let w := code.getD i 0
      if opOf w = 0x35 then some ((callTo i w).toNat, n + loopsIn bodies st i, i) else none).eraseDups

/-- The levels of calls below some entries: entries, then up to five levels. -/
def levels (code : List Word) (bodies : List (Nat × Nat)) : Nat → Level → List Level
  | 0, l => [l]
  | k + 1, l => l :: levels code bodies k (called code bodies l)

/-- A LOOP that nests deeper than 4, counted across calls (reason 6). -/
def deepLoop (code : List Word) (bodies : List (Nat × Nat)) (ls : List Level) : Option Nat :=
  (List.range code.length).find? fun i =>
    (opOf (code.getD i 0) == 0x32 || opOf (code.getD i 0) == 0x33) &&
      (decide (4 ≤ (around bodies i).length) ||
        ls.any fun l => l.any fun (st, n, _) => (reaches code bodies st).contains i && decide (4 ≤ n + loopsIn bodies st i))

/-- An instruction at which a path leaves the program, or a RET outside a subroutine or at another loop depth (reason 8). -/
def badPath (code : List Word) (bodies : List (Nat × Nat)) (ls : List Level) : Option Nat :=
  let bad (sub : Bool) (st i : Nat) : Bool :=
    let w := code.getD i 0
    (nexts code bodies i).any (fun j => decide (code.length ≤ j))
      || (opOf w == 0x36 && (!sub || (around bodies i).length != (around bodies st).length))
  let l := (ls.zip (List.range ls.length)).flatMap fun (l, k) =>
    l.flatMap fun (st, _, _) => (reaches code bodies st).filter (bad (k != 0) st)
  l.min?

/-! ### The static bound (R318) -/

/-- The longest remaining time from an address to the end of the innermost body of `i`, from the times that stand in `tbl`
for the addresses after i. -/
def costTo (bodies : List (Nat × Nat)) (n i : Nat) (tbl : List Nat) : Nat → Nat → Nat
  | 0, _ => 0
  | k + 1, j =>
    let stop := match innerBody bodies i with | some b => b.2 | none => n
    if stop ≤ j then 0
    else
      let c := tbl.getD (j - (i + 1)) 0
      if innerBody bodies j = innerBody bodies i then c
      else match innerBody bodies j with
        | some b => c + costTo bodies n i tbl k b.2
        | none => c

/-- The time of the instruction at i and what follows it, to the end of its body, RET or YIELD. `sub` gives the time of a
routine up to its RET. -/
def costAt (code : List Word) (bodies : List (Nat × Nat)) (sub : Nat → Nat) (i : Nat) (tbl : List Nat) : Nat :=
  let w := code.getD i 0
  let next (j : Nat) : Nat := costTo bodies code.length i tbl 6 j
  match opOf w with
  | 0x39 => 1
  | 0x36 => 2
  | 0x34 => 2
  | 0x30 => 2 + max (next (i + 1)) (next (branchTo i w))
  | 0x32 => 1 + (if lenOf w = 0 then 0 else countOf w * tbl.getD 0 0) + next (i + 1 + lenOf w)
  | 0x33 => 1 + (if lenOf w = 0 then 0 else maxOf w * tbl.getD 0 0) + next (i + 1 + lenOf w)
  | 0x35 => 2 + sub (callTo i w).toNat + next (i + 1)
  | 0x38 => 2 + timeoutOf w + next (i + 1)
  | op => (opCycles op).getD 0 + next (i + 1)

/-- The times of all addresses, each to the end of its innermost body. -/
def costs (code : List Word) (bodies : List (Nat × Nat)) (sub : Nat → Nat) : List Nat :=
  (List.range code.length).reverse.foldl (fun tbl i => costAt code bodies sub i tbl :: tbl) []

/-- The same with k levels of calls below. -/
def costLevels (code : List Word) (bodies : List (Nat × Nat)) : Nat → List Nat
  | 0 => costs code bodies fun _ => 0
  | k + 1 =>
    let below := costLevels code bodies k
    costs code bodies fun j => below.getD j 0

/-- The bound of an entry; calls nest at most 4 deep. -/
def boundOf (code : List Word) (offset : Nat) : Nat := (costLevels code (bodiesOf code) 4).getD offset 0

/-! ### The checks of an image (R331) -/

/-- A refusal: status, offending image word, reason. -/
structure LoadErr where
  st : Status
  word : Nat
  reason : Nat
  deriving DecidableEq, Repr, Inhabited

/-- No single image word is at fault. -/
def noImageWord : Nat := 0xFFFFFFFF

/-- The kind of program that a dipper accepts (R310). -/
def kindOf (d : Nat) : Option Nat := if d < 4 then some 0 else if d < 6 then some 1 else if d = 6 then some 2 else none

/-- The highest budget of an entry, 0 where there is no limit (R330). -/
def budgetLimit (kind e : Nat) : Nat :=
  match kind, e with
  | 0, 2 => 6000
  | 1, 0 => 750
  | 2, 0 => 15000
  | _, _ => 0

/-- Instruction words that built-in programs take (R332). -/
def builtinWords (d : Nat) : Nat := if d < 4 then 448 else if d < 6 then 768 else 0

/-- Ranges of instruction memory in use; the built-in programs stand at the lowest addresses (log entry 44). -/
def Dip.ranges (x : Dip) (d : Nat) : List (Nat × Nat) :=
  (if builtinWords d = 0 then [] else [(0, builtinWords d)]) ++ x.progs.map fun p => (p.base, p.base + p.n)

/-- Free instruction words. -/
def Dip.freeWords (x : Dip) (d : Nat) : Nat := 1024 - builtinWords d - sumNat (x.progs.map (·.n))

/-- The lowest free range of n words. -/
def Dip.place (x : Dip) (d n : Nat) : Option Nat :=
  let l := x.ranges d
  minBy id <| (0 :: l.map (·.2)).filter fun a =>
    decide (a + n ≤ 1024) && l.all fun r => decide (r.2 ≤ a) || decide (a + n ≤ r.1)

/-- The first index below n that a test names. -/
def firstBad (n : Nat) (f : Nat → Bool) : Option Nat := (List.range n).find? f

/-- The checks of an image in the order of the reason table, and the program that it makes. -/
def checkImage (s : State) (d num : Nat) (ws : List Word) : Except LoadErr Prog :=
  let w (i : Nat) : Word := ws.getD i 0
  let kind := fld (w 1) 31 28
  let data := fld (w 1) 27 22
  let n := fld (w 1) 10 0
  let budgets := (List.range 4).map fun e => fld (w (2 + e)) 31 12
  let offsets := (List.range 4).map fun e => fld (w (2 + e)) 9 0
  let entries := if kind = 0 then 4 else 1
  let code := (List.range n).map fun i => w (6 + i)
  let err (reason word : Nat) : Except LoadErr Prog := .error ⟨.badParam, word, reason⟩
  if (w 0).toNat != 0x44500001 then err 1 0
  else if some kind != kindOf d || 32 < data || n = 0 || 1024 < n then err 1 1
  else if ws.length < 6 + n + 16 * data then err 1 noImageWord
  else match firstBad entries fun e =>
      let lim := budgetLimit kind e
      (lim != 0 && decide (lim < budgets.getD e 0)) || (budgets.getD e 0 != 0 && decide (n ≤ offsets.getD e 0)) with
  | some e => err 1 (2 + e)
  | none =>
  if fld (w 1) 21 11 != 0 then err 2 1
  else match firstBad 4 fun e => fld (w (2 + e)) 11 10 != 0 with
  | some e => err 2 (2 + e)
  | none =>
  match firstBad n fun i => badWord (code.getD i 0) with
  | some i => err 2 (6 + i)
  | none =>
  match firstBad n fun i => badPort kind (code.getD i 0) with
  | some i => err 3 (6 + i)
  | none =>
  let bodies := bodiesOf code
  match firstBad n fun i => badBranch code bodies i with
  | some i => err 4 (6 + i)
  | none =>
  match firstBad n fun i => badLoop code bodies i with
  | some i => err 5 (6 + i)
  | none =>
  let live := (List.range entries).filter fun e => budgets.getD e 0 != 0
  let top : Level := live.map fun e => (offsets.getD e 0, 0, 0)
  let ls := levels code bodies 5 top
  match deepLoop code bodies ls with
  | some i => err 6 (6 + i)
  | none =>
  match (ls.getD 5 []).head? with
  | some (_, _, i) => err 7 (6 + i)
  | none =>
  match badPath code bodies ls with
  | some i => err 8 (6 + i)
  | none =>
  let bounds := (List.range 4).map fun e => if live.contains e then boundOf code (offsets.getD e 0) else 0
  match live.find? fun e => decide (budgets.getD e 0 < bounds.getD e 0) with
  | some e => err 9 (2 + e)
  | none =>
  match (s.dp d).place d n with
  | none => .error ⟨.noResource, noImageWord, 10⟩
  | some base =>
    if d = 6 && decide ((s.dp d).freeData < 64 * data) then .error ⟨.noResource, noImageWord, 10⟩
    else
      .ok { num := num, kind := kind, base := base, n := n, data := data
            budgets := (List.range 4).map fun e => if e < entries then budgets.getD e 0 else 0
            offsets := offsets, bounds := bounds, code := code, init := (List.range (16 * data)).map fun i => w (6 + n + i)
            disabled := false, broken := false, ends := [] }

/-! ### Commands of group 0x07 (R333) -/

/-- A word of the staging buffer. -/
def State.staged (s : State) (i : Nat) : Word := (alookup s.dip.staging i).getD 0

/-- DIP_IMAGE_WRITE (0x0700). -/
def hDipImageWrite (c : Vx) (s : State) : Res :=
  let first := fld (c.w 2) 10 0
  let n := min 13 (c.len - 1)
  refuseRsv c [(2, msk 10 0)] <|
  refuse s.dip.load.isSome .busy noWord <|
  refuse (decide (1542 < first + n)) .badParam 2 <|
  .ok [] (s.onDip fun x =>
    { x with staging := (List.range n).foldl (fun l k => aset l (first + k) (c.w (3 + k))) x.staging })

/-- DIP_LOAD (0x0701; R331): ACCEPTED, and checked by the loader. -/
def hDipLoad (c : Vx) (s : State) : Res :=
  let d := fld (c.w 2) 2 0
  let num := fld (c.w 2) 13 8
  let words := fld (c.w 2) 26 16
  refuseRsv c [(2, msk 26 16 + msk 13 8 + msk 2 0)] <|
  refuse s.dip.load.isSome .busy noWord <|
  refuse (d == 7 || (decide (d < 6) && decide (num < 16))) .denied 2 <|
  refuse (decide (1542 < words)) .badParam 2 <|
  refuse ((s.dp d).progs.any (·.num == num)) .badState noWord <|
  .acc ((s.onDip fun x => { x with load := some ⟨d, num, words, s.clk⟩ }).start 0x0701 c.tag 0)

/-- DIP_LOAD_DONE: within 50 ms the loader has checked the image; a good one is written into the lowest free range that
fits, and CMD_DONE tells its largest bound and the free words (R331, R332). -/
def execDipLoadDone (wait : Nat) (s : State) : Host.Outcome State Fault Refusal :=
  match s.dip.load with
  | none => .next s
  | some q =>
    let s := s.pass (min wait (q.clk + 50 * msC - s.clk))
    let ws := (List.range q.words).map s.staged
    let s := s.onDip fun x => { x with load := none }
    match checkImage s q.dip q.num ws with
    | .error e => .next (s.complete 0x0701 0 e.st [e.word, e.reason])
    | .ok p =>
      let s := s.onDp q.dip fun x =>
        { x with
          progs := x.progs ++ [p]
          imem := (List.range p.n).foldl (fun m i => aset m (p.base + i) (p.code.getD i 0)) x.imem }
      let s := if q.dip = 6 then s.openWindow 6 p.num p.num else s
      let s := s.complete 0x0701 0 .ok [p.bounds.foldl max 0, (s.dp q.dip).freeWords q.dip]
      .next (s.event 0x0702 0xFF 1 [q.dip + at' q.num 8, 1])

/-- The bindings of a program: channels, streams, or events and starts that name a script. -/
def State.bindings (s : State) (d num : Nat) : Nat :=
  if d < 4 then
    ((List.range 16).filter fun c =>
      [(s.ch c).bind, (s.ch c).bindNext].any fun b => b.any fun b => b.user && b.dipper == d && b.program == num).length
  else if d < 6 then
    ((List.range 32).filter fun i => (s.pv i).dipper == some d && s.dip.hooks.any fun h => h.1 == i && h.2.2 == some num).length
  else
    (s.time.evts.filter fun e => e.2.actScript && e.2.script == num).length
      + (s.time.startQ.filter (·.script == num)).length + b01 ((s.dp 6).run.any (·.num == num))

/-- DIP_UNLOAD (0x0702): an unbound program. -/
def hDipUnload (c : Vx) (s : State) : Res :=
  let d := fld (c.w 2) 2 0
  let num := fld (c.w 2) 13 8
  refuseRsv c [(2, msk 13 8 + msk 2 0)] <|
  refuse (!(s.dp d).progs.any (·.num == num)) .badParam 2 <|
  refuse (s.bindings d num != 0) .badState noWord <|
  let s := if d = 6 then s.closeWindow 6 num num else s
  let s := s.onDp d fun x => { x with progs := x.progs.filter (·.num != num) }
  let s := s.onDip fun x => { x with reloads := x.reloads.filter fun q => !(q.1 == d && q.2.1 == num) }
  let s := if (s.dp d).progs.any (·.disabled) then s else s.causeOff 0x10 0x02 d
  .ok [(s.dp d).freeWords d] (s.event 0x0702 0xFF 1 [d + at' num 8, 0])

/-- Core clocks of the last second in which a dipper was busy. -/
def State.busyClocks (s : State) (d : Nat) : Nat :=
  let from' := s.clk - secC
  let part (a b : Nat) : Nat := b - max a from'
  sumNat ((s.dp d).busy.map fun b => part b.1 b.2) + (match (s.dp d).run with | some r => part r.began s.clk | none => 0)
    + (if (s.dp d).packing.isSome then part (s.dp d).packFrom s.clk else 0)

/-- DIP_QUERY (0x0703). Which of its work DP7 does in runs of its own is not stated: its figures are free (log entry 44). -/
def hDipQuery (c : Vx) (s : State) : Res :=
  let d := fld (c.w 2) 2 0
  let x := s.dp d
  refuseRsv c [(2, msk 2 0)] <|
  if d = 7 then .ok [x.freeWords d, x.freeData, s.freeVal 703 0 % 4294967296, x.watchdogs, s.freeVal 703 1 % 65537] s.drawn
  else .ok [x.freeWords d, x.freeData, x.runs.toNat, x.watchdogs, quot 703 (s.busyClocks d * 65536) secC] s

/-- DIP_PROG_QUERY (0x0704). Which numbers the built-in programs have, their bounds and bindings are not stated, and free
(log entry 44). -/
def hDipProgQuery (c : Vx) (s : State) : Res :=
  let d := fld (c.w 2) 2 0
  let num := fld (c.w 2) 13 8
  refuseRsv c [(2, msk 13 8 + msk 2 0)] <|
  if d < 6 && num < 16 then
    .ok ((s.freeVal 704 num % 2) :: (List.range 5).map fun k => s.freeVal (705 + k) num % 4294967296) s.drawn
  else
    match (s.dp d).progs.find? (·.num == num) with
    | some p => .ok ([if p.disabled then 2 else 1] ++ p.bounds ++ [s.bindings d num]) s
    | none => .ok [0, 0, 0, 0, 0, 0] s

/-- DIP_HOOK of a running stream must be staged. -/
def hookNeedStage (c : Vx) (s : State) : Bool := s.streamRuns (fld (c.w 2) 4 0)

/-- The first frame of a channel for which a setting made now holds: the picture at the boundary, else the next one. -/
def State.nextPicture (s : State) (c : Nat) : Nat :=
  match (s.ch c).frame with
  | none => 0
  | some f =>
    if !s.runs c then 0
    else match s.predictStart c f 0 with
    | some t => if s.now < t + 2 * s.time.addend then f else f + 1
    | none => f + 1

/-- DIP_HOOK (0x0710). -/
def hDipHook (c : Vx) (s : State) : Res :=
  let i := fld (c.w 2) 4 0
  let num := fld (c.w 2) 13 8
  let on := bit (c.w 2) 16
  refuseRsv c [(2, msk 16 16 + msk 13 8 + msk 4 0)] <|
  match (s.pv i).dipper with
  | none => .err .badParam 2
  | some d =>
    refuse (!(s.dp d).progs.any fun p => p.num == num && p.kind == 1) .badParam 2 <|
    refuse (on && !(s.dp d).windowFits i num) .noResource noWord <|
    let first := if s.streamRuns i then s.nextPicture (s.strm i).chan else 0
    let s := if on then s.openWindow d i num else s.closeWindow d i num
    .ok [] (s.onDip fun x =>
      { x with hooks := (i, first, if on then some num else none) ::
          (x.hooks.filter fun h => h.1 != i || decide (h.2.1 < first)) })

end Sys2Proof.Machine
end

