-- ==== Sys2Proof/Machine/TwinOps.lean ====
section
/-!
DEFINITION. What a module of a pair does (R465 to R490 of chapter 16): pair states, lockstep and convergence, row records
applied, take-over and handover. The rows and commands stand in Machine/Twin.lean.
-/
namespace Sys2Proof.Machine

/-! ### Pair states (R465, R478, R480) -/

/-- A change of pair state writes TWIN_STATE (R480). -/
def State.twinGo (s : State) (role : Nat) : State :=
  let old := s.twin.role
  if old = role then s
  else (s.onTwin fun t => { t with role := role }).event 0x0D01 0xFF 5 [role + at' old 4, b01 s.twin.partnerB]

/-- The frames from which convergence of a channel is judged: the first picture after one complete GDR period that
begins after now, one picture in ALL_INTRA (R480). -/
def State.convergeFrom (s : State) (c : Nat) : Nat :=
  let h := s.ch c
  match h.cfg with
  | some g => h.nextFrame + (if g.struct = 2 then 0 else h.gdrP * h.phases)
  | none => h.nextFrame

/-- A standby enters LOCKSTEP, and its references count as unproved from now (R477, R478, R480). -/
def State.lockstep (s : State) : State :=
  let s := s.onTwin fun t =>
    { t with proved := [], converge := ((List.range 16).filter s.runs).map fun c => (c, s.convergeFrom c) }
  s.twinGo 3

/-- The tasks that must have decoded equal: every task of every stream's first picture from the channel's frame on. -/
def State.toProve (s : State) : List (Nat × Nat × Nat) :=
  s.twin.converge.flatMap fun (c, _) =>
    match (s.ch c).cfg, (s.ch c).lay with
    | some g, some l => (List.range l.count).flatMap fun i =>
        let t := s.strm (l.first + i)
        (List.range (rowsOf g.ctu t.rect)).flatMap fun n => (List.range (s.ch c).tileCols).map fun k => (l.first + i, k, n)
    | _, _ => []

/-- A standby has decoded a task of an applied row: equal, or with a mismatch, a syntax error, or cancelled (R478,
R480). -/
def State.standbyDecoded (s : State) (r : DecRec) (ok : Bool) : State :=
  if !ok then (if s.hasCause 0x0D 0x06 then s else s.raiseOn 0x0D 0x06).lockstep
  else if s.twin.role != 3 then s
  else
    let judged := s.twin.converge.any fun (c, f) => c == r.chan && decide (f ≤ r.frame) && decide (r.frame < f + (s.ch c).phases)
    let s := if judged && !s.twin.proved.contains (r.stream, r.col, r.row)
      then s.onTwin fun t => { t with proved := (r.stream, r.col, r.row) :: t.proved } else s
    let all := !s.twin.converge.isEmpty && s.toProve.all fun x => s.twin.proved.contains x
    if all then ((s.causeOff 0x0D 0x05).causeOff 0x0D 0x06).twinGo 2 else s

/-! ### Row records (R474, R476) -/

/-- A task record from its words 0 to 6 (table "Task record"). The row deadline follows from the guard time (R234). -/
def State.taskOf (s : State) (id : Nat) (ws : List Word) : TaskRec :=
  let w (k : Nat) : Word := ws.getD k 0
  let c := fld (w 0) 23 20
  let stream := fld (w 0) 19 15
  let col := fld (w 0) 14 10
  let h := s.ch c
  let t := s.strm stream
  let n := fld (w 0) 9 0
  let (y, a) := match h.cfg with
    | some g => let r := taskRect g t.rect h.tileCols col n; (t.rect.y / g.ctu, r.w * r.h)
    | none => (0, 0)
  let guardT := mkTime ((w 5).toNat + tSec s.now / 4294967296 * 4294967296) (w 4).toNat 0
  { id := id, chan := c, frame := (w 1).toNat, crow := y + n, stream := stream, col := col, row := n
    skip := bit (w 0) 25, guarded := bit (w 0) 24, budget := (w 2).toNat
    floor := match h.cfg with | some g => h.taskFloor g t (w 1).toNat n col | none => 0
    qpInit := fld (w 3) 23 16, qpMax := fld (w 3) 15 8, qpMin := fld (w 3) 7 0
    guardT := guardT, deadline := guardT + rsvTime a + usU
    retried := false, rsv := false, pathOf := none, st := 1 }

/-- The issue record of a row. -/
def State.issue? (s : State) (c f r : Nat) : Option IssueRec :=
  s.twin.issues.find? fun x => x.chan == c && x.frame == f && x.row == r

/-- The task records of an issue record join the module's own, with the charges of their row (R246, R476, R485, R490). -/
def State.adopt (s : State) (x : IssueRec) (st : Nat) : State :=
  match (s.ch x.chan).cfg with
  | none => s
  | some g =>
    if !(s.rowTasksOf x.chan x.frame x.row).isEmpty then s
    else
      let base := s.enc.nextTask
      let l := (List.range x.tasks.length).map fun k => { s.taskOf (base + k) (x.tasks.getD k []) with st := st }
      let s := s.onEnc fun e => { e with tasks := e.tasks ++ l, nextTask := base + l.length }
      let streams := (l.map fun t => (t.stream, t.row)).eraseDups
      let s := streams.foldl (fun s (i, n) =>
        let s := if n = 0 then s.beginPicture i x.frame else s
        let nv := (s.ch x.chan).nonVclOf g (s.strm i) x.frame n
        s.onStrm i fun t => t.rowIn x.frame nv (s.rowX x.chan x.frame x.row i)) s
      s.onRow x.chan x.frame x.row fun r => { r with issued := true, readied := true }

/-- The results of words 7 to 11 of a task record (R208). -/
def resultOf (ws : List Word) : TaskSum :=
  let w (k : Nat) : Word := ws.getD k 0
  ⟨(w 0).toNat, (w 1).toNat, fld (w 2) 31 16, fld (w 2) 15 0, fld (w 3) 31 16, fld (w 3) 15 0, (w 4).toNat, 0⟩

/-- DECODE_ROW records for the tasks of an applied row, under the rules of R337 and R338 (R478). -/
def State.standbyDecode (s : State) (l : List TaskRec) (start : Nat) : State :=
  l.foldl (fun s t =>
    let c := t.chan
    let r : DecRec :=
      { id := s.dec.next, task := t.id, chan := c, stream := t.stream, frame := t.frame, col := t.col, row := t.row
        crow := t.crow, deadline := start + 6 * s.tRowU c + (s.ch c).x, offset := 0, len := ceilDiv t.res.bits 8
        expect := t.res.recon, decoded := 0, concealed := 0, result := 0, retried := false, st := 0 }
    s.onDec fun d => { d with recs := d.recs ++ [r], next := d.next + 1 }) s

/-- The start S of a row on the active module's schedule, from the row deadline of its tasks (R234). -/
def State.issuedStart (s : State) (x : IssueRec) : Nat :=
  match x.tasks.head? with
  | some ws => (s.taskOf 0 ws).deadline - 3 * s.tRowU x.chan - (s.ch x.chan).x
  | none => s.now

/-- The data window of a channel takes other words. -/
def Window.set (c : Nat) (ws : List Word) (w : Window) : Window := if w.bind = c then { w with words := ws } else w
def Dip.setWindow (c : Nat) (ws : List Word) (d : Dip) : Dip := { d with windows := d.windows.map (Window.set c ws) }

/-- The coded slices of an applied row enter the output cisterns: of each stream the bytes of its SLICE frames in PART order, cut by
the lengths of its slices; those of non-VCL units after them (DEDUCED, log entry 78). -/
def State.applySlices (s : State) (h : Shadow) (tasks : List TaskRec) : State :=
  let parts := sortBy (·.part) (h.parts.filter (·.slice))
  (tasks.map (·.stream)).eraseDups.foldl (fun s i =>
    ((sortBy (·.col) (tasks.filter (·.stream == i))).foldl (fun (acc : State × List Byte) t =>
      let (s, l) := acc
      let n := ceilDiv t.res.bits 8
      let s := match t.skip, s.job? t with
        | false, some j => s.putUnit ⟨i, t.frame, t.row, t.col, .slice (j.head none false), n, l.take n, false, false⟩
        | _, _ => s
      (s, l.drop n)) (s, (parts.filter (·.stream == i)).flatMap (·.payload))).1) s

/-- The packaging state of a stream enters its packaging unit (R404, R476). -/
def State.applyPack (s : State) (p : PackState) : State :=
  let put (l : List (Option Template)) : List (Option Template) := if p.tmpl.isEmpty then l else p.tmpl.map (·.map Template.mk)
  if p.stream < 32 then s.onPv p.stream fun v =>
    { v with seq := p.seq, cc := p.cc, psiAt := p.psiAt, pcrAt := p.pcrAt, tmpl := put v.tmpl }
  else s.onPa (p.stream - 32) fun v => { v with seq := p.seq, next := p.next, tmpl := put v.tmpl }

/-- A row record is applied in one clock: charges, rate-control window, packaging state, AUX items, slices to be decoded and
packaged (R476). -/
def State.applyRow (s : State) (h : Shadow) (x : IssueRec) : State :=
  let start := s.issuedStart x
  let s := s.adopt x 1
  let st := (h.parts.filterMap (·.st))
  let results := st.flatMap (·.results)
  let tasks := s.rowTasksOf h.chan h.frame h.row
  let s := (List.range tasks.length).foldl (fun s k =>
    s.onTask (tasks.getD k default).id fun t => { t with st := 3, res := resultOf (results.getD k []) }) s
  let dip := (s.ch h.chan).dip
  let s := match (st.map (·.window)).find? (!·.isEmpty) with
    | some ws => s.onDp dip (Dip.setWindow h.chan ws)
    | none => s
  let s := (st.flatMap (·.packs)).foldl State.applyPack s
  let done := s.rowTasksOf h.chan h.frame h.row
  let s := match st.flatMap (·.aux), (s.ch h.chan).lay with
    | [], _ => s
    | aux, some l => s.onStrm ((s.frameStreams h.chan h.frame).headD l.first) fun t =>
        { t with aux := aset t.aux h.frame (aux.map fun (tag, f, d) => ⟨tag, f, d⟩) }
    | _, none => s
  let s := s.applySlices h done
  let s := (done.map (·.stream)).eraseDups.foldl (fun s i =>
    let s := if s.pictureOver i h.frame then s.pictureEnd i h.frame else s
    s.packStarts i 64) s
  let s := s.standbyDecode done start
  let s := s.onRow h.chan h.frame h.row fun r => { r with issued := true, readied := true, committed := true, slot := none }
  s.onTwin fun t =>
    { t with
      applied := t.applied + 1
      issues := t.issues.filter fun y => !(y.chan == h.chan && y.frame == h.frame && y.row == h.row)
      shadows := t.shadows.filter fun y => !(y.chan == h.chan && y.frame == h.frame && y.row == h.row)
      newest := (h.chan, h.frame, h.row, start) :: t.newest.filter (·.1 != h.chan) }

/-- A record is complete: ROW_END has come, every part that it counts is there, and its CRC matches (R476). -/
def Shadow.complete (h : Shadow) : Bool :=
  match h.fin with
  | none => false
  | some (n, crc) =>
    let l := (List.range n).map fun k => h.parts.find? (·.part == k)
    l.all Option.isSome && crc32c ((l.filterMap id).flatMap (·.payload)) == crc

/-- The shadow of a row. -/
def State.shadow (s : State) (c f r : Nat) : Shadow :=
  (s.twin.shadows.find? fun x => x.chan == c && x.frame == f && x.row == r).getD ⟨c, f, r, [], none⟩

/-- A shadow is set, and applied once it is complete and its row's issue record is there. -/
def State.setShadow (s : State) (h : Shadow) : State :=
  let s := s.onTwin fun t =>
    { t with shadows := h :: t.shadows.filter fun y => !(y.chan == h.chan && y.frame == h.frame && y.row == h.row) }
  match h.complete, s.issue? h.chan h.frame h.row with
  | true, some x => s.applyRow h x
  | _, _ => s

/-! ### Heartbeats (R471, R488) -/

/-- The port of the heartbeat path. -/
def State.beatPort (s : State) : Nat := if s.twin.hbM1 then 3 else 2

/-- A fit standby (R488). -/
def State.fit (s : State) : Bool :=
  s.twin.role == 2 && s.twin.link.isSome && s.twin.path.isSome
    && (List.range 8).all (fun i => (s.inp i).kind == 0 || (s.trk (5 + i)).st != 4)
    && s.flt.unack.all fun e => decide (e.sev < 3)

/-- LAST_SEQ of a stream. -/
def State.lastSeqOf (s : State) (i : Nat) : Nat :=
  (if i < 32 then (s.pv i).released else (s.pa (i - 32)).released).getD 0

/-- The 28 words of a heartbeat (table "Heartbeat payload"); `now'` tells that the module has entered module safe state. -/
def State.beatWords (s : State) (now' : Bool) : List Word :=
  let t := s.twin
  let (swap, req, h) := match t.hand with
    | some x => (x.cause == 0, x.cause != 0 && t.role == 1, x.t)
    | none => (false, false, 0)
  let ack := (t.rxSeq + 4294967295) % 4294967296
  [w32 (at' t.role 24 + at' (b01 t.nack) 20 + at' (b01 swap) 19 + at' (b01 s.fit) 18 + at' (b01 req) 17
      + at' (b01 now') 16 + t.count % 65536),
   w32 ack, w32 (if t.nack then t.rxSeq else 0), w32 (tNs s.now), w32 (tSec s.now), w32 (tSec s.now / 4294967296),
   w32 (tNs h), w32 (tSec h)]
  ++ (List.range 20).map fun k => w32 (s.lastSeqOf (2 * k) + at' (s.lastSeqOf (2 * k + 1)) 16)

/-- A heartbeat leaves on the twin link and on the heartbeat path (R471). -/
def State.sendBeat (s : State) (now' : Bool) : State :=
  let ws := s.beatWords now'
  let s := s.twinOut tHeartbeat (ws.map BitVec.toNat)
  let s := s.sendOn s.beatPort 9 0 false s.myId 0 false ws
  s.onTwin fun t => { t with count := (t.count + 1) % 65536, nack := false }

/-! ### Leaving the pair -/

/-- A channel stops at once, and its armed sets fail (R76, R492, R525). -/
def State.haltChan (s : State) (c : Nat) : State :=
  let h := s.ch c
  if h.st = 0 then s
  else
    ((s.onCh c fun h => { h with st := 0, last := h.frame, needF := h.nextFrame, needR := 0 }).event 0x0401 c (chanVec c) [0, h.frame.getD 0, nsUp h.d]).failChan c

/-- A module leaves the pair: a standby stops its channels; mirrored commands are no longer awaited (R468, R492). -/
def State.unpair (s : State) : State :=
  let s := if 2 ≤ s.twin.role then (List.range 16).foldl State.haltChan s else s
  let s := ((s.causeOff 0x0D 0x02).causeOff 0x0D 0x05).causeOff 0x0D 0x06
  let s := s.onTwin fun t =>
    { t with link := none, path := none, hand := none, takeover := none, nextSwap := none, mirrors := [], sent := []
             issues := [], shadows := [], partnerFit := false, nextRow := [] }
  -- a TWIN_SWAP that runs is abandoned with the pair
  (s.complete 0x0D02 0 .badState [0]).twinGo 0

/-! ### Handover and take-over (R482 to R490) -/

/-- Media packets that a test on stream and packet picks leave the queues unsent. -/
def State.dropMedia (s : State) (p : Packet → Bool) : State :=
  ((List.range 40).flatMap fun i => [i, 64 + i]).foldl (fun s q =>
    s.onQueue q fun y => { y with frames := y.frames.filter fun f => match f.content with | .media k => !p k | _ => true }) s

/-- Packets that the partner has released, by its LAST_SEQ, leave a standby's queues (R405). -/
def State.dropReleased (s : State) : State :=
  s.dropMedia fun k => decide ((tab s.twin.lastSeq k.stream + 65536 - k.seq) % 65536 < 32768)

/-- The first row of each running channel whose issue time lies at least 1 ms after a time (R489). -/
def State.swapRows (s : State) (t : Nat) : List (Nat × Nat × Nat) :=
  ((List.range 16).filter s.runs).filterMap fun c =>
    let h := s.ch c
    match h.cfg with
    | none => none
    | some g =>
      let rows := (List.range 64).flatMap fun k => (List.range g.ctuRows).map fun r => (h.frame.getD 0 + k, r)
      (rows.find? fun (f, r) => match s.predictStart c f r with
        | some b => decide (t + msU ≤ s.issueTime c b)
        | none => false).map fun (f, r) => (c, f, r)

/-- H of a swap: the release time of the first packet of the swap row that is released first, S + D (R33, R489). -/
def State.swapTime (s : State) (rows : List (Nat × Nat × Nat)) : Nat :=
  (minBy id (rows.filterMap fun (c, f, r) => (s.predictStart c f r).map (· + (s.ch c).d))).getD (s.now + 2 * msU)

/-- Gratuitous ARP and Neighbour Advertisements for the source addresses of the templates of a path (R407). -/
def State.announce (s : State) : State :=
  let tmpls := (s.pkg.video.flatMap (·.tmpl) ++ s.pkg.audio.flatMap (·.tmpl)).filterMap id
  let srcs := (tmpls.map fun t =>
    let v6 := bit (t.w 2) 21
    (fld (t.w 2) 20 20, v6, if v6 then [t.w 8, t.w 9, t.w 10, t.w 11] else [t.w 11])).eraseDups
  srcs.foldl (fun s (p, v6, a) =>
    s.enqueue (64 * p + 42) { len := if v6 then 90 else 64, release := s.now, content := .reply (if v6 then 6 else 5) a }) s

/-- Take-over starts at the standby: causes 0 partner lost, 1 TAKEOVER_NOW, 2 and 3 a handover time (R473, R482, R483). -/
def State.startTakeover (s : State) (cause : Nat) : State :=
  if s.twin.takeover.isSome || s.twin.role < 2 then s
  else (s.onTwin fun t => { t with takeover := some (s.clk, cause, t.role == 3), hand := none }).announce

/-- Rows in flight: issued by the partner and not applied (R483). -/
def State.inFlight (s : State) : List IssueRec := s.twin.issues

/-- The tasks of a row in flight are redone at priority 6 with the words of their issue record (R485). -/
def State.redo (s : State) (x : IssueRec) : State :=
  let s := s.adopt x 0
  (s.rowTasksOf x.chan x.frame x.row).foldl (fun s t =>
    if t.skip then s.skipTask t.id 3 else s.submit 14 (s.taskDesc t 6)) s

/-- The new active module continues the capture-time schedule of the failed one (R484). -/
def State.continueSchedule (s : State) : State :=
  s.twin.newest.foldl (fun s (c, f, r, start) =>
    match s.row? c f r with
    | some x => if x.capT.isSome then
        s.onTwin fun t => { t with shift := upd t.shift c (· + ((start : Int) - x.start)) } else s
    | none => s) s

/-- Packets that may have left twice: those after LAST_SEQ that were due before take-over began. Which of them the
failed module still sent is not known to this module and free (R405). -/
def State.sentTwice (s : State) (began : Nat) : Nat :=
  let due := s.now - (s.clk - began) * s.time.addend
  let n := sumNat ((List.range 40).map fun i =>
    ((s.queue i).frames.filter fun f => match f.content with | .media _ => decide (f.release < due) | _ => false).length)
  s.freeVal 405 n % (n + 1)

/-- A new GDR period starts in every running channel at its first frame boundary, with the effect of CH_REFRESH MODE 0
(R481); TWIN:0x07 lasts until it completes. -/
def State.refreshAll (s : State) : State :=
  ((List.range 16).filter s.runs).foldl (fun s c =>
    let h := s.ch c
    match h.cfg with
    | some g =>
      if g.struct = 2 then s
      else
        (s.onCh c fun h => { h with refreshes := h.refreshes ++ [(h.nextFrame, false)] }).onTwin fun t =>
          { t with converge := t.converge ++ [(c, h.nextFrame + h.gdrP * h.phases)] }
    | none => s) (s.onTwin fun t => { t with converge := [] })

/-- Take-over ends: the module is ACTIVE (R481, R483 to R485, R405). -/
def State.endTakeover (s : State) : State :=
  match s.twin.takeover with
  | none => s
  | some (began, cause, locked) =>
    let twice := if cause ≤ 1 then s.sentTwice began else 0
    let flight := s.inFlight
    let s := s.drawn.continueSchedule
    let s := (flight.foldl State.redo s).onTwin fun t =>
      { t with takeover := none, issues := [], shadows := [], switches := t.switches + 1, nextRow := []
               nextSwap := if t.swapPeriod = 0 then none else some (s.clk + t.swapPeriod * 60 * secC) }
    let s := ((s.causeOff 0x0D 0x05).causeOff 0x0D 0x06).twinGo 1
    let s := if cause ≤ 1 then s.raise 0x0D 0x03 else s
    let s := if locked then (s.raiseOn 0x0D 0x07).refreshAll else s
    let s := if twice = 0 then s else s.raise 0x0A 0x03
    s.event 0x0D02 0xFF 5 [cause, flight.length, twice, (s.clk - began) / usC]

/-- The active module asks for a switch-over at a time 20 us from now (R482): causes 2 SEVERE fault, 3 TWIN_SWAP. A pending
swap is abandoned (R491). -/
def State.requestSwitch (s : State) (cause : Nat) : State :=
  if s.twin.role != 1 || s.twin.hand.any (fun h => h.cause != 0) then s
  else (s.onTwin fun t => { t with hand := some ⟨s.now + 20 * usU, cause, [], none, cause == 3⟩ }).raise 0x0D 0x04

/-- A swap is proposed (R489). -/
def State.proposeSwap (s : State) (cmd : Bool) : State :=
  let rows := s.swapRows s.now
  s.onTwin fun t => { t with hand := some ⟨s.swapTime rows, 0, rows, some s.clk, cmd⟩ }

/-- The result of TWIN_SWAP: the swap row of CH0, or of the lowest running channel. -/
def Handover.row (h : Handover) : Nat := match minBy (·.1) h.rows with | some (_, _, r) => r | none => 0

/-- H of a handover comes at the former active module: it becomes the standby of a swap, or hands over (R482, R487,
R490). -/
def State.handOver (s : State) (h : Handover) : State :=
  let s := s.onTwin fun t =>
    { t with hand := none, sendsTo := h.t, nextSwap := none
             switches := if h.cause = 0 then t.switches else t.switches + 1
             swaps := if h.cause = 0 then t.swaps + 1 else t.swaps }
  let s := s.dropMedia fun k => decide (h.t ≤ k.release)
  let s := s.complete 0x0D02 0 .ok [h.row]
  if h.cause = 0 then s.twinGo 2
  else (s.onTwin fun t => { t with handed := true, link := none, path := none, sent := [], mirrors := [] }).twinGo 0

/-- H comes at the standby: of a swap it is ACTIVE, and rows before the swap row are no longer its own to issue (R490); of
a switch-over take-over starts (R483). -/
def State.takeRole (s : State) (h : Handover) : State :=
  if h.cause != 0 then
    (s.dropMedia fun k => decide (k.release < h.t)).startTakeover h.cause
  else
    let s := s.onTwin fun t =>
      { t with hand := none, swaps := t.swaps + 1, nextRow := h.rows
               nextSwap := if t.swapPeriod = 0 then none else some (s.clk + t.swapPeriod * 60 * secC) }
    let s := s.dropMedia fun k => decide (k.release < h.t)
    let theirs (r : RowRec) : RowRec :=
      match h.rows.find? (fun x => x.1 == r.chan) with
      | some (_, f, n) => if rowBefore r.frame r.row f n then { r with issued := true, readied := true } else r
      | none => r
    let s := s.onEnc fun e => { e with rows := e.rows.map theirs }
    (s.twinGo 1).event 0x0D02 0xFF 5 [4, 0, 0, 0]

/-! ### A partner is heard, lost, or asks (R472, R473, R482, R489) -/

/-- The partner is lost, both paths being lost. -/
def State.partnerLost (s : State) : State :=
  let s := s.causeOff 0x0D 0x02
  if s.twin.role = 1 then (s.raiseOn 0x0D 0x01).unpair
  else if 2 ≤ s.twin.role then (s.onTwin fun t => { t with hand := none }).startTakeover 0
  else s

/-- The partner asks for a switch-over at H. Whether for a SEVERE fault or for TWIN_SWAP no heartbeat tells: that is free
(R471, R482). -/
def State.switchAsked (s : State) (t : Nat) : State :=
  let h : Handover := ⟨t, if s.freeBit 482 0 then 3 else 2, [], none, false⟩
  ((s.drawn).onTwin fun x => { x with hand := some h }).raise 0x0D 0x04

/-- What a heartbeat of the partner says is acted on once, whichever path brings it first. -/
def State.hearBeat (s : State) (ws : List Word) : State :=
  let w (k : Nat) : Word := ws.getD k 0
  let w0 := w 0
  if s.twin.seen = some (fld w0 15 0) then s
  else
    let hand := mkTime ((w 7).toNat + tSec s.now / 4294967296 * 4294967296) (w 6).toNat 0
    let s := s.onTwin fun t =>
      { t with
        seen := some (fld w0 15 0), partnerSt := fld w0 31 24, partnerFit := bit w0 18
        lastSeq := (List.range 40).map fun i => let x := w (8 + i / 2); if i % 2 = 0 then fld x 15 0 else fld x 31 16
        sent := t.sent.filter fun f => !seqFrom (w 1).toNat f.seq }
    let s := if bit w0 20 then s.resend fun f => seqFrom f.seq (w 2).toNat else s
    let s := if 2 ≤ s.twin.role then s.dropReleased else s
    if s.twin.role = 0 then s
    else if fld w0 31 24 = 0 && !bit w0 16 then s.unpair
    else if bit w0 16 && 2 ≤ s.twin.role then s.startTakeover 1
    else if bit w0 17 && 2 ≤ s.twin.role then
      if s.twin.hand.any (fun h => h.cause != 0) then s
      else
        s.switchAsked hand
    else if bit w0 19 then
      if s.twin.role = 1 then
        match s.twin.hand with
        | some h =>
          if h.cause = 0 && h.asked.any (fun t => decide (s.clk ≤ t + 100 * usC)) then
            s.onTwin fun t => { t with hand := some { h with asked := none } }
          else s
        | none => s
      else if s.fit && s.twin.hand.isNone then
        let sent := mkTime ((w 4).toNat + fld (w 5) 15 0 * 4294967296) (w 3).toNat 0
        s.onTwin fun t => { t with hand := some ⟨hand, 0, s.swapRows sent, none, false⟩ }
      else s
    else s

/-- A valid heartbeat arrives on a path: the path is renewed (R472). -/
def State.beatIn (s : State) (viaLink : Bool) (ws : List Word) : State :=
  let s := s.onTwin fun t => if viaLink then { t with link := some s.clk } else { t with path := some s.clk }
  let s := if s.twin.link.isSome && s.twin.path.isSome then s.causeOff 0x0D 0x02 else s
  s.hearBeat ws

end Sys2Proof.Machine
end

