-- ==== Sys2Proof/Machine/Discard.lean ====
section
/-!
DEFINITION. Configuration that a unit loses as a whole: that which a step below READY discards (R551), and that of the pair
on a module which becomes the standby (R467, R468).
-/
namespace Sys2Proof.Machine

/-- Channels with their rate control and self-check, input processors, composition and layers, surfaces, return feeds,
audio ports, packaging and hook bindings are discarded, with their flows and their tasks (R551). -/
def State.discardConfig (s : State) : State :=
  let s := s.onEnc fun e =>
    { e with
      chans := List.replicate 16 {}, rows := [], tasks := [], streams := List.replicate 32 {}, bands := []
      groups := List.replicate 8 {}, dones := List.replicate 4 ([], false), reports := [], workers := []
      share := none, shareGot := true, shareDue := none, sums := [], asked := 0, answered := 0, output := []
      engines := e.engines.map fun x => { x with path := none } }
  let s := s.onCap fun c => { c with ips := List.replicate 8 {} }
  let s := s.onComp fun c => { c with chans := List.replicate 16 {} }
  let s := s.onBlit fun b => { b with surfs := [] }
  let s := s.onDec fun d =>
    { d with checks := List.replicate 16 {}, streams := List.replicate 32 {}, recs := [], feeds := List.replicate 8 {} }
  let s := s.onAud fun _ => {}
  let s := s.onPkg fun _ => {}
  let s := s.onDip fun d =>
    { d with hooks := [], starts := [], dips := (List.range 8).map fun k =>
        let x := tab d.dips k
        if k < 6 then { x with windows := [], packing := none } else x }
  let s := s.onDs fun d =>
    { d with
      flows := d.flows.filter (·.2.host)
      pool := d.pool.filter fun e => e.host.isSome, held := []
      units := (List.range 42).map fun u =>
        let x := tab d.units u
        if d.pool.any fun e => e.host.isNone && x.holds == some e.key then { x with holds := none } else x }
  -- causes that the discarded units held present
  let s := s.onFlt fun f => { f with causes := f.causes.filter fun c => 
    (c.cls == 8 && c.code == 7) || !(([0x03, 0x06, 0x07, 0x08, 0x09, 0x0A] : List Nat).contains c.cls) }
  s.dropMedia fun _ => true

/-- The configuration of the pair: groups 0x02 to 0x0A, and group 0x0B but PORT_CONFIG and PTP (R467, R468). -/
def State.clearPair (s : State) : State :=
  let s := s.discardConfig
  let s := s.onCap fun _ => {}
  let s := s.onCvu fun v => { v with ctxs := v.ctxs.filter fun c => decide (8 ≤ c.1) }
  let s := s.onDip fun d =>
    { d with staging := [], load := none, dips := d.dips.map fun x => { x with progs := [], windows := [] } }
  let s := s.onNet fun n =>
    { n with
      queues := (List.range 256).map fun q => { Queue.reset q with frames := (tab n.queues q).frames, sent := (tab n.queues q).sent }
      ports := (List.range 4).map fun p =>
        { tab n.ports p with policers := Policer.reset p, pending := List.replicate 256 0, gates := none, nextGates := none } }
  let s := s.onHost fun h => { h with armed := [], openId := none, openCmds := [] }
  s.setLanes

end Sys2Proof.Machine
end

