-- ==== Sys2Proof/Machine/Twin.lean ====
section
/-!
DEFINITION. Twin operation: the rows of chapter 16 but TWIN_MIRROR_RX, SKOV_HEARTBEAT_RX of chapter 17, and the commands of
group 0x0D.
-/
namespace Sys2Proof.Machine

/-! ### Reception on the twin link (R469, R470) -/

/-- The bytes of a frame: its header words and payload, little-endian as those of R127. -/
def twinBytes (f : TwinFrame) : List Byte :=
  leBytes 4 f.h0.toNat ++ leBytes 4 f.h1.toNat ++ leBytes 4 f.h2.toNat ++ leBytes 4 f.h3.toNat ++ f.payload

/-- A frame of a type arrives: discarded while the lanes are not aligned, after a CRC failure, a repeated alive value or,
but for a heartbeat, an unexpected SEQ, which sets NACK (R128, R469, R470). A frame that does not hold its LENGTH fails its CRC
(DEDUCED, log entry 73). -/
def twinIn (s : State) (f : TwinFrame) (type : Nat) : State × Bool :=
  let s := s.pass f.wait
  if !s.twin.aligned || fld f.h0 7 0 != type || (s.twin.role = 0 && s.twin.pairing.isNone) then (s, false)
  else
    let whole := fld f.h0 31 16 == f.payload.length
    let (x, found) := (s.cvu.ctx 9).check (twinBytes f) (if whole then f.crc.toNat else 4294967296)
    let s := s.useCtx 9 x
    match found with
    | .crcFail => (s.onTwin fun t => { t with nack := true }, false)
    | .again => (s, false)
    | _ =>
      if type = tHeartbeat then (s, true)
      else if f.h1.toNat = s.twin.rxSeq then
        (s.onTwin fun t => { t with rxSeq := (t.rxSeq + 1) % 4294967296, nack := false }, true)
      else (s.onTwin fun t => { t with nack := true }, false)

/-- The little-endian words of a payload. -/
def payloadWords (l : List Byte) : List Word := (List.range (l.length / 4)).map fun k => w32 (leNat ((l.drop (4 * k)).take 4))

/-- Channel, frame and row of a frame's header. -/
def rowOfFrame (f : TwinFrame) : Nat × Nat × Nat := (fld f.h2 26 23, f.h3.toNat, fld f.h2 9 0)

/-- TWIN_LINK_AM_BLOCK: an alignment-marker position of a twin lane passes, `since` blocks after the lane's marker before, with the
block that stood in it (R125, R126, R469). The LINK_ID is the sender's TWIN_SEL; a lane runs at 32.0 Gb/s. -/
def execTwinLinkAmBlock (wait lane since sync lo hi before : Nat) (s : State) : Host.Outcome State Fault Refusal :=
  let s := s.pass wait
  let block : WlBlock := ⟨sync, lo, hi, before⟩
  if 3 < lane then .next s
  else
    let there := blockType block == some 0xD2
    let (count, fine) := markerOf block s.twin.marks 2 lane since (b01 (!s.selB)) 4 s.raw
    let right := there && fine
    let s := s.onTwin fun t =>
      { t with good := upd t.good lane fun n => if right then min 2 (n + 1) else 0
               bad := upd t.bad lane fun n => if right then 0 else n + 1
               marks := if there then upd t.marks lane fun _ => some (count, s.raw) else t.marks }
    .next (if !s.twin.aligned && s.twin.good.all (2 ≤ ·) && s.twin.marks.all (fun m => m.any (·.1 == count)) then
        s.onTwin fun t => { t with aligned := true }
      else if s.twin.aligned && 3 ≤ tab s.twin.bad lane then
        s.onTwin fun t => { t with aligned := false, good := [0, 0, 0, 0], bad := [0, 0, 0, 0] }
      else s)

/-! ### Heartbeats -/

/-- TWIN_HEARTBEAT_TX: the clock runs on to the next heartbeat of a paired module, every 1 us (R471). -/
def execTwinHeartbeatTx (s : State) : Host.Outcome State Fault Refusal :=
  if s.twin.role = 0 then .next s
  else
    let s := s.toClk s.twin.nextBeat
    let safe := s.flt.safe.isSome && s.twin.role == 1
    let s := (s.sendBeat safe).onTwin fun t => { t with nextBeat := s.clk + usC }
    -- the last heartbeat of an active module in safe state carries TAKEOVER_NOW (R482, R525)
    .next (if safe then (s.onTwin fun t => { t with handed := true }).unpair else s)

/-- TWIN_HEARTBEAT_RX: a heartbeat on the twin link (R472). -/
def execTwinHeartbeatRx (f : TwinFrame) (s : State) : Host.Outcome State Fault Refusal :=
  let (s, ok) := twinIn s f tHeartbeat
  .next (if ok && s.twin.role != 0 then s.beatIn true (payloadWords f.payload) else s)

/-- SKOV_HEARTBEAT_RX: a heartbeat of the twin on the heartbeat path (SUB 0), or one of the cluster (SUB 1) (R472, R494,
R505). -/
def execSkovHeartbeatRx (f : SkovFrame) (s : State) : Host.Outcome State Fault Refusal :=
  let (s, h) := skovIn s f
  match h with
  | some h =>
    if h.type != 9 then .next s
    else if h.sub = 0 then
      .next (if s.twin.role != 0 && f.port == s.beatPort && h.src == s.myId then s.beatIn false f.payload else s)
    else .next (clusterBeat s h)
  | none => .next s

/-- The core clock at which a path is lost. -/
def pathEnd (t : Option Nat) : List Nat := match t with | some c => [c + 4 * usC] | none => []

/-- HEARTBEAT_PATH_LOSS: the clock runs on to the end of the 4 us of a path on which no heartbeat has come (R472, R473). -/
def execHeartbeatPathLoss (s : State) : Host.Outcome State Fault Refusal :=
  if s.twin.role = 0 then .next s
  else match minBy id (pathEnd s.twin.link ++ pathEnd s.twin.path) with
  | none => .next s
  | some c =>
    let s := s.toClk c
    let gone (t : Option Nat) : Bool := t.any fun x => decide (x + 4 * usC ≤ s.clk)
    let s := s.onTwin fun t =>
      { t with link := if gone t.link then none else t.link, path := if gone t.path then none else t.path }
    .next (if s.twin.link.isNone && s.twin.path.isNone then s.partnerLost
      else if s.hasCause 0x0D 0x02 then s else s.raiseOn 0x0D 0x02)

/-- TAKEOVER_COMPLETE: take-over ends, at the latest 6 us after its start (R483). -/
def execTakeoverComplete (wait : Nat) (s : State) : Host.Outcome State Fault Refusal :=
  match s.twin.takeover with
  | none => .next s
  | some (began, _, _) => .next (s.toClk (min (s.clk + wait) (max s.clk (began + 6 * usC)))).endTakeover

/-- TWIN_RESEND_TIMEOUT: the clock runs on to 20 us after the sending of a frame that is not acknowledged (R470). -/
def execTwinResendTimeout (s : State) : Host.Outcome State Fault Refusal :=
  if s.twin.role = 0 then .next s
  else match minBy (·.clk) s.twin.sent with
  | none => .next s
  | some f =>
    let s := s.toClk (f.clk + 20 * usC)
    .next (s.resend fun f => decide (f.clk + 20 * usC ≤ s.clk))

/-! ### The siphon at the standby (R474 to R477) -/

/-- Takes part in the siphon as receiver: a standby, or the new active module of a swap for the rows before it. -/
def State.siphons (s : State) : Bool := s.twin.role != 0

/-- TWIN_ISSUE_RX: words 0 to 6 of a row's task records are held (R474). -/
def execTwinIssueRx (f : TwinFrame) (s : State) : Host.Outcome State Fault Refusal :=
  let (s, ok) := twinIn s f tIssue
  let (c, fr, r) := rowOfFrame f
  if !ok || !s.siphons || 15 < c then .next s
  else
    let ws := payloadWords f.payload
    let l := (List.range (ws.length / 7)).map fun k => (ws.drop (7 * k)).take 7
    let x := (s.issue? c fr r).getD ⟨c, fr, r, []⟩
    .next (s.onTwin fun t =>
      { t with issues := (t.issues.filter fun y => !(y.chan == c && y.frame == fr && y.row == r)) ++
                  [{ x with tasks := x.tasks ++ l }] })

/-- A part is collected. -/
def State.collect (s : State) (f : TwinFrame) (slice : Bool) (st : Option RowState) : State :=
  let (c, fr, r) := rowOfFrame f
  if !s.siphons || 15 < c then s
  else
    let h := s.shadow c fr r
    let p : Part := ⟨fld f.h2 22 10, slice, fld f.h2 31 27, f.payload, st⟩
    s.setShadow { h with parts := h.parts.filter (·.part != p.part) ++ [p] }

/-- TWIN_SLICE_RX (R476). -/
def execTwinSliceRx (f : TwinFrame) (s : State) : Host.Outcome State Fault Refusal :=
  let (s, ok) := twinIn s f tSlice
  .next (if ok then s.collect f true none else s)

/-- TWIN_ROW_STATE_RX (R476). -/
def execTwinRowStateRx (f : TwinFrame) (st : RowState) (s : State) : Host.Outcome State Fault Refusal :=
  let (s, ok) := twinIn s f tRowState
  .next (if ok then s.collect f false (some st) else s)

/-- TWIN_ROW_END_RX: the record may be complete and is then applied, also in the clock of its apply deadline or of a
take-over (R476, R491). -/
def execTwinRowEndRx (f : TwinFrame) (s : State) : Host.Outcome State Fault Refusal :=
  let (s, ok) := twinIn s f tRowEnd
  let (c, fr, r) := rowOfFrame f
  if !ok || !s.siphons || 15 < c then .next s
  else
    let ws := payloadWords f.payload
    .next (s.setShadow { s.shadow c fr r with fin := some ((ws.getD 0 0).toNat, (ws.getD 1 0).toNat) })

/-- The apply deadline of a row: S + 4 x T_row + X (R477). -/
def State.applyBy (s : State) (r : RowRec) : Nat := r.start + 4 * s.tRowU r.chan + (s.ch r.chan).x

/-- Rows of a standby's running channels that are not applied. -/
def State.unapplied (s : State) : List RowRec :=
  if s.twin.role < 2 then []
  else s.enc.rows.filter fun r => r.needed && r.capT.isSome && !r.committed && s.runs r.chan && !s.issuesRow r.chan r.frame r.row

/-- APPLY_DEADLINE: the clock runs on to the earliest apply deadline of a row that is not applied; it is discarded (R477). -/
def execApplyDeadline (s : State) : Host.Outcome State Fault Refusal :=
  match minBy s.applyBy s.unapplied with
  | none => .next s
  | some r =>
    let s := s.toTime (s.applyBy r)
    let s := s.onRow r.chan r.frame r.row fun x => { x with issued := true, readied := true, committed := true, slot := none }
    let s := s.onTwin fun t =>
      { t with
        discarded := t.discarded + 1
        issues := t.issues.filter fun y => !(y.chan == r.chan && y.frame == r.frame && y.row == r.row)
        shadows := t.shadows.filter fun y => !(y.chan == r.chan && y.frame == r.frame && y.row == r.row) }
    .next (if s.hasCause 0x0D 0x05 then s else s.raiseOn 0x0D 0x05).lockstep

/-! ### Handover, swaps (R482, R489 to R491) -/

/-- HANDOVER_TIME: the clock runs on to H of a handover that is agreed or requested. -/
def execHandoverTime (s : State) : Host.Outcome State Fault Refusal :=
  match s.twin.hand with
  | none => .next s
  | some h =>
    if h.asked.isSome then .next s
    else
      let s := s.toTime h.t
      .next (if s.twin.role = 1 then s.handOver h else if 2 ≤ s.twin.role then s.takeRole h
        else s.onTwin fun t => { t with hand := none })

/-- SWAP_PROPOSE: the clock runs on to the next proposal of the active module; it is left out while a handover is under
way. -/
def execSwapPropose (s : State) : Host.Outcome State Fault Refusal :=
  match s.twin.nextSwap with
  | none => .next s
  | some c =>
    if s.twin.role != 1 then .next s
    else
      let s := s.toClk c
      let next := if s.twin.swapPeriod = 0 then none else some (s.clk + s.twin.swapPeriod * 60 * secC)
      let s := s.onTwin fun t => { t with nextSwap := next }
      .next (if s.twin.hand.isSome then s else s.proposeSwap (s.isRunning 0x0D02 0))

/-- SWAP_ANSWER_TIMEOUT: the clock runs on to 100 us after a proposal without an answer: deferred by 1 s (R489). -/
def execSwapAnswerTimeout (s : State) : Host.Outcome State Fault Refusal :=
  match s.twin.hand.bind (·.asked) with
  | none => .next s
  | some t =>
    let s := s.toClk (t + 100 * usC)
    .next ((s.onTwin fun x => { x with hand := none, nextSwap := some (s.clk + secC) }).raise 0x0D 0x0A)

/-! ### Pairing (R466, R467, R479) -/

/-- No configured channel has a task longer than 100 us (R200, R466). -/
def State.tasksShort (s : State) : Bool :=
  (List.range 16).all fun c => match s.maxTaskTime c with | some m => m.le ⟨100 * usU, 1⟩ | none => true

/-- TWIN_PAIR ends without a pair. -/
def State.pairFails (s : State) (code : Nat) (st : Status) : State :=
  ((s.onTwin fun t => { t with pairing := none }).raise 0x0D code).complete 0x0D00 0 st [0]

/-- The first condition of R466 that fails: its status and fault code. -/
def State.pairCheck (s : State) (p : Partner) : Option (Status × Nat) :=
  let f := p.finding
  let runs := s.anyRuns && !s.twin.handed
  if !(f.chain && f.signature && f.digest == s.twin.pin) then some (.denied, 0x09)
  else if !p.sameFw || !p.sameRun || s.pw.st != 4 || p.leader
      || ((List.range 4).any fun a => (s.ap a).st != 0 && (s.ap a).cfg.leader) || p.long || !s.tasksShort then
    some (.badState, 0x08)
  else if !p.siphon || !s.siphonOk then some (.noResource, 0x08)
  else if runs && p.runs then some (.badState, 0x08)
  else none

/-- The pair forms: the module with a running channel is active, else module A (R467). -/
def State.pairForms (s : State) (p : Partner) : State :=
  let runs := s.anyRuns && !s.twin.handed
  let active := runs || (!p.runs && !s.selB)
  let s := s.causeOff 0x0D 0x01
  let s := s.onTwin fun t =>
    { t with
      pairing := none, partnerB := p.selB, partnerSerial := p.serial, handed := false, link := some s.clk, path := some s.clk
      nextBeat := s.clk, sent := [], nack := false, hand := none, takeover := none, seen := none, issues := [], shadows := []
      newest := [], nextRow := [], mirrors := [], shift := if active then t.shift else List.replicate 16 0
      startAt := s.now + msU
      nextSwap := if active && t.swapPeriod != 0 then some (s.clk + t.swapPeriod * 60 * secC) else none }
  let s := if active then
      -- the transfer of the configuration: running channels, each with its newest frame and that frame's row start
      ((List.range 16).filter s.runs).foldl (fun s c =>
        let f := (s.ch c).frame.getD 0
        s.sendTwin tMirror 0 c 0 0 f [(s.predictStart c f 0).getD s.now / nsU, nsUp (s.ch c).d, b01 (s.ch c).x150]) (s.twinGo 1)
    else s.clearPair.lockstep
  s.complete 0x0D00 0 .ok [s.twin.role]

/-- TWIN_SPDM_RX: the partner's part of the pairing is known (R466). -/
def execTwinSpdmRx (f : TwinFrame) (p : Partner) (s : State) : Host.Outcome State Fault Refusal :=
  let (s, ok) := twinIn s f tSpdm
  match ok, s.twin.pairing with
  | true, some _ => .next (match s.pairCheck p with
      | some (st, code) => s.pairFails code st
      | none => s.pairForms p)
  | _, _ => .next s

/-- PAIRING_TIMEOUT: the clock runs on to 1 s after a TWIN_PAIR (R466). -/
def execPairingTimeout (s : State) : Host.Outcome State Fault Refusal :=
  match s.twin.pairing with
  | some c => .next ((s.toClk (c + secC)).pairFails 0x08 .timeout)
  | none => .next s

/-- MIRROR_TIMEOUT: the clock runs on to 2 ms after a mirrored command or set that is not answered (R468). -/
def execMirrorTimeout (s : State) : Host.Outcome State Fault Refusal :=
  match minBy (·.clk) s.twin.mirrors with
  | some m => .next ((((s.toClk (m.clk + 2 * msC)).raise 0x0D 0x08).unpair).sendBeat false)
  | none => .next s

/-! ### Commands of group 0x0D (R492) -/

/-- TWIN_PAIR (0x0D00). An active module without a partner may pair again (R487). -/
def hTwinPair (c : Vx) (s : State) : Res :=
  let m := (c.w 3).toNat
  let alone := s.twin.role = 0 || (s.twin.role = 1 && s.twin.link.isNone && s.twin.path.isNone)
  refuseRsv c [(2, msk 0 0)] <|
  refuse (decide (1440 < m) && m != 0xFFFFFFFF) .badParam 3 <|
  refuse (!alone) .badState noWord <|
  refuse s.twin.pairing.isSome .busy noWord <|
  let s := s.onTwin fun t =>
    { t with pairing := some s.clk, hbM1 := bit (c.w 2) 0, swapPeriod := if m = 0xFFFFFFFF then 60 else m
             pin := digestOf c 4, rxSeq := 0, txSeq := 0, sent := [] }
  .acc ((s.start 0x0D00 c.tag 0).sendTwin tSpdm 0 0 0 0 0 [])

/-- TWIN_UNPAIR (0x0D01): a last heartbeat tells the partner. -/
def hTwinUnpair (_ : Vx) (s : State) : Res :=
  refuse (s.twin.role == 0) .badState noWord <|
  .ok [] ((s.unpair).sendBeat false)

/-- TWIN_SWAP (0x0D02). -/
def hTwinSwap (c : Vx) (s : State) : Res :=
  let switch := bit (c.w 2) 0
  refuseRsv c [(2, msk 0 0)] <|
  refuse (s.twin.role != 1) .badState noWord <|
  refuse (!switch && !s.twin.partnerFit) .badState noWord <|
  refuse (s.isRunning 0x0D02 0) .busy noWord <|
  let s := s.start 0x0D02 c.tag 0
  .acc (if switch then s.requestSwitch 3 else s.proposeSwap true)

/-- TWIN_QUERY (0x0D03). -/
def hTwinQuery (_ : Vx) (s : State) : Res :=
  let t := s.twin
  let fit := if 2 ≤ t.role then s.fit else t.partnerFit
  .ok [t.role, b01 t.link.isSome + 2 * b01 t.path.isSome + 4 * b01 fit, t.applied.toNat, t.discarded.toNat, t.switches.toNat,
    t.swaps.toNat, (match t.nextSwap with | some c => quot 492 (c - s.clk) secC | none => 0), t.partnerSerial.toNat] s

end Sys2Proof.Machine
end

