-- ==== Sys2Proof/Machine/Faults.lean ====
section
/-!
DEFINITION. The fault hub (R522 to R538, R545, R546 of chapter 18): severities, logging and reactions, safe states, the
FH_ registers that the host writes, memory errors, and the commands FLT_.
-/
namespace Sys2Proof.Machine

/-! ### Severities (R522, R546) -/

/-- The codes of a class with their default severities (table "Consolidated fault index"). -/
def faultCodes : Nat → List (Nat × Nat)
  | 0x01 => [(0x01, 1), (0x02, 0), (0x03, 2), (0x04, 1), (0x05, 1), (0x06, 0), (0x07, 1), (0x08, 2), (0x09, 1), (0x0A, 0), (0x10, 2), (0x11, 1), (0x12, 1), (0x13, 1), (0x14, 0), (0x15, 0), (0x16, 0)]
  | 0x02 => [(0x01, 1), (0x02, 2), (0x03, 1), (0x04, 1), (0x05, 0), (0x06, 2), (0x07, 2), (0x08, 3), (0x09, 0), (0x0A, 2), (0x0B, 1), (0x0C, 0)]
  | 0x03 => [(0x01, 0), (0x02, 1), (0x03, 1), (0x04, 2), (0x05, 2), (0x06, 3), (0x07, 1), (0x08, 1)]
  | 0x04 => [(0x01, 1), (0x02, 2), (0x03, 0)]
  | 0x05 => [(0x01, 1), (0x02, 2), (0x03, 1), (0x04, 2), (0x05, 0), (0x06, 2), (0x07, 3), (0x08, 0), (0x09, 1)]
  | 0x06 => [(0x01, 1), (0x02, 0), (0x03, 0), (0x04, 1), (0x05, 0), (0x06, 2), (0x07, 2), (0x08, 0)]
  | 0x07 => [(0x01, 2), (0x02, 3), (0x03, 2), (0x04, 2), (0x05, 1)]
  | 0x08 => [(0x01, 0), (0x02, 0), (0x03, 0), (0x04, 1), (0x05, 1), (0x06, 1), (0x07, 2), (0x08, 0), (0x09, 1), (0x0A, 0)]
  | 0x09 => [(0x01, 1), (0x02, 1), (0x03, 0), (0x04, 2), (0x05, 1)]
  | 0x0A => [(0x01, 2), (0x02, 1), (0x03, 0)]
  | 0x0B => [(0x01, 2), (0x02, 1), (0x03, 0), (0x04, 0), (0x05, 2), (0x06, 1), (0x07, 0), (0x08, 0), (0x09, 0)]
  | 0x0C => [(0x01, 1), (0x02, 1), (0x03, 0), (0x04, 2), (0x05, 0)]
  | 0x0D => [(0x01, 2), (0x02, 1), (0x03, 2), (0x04, 1), (0x05, 2), (0x06, 2), (0x07, 3), (0x08, 2), (0x09, 3), (0x0A, 0), (0x0B, 0)]
  | 0x0E => [(0x01, 2), (0x02, 2), (0x03, 1), (0x04, 1), (0x05, 0), (0x06, 1), (0x07, 1), (0x08, 1), (0x09, 1), (0x0A, 0), (0x0B, 2), (0x0C, 2)]
  | 0x0F => [(0x01, 1), (0x02, 0), (0x03, 1), (0x04, 3), (0x05, 0), (0x06, 2), (0x07, 2)]
  | 0x10 => [(0x01, 2), (0x02, 2), (0x03, 2), (0x04, 2), (0x05, 0), (0x06, 1), (0x07, 0)]
  | 0x11 => [(0x01, 0), (0x02, 2), (0x03, 3), (0x04, 0), (0x05, 2)]
  | 0x12 => [(0x01, 2), (0x02, 2), (0x03, 4), (0x04, 2), (0x05, 2)]
  | 0x13 => [(0x01, 2), (0x02, 4), (0x03, 2)]
  | 0x14 => [(0x01, 2), (0x02, 1), (0x03, 1), (0x04, 2)]
  | 0x15 => [(0x01, 2), (0x02, 2), (0x03, 2), (0x04, 0), (0x05, 0), (0x06, 2), (0x07, 2)]
  | 0x16 => [(0x01, 1), (0x02, 1), (0x03, 0), (0x04, 1)]
  | 0x17 => [(0x01, 1), (0x02, 0), (0x03, 1), (0x04, 1), (0x05, 1), (0x06, 1), (0x07, 0)]
  | _ => []

/-- The default severity of a listed code. -/
def defaultSev (cls code : Nat) : Option Nat := alookup (faultCodes cls) code

/-- The configured severity of a code; a code that is not listed is never raised and counts as NOTE. -/
def State.confSev (s : State) (cls code : Nat) : Nat :=
  match alookup s.flt.sevs (cls * 256 + code) with
  | some v => v
  | none => (defaultSev cls code).getD 0

/-! ### ERR_N (R533) -/

/-- ERR_N takes a level; a change shows at the pin. -/
def State.setErr (s : State) (on : Bool) : State :=
  if s.flt.errN == on then s else (s.onFlt fun f => { f with errN := on }).emit .errN [b01 on]

/-- A fault of MAJOR or above starts a pulse, or makes a running one end ERR_WIDTH after this assertion. -/
def State.errPulse (s : State) : State :=
  (s.onFlt fun f => { f with pulseEnd := some (s.clk + f.errWidth * usC) }).setErr true

/-- Without a pulse ERR_N is asserted while ERR_HOLD is 1 or the module is in safe state. -/
def State.errSettle (s : State) : State :=
  s.setErr (s.flt.pulseEnd.isSome || s.flt.errHold || s.flt.safe.isSome)

/-- The severity with which a report is logged now (R529). -/
def State.loggedSev (s : State) (r : Report) : Nat :=
  let conf := s.confSev r.cls r.code
  if conf != 0 && s.flt.unack.any (·.cls == r.cls) then min 4 (conf + 1) else conf

/-- A fault that asserts ERR_N is due to be logged in the present clock (R527, R533). -/
def State.faultNow (s : State) : Bool := s.flt.reports.any fun r => r.clk + 17 == s.clk && decide (2 ≤ s.loggedSev r)

/-- ERR_PULSE_END: the clock runs on to the end of the pulse. A new fault in that clock wins, and the pulse continues
(R533). -/
def execErrPulseEnd (s : State) : Host.Outcome State Fault Refusal :=
  match s.flt.pulseEnd with
  | some c =>
    let s := s.toClk c
    .next (if s.faultNow then s else (s.onFlt fun f => { f with pulseEnd := none }).errSettle)
  | none => .next s

/-! ### Safe states (R115, R524 to R526) -/

/-- SAFE_STATE (table "Fault events"). -/
def State.safeEvt (s : State) (module entered : Bool) (c count : Nat) : State :=
  s.event 0x0F01 0xFF 1 [b01 module + 2 * b01 entered + at' c 8, count]

/-- A channel enters safe output (R524). One that is in it stays, and no longer leaves it where FLT_CLEAR_SAFE had set a frame:
the new fault's cause is judged in its turn (DEDUCED, log entry 52). -/
def State.chanSafe (s : State) (e : SafeEntry) (c : Nat) : State :=
  if s.flt.chSafe.any (·.1 == c) then
    if (alookup s.flt.chLeave c).isNone then s
    else s.onFlt fun f =>
      { f with chLeave := adel f.chLeave c, chSafe := f.chSafe.map fun x => if x.1 = c then (c, e) else x }
  else (s.onFlt fun f => { f with chSafe := f.chSafe ++ [(c, e)] }).safeEvt false true c e.count

/-- The EV pins without SAFE_RUN go to their inactive level (R115). -/
def State.pinsOff (s : State) : State :=
  (List.range 4).foldl (fun s k =>
    let p := tab s.time.pins k
    if p.ends.isNone || p.safeRun then s
    else (s.onTime fun t => { t with pins := upd t.pins k fun p => { p with ends := none } }).emit .ev [k, b01 p.activeLow]) s

/-- No row that has not been issued is issued any more. -/
def State.dropRows (s : State) : State :=
  s.onEnc fun e => { e with rows := e.rows.map fun r => { r with issued := true, readied := true, slot := none } }

/-- A power transition that runs ends at the last state reached (R553); the bring-up to STANDBY is none. -/
def State.stopStep (s : State) (st : Status) : State :=
  match s.pw.step with
  | some x => if x.boot then s else (s.onPw fun p => { p with step := none }).complete 0x0002 0 st
  | none => s

/-- Module safe state (R525). TAKEOVER_NOW goes out with the next heartbeat of an active module. -/
def State.moduleSafe (s : State) (e : SafeEntry) : State :=
  if s.flt.safe.isSome then s
  else
    let s := (List.range 16).foldl State.haltChan s
    let s := (s.dropRows.onFlt fun f => { f with safe := some e }).pinsOff
    (s.setErr true).safeEvt true true 0 e.count

/-! ### Logging (R527 to R531, R534) -/

/-- The four words of a log entry with its log count. -/
def LogEnt.words (e : LogEnt) : List Word :=
  [w32 (at' e.cls 24 + at' e.code 16 + at' (b01 (e.conf < e.sev)) 15 + at' e.sev 12 + at' (b01 e.injected) 11
      + at' e.conf 8 + e.data % 256),
   w32 (at' (tSec e.t / 4294967296 % 65536) 16 + at' (e.chan % 256) 8 + e.count / 256 % 256), w32 (tNs e.t), w32 (tSec e.t)]

/-- The order of logging: source time, then R40. -/
def State.logKey (s : State) (r : Report) : Nat × Nat × Nat := (r.clk, r.t, ((4 - s.confSev r.cls r.code) * 256 + r.cls) * 256 + r.code)

/-- The report that is logged next. -/
def State.nextReport (s : State) : Option Report :=
  let l := sortBy (fun r => (s.logKey r).2.2) s.flt.reports
  minBy (fun r => (s.logKey r).1) (sortBy (fun r => (s.logKey r).2.1) l)

/-- The channel that a fault names; the CHANNEL field of class CHECK holds a CVU (R535). -/
def Report.names (r : Report) : Option Nat := if r.cls = 0x16 || 15 < r.chan then none else some r.chan

/-- The reaction of a logged fault (R523). -/
def State.react (s : State) (r : Report) (sev count : Nat) : State :=
  let e : SafeEntry := ⟨r.cls, r.code, r.data, r.chan, count⟩
  let s := if sev = 0 then s
    else s.eventAt r.t 0x0002 (r.names.getD 0xFF) (if sev < 3 then 2 else 3)
      [at' r.cls 16 + at' r.code 8 + sev, count]
  let s := if sev < 2 then s else s.errPulse
  let s := if sev < 3 then s
    else if s.twin.role = 1 then s.requestSwitch 2
    else if 2 ≤ s.twin.role then s
    else match r.names with
      | some c => s.chanSafe e c
      | none => ((List.range 16).filter s.runs).foldl (State.chanSafe · e) s
  if sev = 4 then (s.moduleSafe e).stopStep .badState else s

/-- The answer to FLT_INJECT, to this host or to a remote requester (R545). -/
def State.injected (s : State) (id count : Nat) : State :=
  match s.flt.injectors.find? (·.1 == id) with
  | some (_, none, tag) =>
    (s.onFlt fun f => { f with injectors := f.injectors.filter (·.1 != id) }).finish (.inject id)
      (rspWords tag 0x0F02 Status.ok.code [w32 count])
  | some (_, some src, tag) =>
    (s.onFlt fun f => { f with injectors := f.injectors.filter (·.1 != id) }).sendCmd 1 src tag
      (rspWords tag 0x0F02 Status.ok.code [w32 count])
  | none => s

/-- A report is logged, with its reaction in the same clock (R527 to R531, R534). -/
def State.logReport (s : State) (r : Report) : State :=
  let conf := s.confSev r.cls r.code
  let sev := s.loggedSev r
  let n := s.flt.logCount.toNat
  let e : LogEnt := ⟨r.cls, r.code, r.data, r.chan, r.t, sev, conf, r.injected, n, s.clk⟩
  let s := s.onFlt fun f =>
    { f with
      reports := f.reports.erase r
      log := aset f.log (n % 256) e
      logCount := f.logCount + 1
      first := if sev != 0 && !f.firstValid then some e else f.first
      firstValid := f.firstValid || sev != 0
      unack := if sev = 0 then f.unack else f.unack ++ [e]
      status := w32 (setBit f.status.toNat r.cls) }
  let s := s.react r sev n
  if r.injected then s.injected r.injectId n else s

/-! ### The registers that the host writes (R528, R530, R531, R533) -/

/-- FH_FIRST_VALID_WRITE: 1 re-arms capture. -/
def execFhFirstValidWrite (value : Word) (s : State) : Host.Outcome State Fault Refusal :=
  .next (if bit value 0 then s.onFlt fun f => { f with firstValid := false } else s)

/-- FH_UNACK_WRITE: 1 acknowledges the entries of a class logged before this clock. -/
def execFhUnackWrite (value : Word) (s : State) : Host.Outcome State Fault Refusal :=
  .next (s.onFlt fun f => { f with unack := f.unack.filter fun e => !(bit value e.cls && decide (e.clk < s.clk)) })

/-- The classes with a cause present, as FH_CAUSE shows them. -/
def FltSt.causeBits (f : FltSt) : Nat := maskOf (f.causes.map (·.cls))

/-- FH_STATUS_WRITE: 1 clears the bit of a class without a present cause. -/
def execFhStatusWrite (value : Word) (s : State) : Host.Outcome State Fault Refusal :=
  .next (s.onFlt fun f => { f with status := f.status &&& ~~~(value &&& ~~~(w32 f.causeBits)) })

/-- FH_CTRL_WRITE: ERR_WIDTH from 1 to 1,000, else unchanged; ERR_HOLD. -/
def execFhCtrlWrite (value : Word) (s : State) : Host.Outcome State Fault Refusal :=
  let w := fld value 9 0
  .next (s.onFlt fun f =>
    { f with errWidth := if w = 0 || 1000 < w then f.errWidth else w, errHold := bit value 16 }).errSettle

/-! ### Memory errors (R537, R538) -/

/-- Raised at most once per second and device. -/
def State.raiseMem (s : State) (code dev : Nat) : State :=
  let k := code * 8 + dev % 8
  if alookup s.flt.memSeen k = some s.second then s
  else (s.raise 0x11 code dev).onFlt fun f => { f with memSeen := aset f.memSeen k s.second }

/-- MEMORY_EDC_ERROR: a transfer of a device failed its EDC; `good` tells that a retry succeeded. A write that succeeds
on retry is not reported (R537). -/
def execMemoryEdcError (wait device : Nat) (write good : Bool) (s : State) : Host.Outcome State Fault Refusal :=
  let s := s.pass wait
  .next (if 7 < device then s
    else if good then (if write then s else s.raiseMem 0x01 device)
    else s.raise 0x11 (if write then 0x03 else 0x02) device)

/-- MEMORY_ECC_ERROR: an in-band error is corrected, or delivered as uncorrectable (R538). -/
def execMemoryEccError (wait device : Nat) (corrected : Bool) (s : State) : Host.Outcome State Fault Refusal :=
  let s := s.pass wait
  .next (if 7 < device then s
    else if corrected then s.raiseMem 0x04 device else s.raise 0x11 0x05 device)

/-! ### Commands of group 0x0F (R522, R532, R545) -/

/-- FLT_SEVERITY (0x0F00). -/
def hFltSeverity (c : Vx) (s : State) : Res :=
  let w := c.w 2
  let cls := fld w 23 16
  let code := fld w 15 8
  let v := fld w 2 0
  refuseRsv c [(2, msk 23 8 + msk 3 0)] <|
  match defaultSev cls code with
  | none => .err .badParam 2
  | some d =>
    refuse (bit w 3 && decide (4 < v)) .badParam 2 <|
    refuse (bit w 3 && d == 4) .denied 2 <|
    let s := if bit w 3 then s.onFlt fun f => { f with sevs := aset f.sevs (cls * 256 + code) v } else s
    .ok [s.confSev cls code, d] s

/-- The cause of the fault that entered a safe state is present. -/
def State.stillCaused (s : State) (e : SafeEntry) : Bool := s.hasCause e.cls e.code e.data e.chan

/-- FLT_CLEAR_SAFE (0x0F01; R532). A channel that does not run leaves at once (DEDUCED, log entry 52). -/
def hFltClearSafe (c : Vx) (s : State) : Res :=
  let w := c.w 2
  let ch := fld w 3 0
  refuseRsv c [(2, msk 8 8 + msk 3 0)] <|
  if bit w 8 then
    match s.flt.safe with
    | none => .err .badState noWord
    | some e =>
      refuse (s.stillCaused e) .badState noWord <|
      .ok [0] (((s.onFlt fun f => { f with safe := none }).errSettle).safeEvt true false 0 e.count)
  else
    match s.flt.chSafe.find? (·.1 == ch) with
    | none => .err .badState 2
    | some (_, e) =>
      refuse (s.stillCaused e) .badState noWord <|
      if s.runs ch then
        let f := s.frameAfter ch (s.now + 30 * usU) 4096 (s.ch ch).nextFrame
        .ok [f] (s.onFlt fun x => { x with chLeave := aset x.chLeave ch f })
      else
        .ok [(s.ch ch).nextFrame] ((s.onFlt fun x => { x with chSafe := x.chSafe.filter (·.1 != ch) }).safeEvt false false ch e.count)

/-- FLT_INJECT (0x0F02): the answer comes once the entry is logged. -/
def hFltInject (c : Vx) (s : State) : Res :=
  let w := c.w 2
  let cls := fld w 23 16
  let code := fld w 15 8
  let ch := fld (c.w 3) 7 0
  refuseRsv c [(2, msk 23 0), (3, msk 7 0)] <|
  refuse (defaultSev cls code).isNone .badParam 2 <|
  refuse (decide (15 < ch) && ch != 0xFF) .badParam 3 <|
  let id := s.flt.injectNext
  .later (.inject id) (s.onFlt fun f =>
    { f with injectNext := id + 1, injectors := f.injectors ++ [(id, none, c.tag)]
             reports := f.reports ++ [⟨cls, code, fld w 7 0, ch, s.now, s.clk, true, id⟩] })

end Sys2Proof.Machine
end

