-- ==== Sys2Proof/Machine/Ptp.lean ====
section
/-!
DEFINITION. The PTP clock (R431 to R444 of chapter 14). Times are in units of 2^-32 ns. What IEEE 1588 defines and the
manual only names (the data-set comparison, the end-to-end delay formula, the timeout of LISTENING) is PRESUMED, log
entry 40.
-/
namespace Sys2Proof.Machine

/-- A change of the clock's record. -/
def State.onPtp (s : State) (f : Ptp → Ptp) : State := s.onNet fun n => { n with ptp := f n.ptp }

/-- Units of a time in tenths of a nanosecond. -/
def tenths (n : Nat) : Nat := roundDiv (n * nsU) 10

/-- Transmit and receive corrections of a port (table "Timestamp corrections" of R433). -/
def State.txCorr (s : State) (p : Nat) : Nat := tenths (if p < 2 then 960 else if (s.port p).fec then 1328 else 582)
def State.rxCorr (s : State) (p : Nat) : Nat := tenths (if p < 2 then 1784 else if (s.port p).fec then 2616 else 847)

/-- The corrected receive stamp of a message whose stamp point passes now (R433). -/
def State.rxStamp (s : State) (p : Nat) : Int := (s.now : Int) - s.rxCorr p

/-- Intervals of a profile in core clocks (table "PTP profiles" of R432): Announce, Sync, Delay_Req. -/
def announceC (profile : Nat) : Nat := if profile = 0 then secC / 4 else 2 * secC
def syncC (profile : Nat) : Nat := if profile = 0 then secC / 8 else secC
/-- The receipt timeout of Announce. -/
def announceOut (profile : Nat) : Nat := 3 * announceC profile

/-- Bytes of the frame of a message: Ethernet, IP and UDP headers, the message, the FCS, at least 64. -/
def ptpLen (ipv6 : Bool) (message : Nat) : Nat := max 64 (14 + (if ipv6 then 40 else 20) + 8 + message + 4)

/-- A message is put into the port's PTP queue. Types: 0 Sync, 1 Delay_Req, 8 Follow_Up, 9 Delay_Resp, 11 Announce. -/
def State.sendPtp (s : State) (type seq message : Nat) (args : List Nat) : State :=
  let g := s.net.ptp.cfg
  s.enqueue (64 * g.port + 40) { len := ptpLen g.ipv6 message, release := s.now, content := .ptp type seq args }

/-- The module's own clock identity and data set. -/
def ownClock : Nat := Config.identity 431 % 2 ^ 64
def PtpCfg.own (g : PtpCfg) : DataSet :=
  ⟨g.prio1, Config.ptpOwn 0, Config.ptpOwn 1, Config.ptpOwn 2, g.prio2, ownClock, 0, ownClock⟩

/-- Lists of numbers in lexicographic order. -/
def lexLt : List Nat → List Nat → Bool
  | a :: as, b :: bs => decide (a < b) || (a == b && lexLt as bs)
  | _, _ => false

/-- A data set is better than another (the default best master clock algorithm). -/
def DataSet.better (a b : DataSet) : Bool :=
  if a.grand = b.grand then lexLt [a.steps, a.sender] [b.steps, b.sender]
  else lexLt [a.prio1, a.cls, a.accuracy, a.variance, a.prio2, a.grand] [b.prio1, b.cls, b.accuracy, b.variance, b.prio2, b.grand]

/-- The servo in force (R438): true for STEP_RATE. -/
def PtpCfg.stepRate (g : PtpCfg) : Bool := if g.servo = 0 then decide (Config.configModules ≤ 64) else g.servo == 1

/-- The clock changes its state; the causes of the state that it leaves end. -/
def State.ptpGo (s : State) (st : Nat) : State :=
  let old := s.net.ptp.st
  let s := if old = 4 && st != 4 then (s.causeOff 0x01 0x10).causeOff 0x01 0x16 else s
  let s := if old = 5 && st != 5 then (s.causeOff 0x01 0x11).causeOff 0x01 0x12 else s
  s.onPtp fun p => { p with st := st }

/-- PTP_STATE: new and old state, leader identity. -/
def State.ptpStateEvt (s : State) (old : Nat) : State :=
  let id := match s.net.ptp.leader with | some l => l.sender | none => 0
  s.event 0x0B02 0xFF 28 ([at' old 4 + s.net.ptp.st] ++ lowHigh id)

/-- PTP_STEP_REQUEST: ACQUISITION, WITHDRAWN, o. -/
def State.ptpRequestEvt (s : State) (withdrawn : Bool) : State :=
  let p := s.net.ptp
  s.event 0x0B03 0xFF 28 ([b01 p.acquisition + 2 * b01 withdrawn] ++ lowHigh (low64 (nsOf p.offset)))

/-- The mean path delay over the last sixteen exchanges (R436). -/
def Ptp.meanDelay (p : Ptp) : Int := quotI 436 (p.delays.foldl (· + ·) 0) (max 1 p.delays.length)

/-- The offset of a Sync: its receive stamp, its corrected origin, the mean path delay and ASYM (R433, R436). -/
def Ptp.offsetOf (p : Ptp) (rx origin : Int) : Int := rx - origin - p.meanDelay - p.cfg.asym * nsU

/-- |o| exceeds THRESH (R442). -/
def Ptp.jumps (p : Ptp) (o : Int) : Bool := decide ((p.cfg.thresh * nsU : Int) < o.natAbs)

/-- An addend num / den units, rounded once, half up (R86). -/
def roundAddend (num : Int) (den : Nat) : Int := (2 * num + den) / (2 * den)

/-- The servo sets the addend, clamped; TIME:0x13 where the loop reaches the limit (R86, R438). Only in PTP mode. -/
def State.servoAddend (s : State) (num : Int) (den : Nat) : State :=
  let want := roundAddend num den
  let got := clampAddend want
  let hit := decide ((got : Int) ≠ want)
  if s.time.mode != 2 then s
  else
    let s := if hit && !s.net.ptp.limited then s.raise 0x01 0x13 else s
    (s.onPtp fun p => { p with limited := hit }).onTime fun t => { t with addend := got }

/-- STEP_RATE (R438): the leader's rate over the last sixteen Syncs, and a pull of -o / 1 s limited to 10 ppm. -/
def State.stepRate (s : State) : State :=
  let p := s.net.ptp
  match p.rates.head?, p.rates.getLast? with
  | some (t1, c1), some (t0, c0) =>
    if c1 ≤ c0 then s
    else
      let lim : Int := 10000 * nsU
      let pull : Int := max (-lim) (min lim (-p.offset))
      let d : Int := (c1 - c0 : Nat)
      s.servoAddend ((t1 - t0) * secU + nominalAddend * pull * d) ((c1 - c0) * secU)
  | _, _ => s

/-- HW_SERVO (R438): adj = (KP x o + KI x sum) / T_sync in ppb, the addend nominal x (1 + adj x 10^-9). -/
def State.hwServo (s : State) : State :=
  let s := s.onPtp fun p => { p with sum := p.sum + p.offset }
  let p := s.net.ptp
  let x : Int := (p.cfg.kp * p.offset + p.cfg.ki * p.sum) * (if p.cfg.profile = 0 then 8 else 1)
  let s := s.onPtp fun p => { p with adj := quotI 438 x (65536 * nsU) }
  s.servoAddend (nominalAddend * ((65536 * secU : Int) + x)) (65536 * secU)

/-- ACQUIRING ends once four Syncs and an exchange are complete: the acquisition step of -o is applied or requested
(R437). -/
def State.endAcquire (s : State) : State :=
  let p := s.net.ptp
  if p.st != 2 || decide (p.syncs < 4) || p.delays.isEmpty then s
  else
    let s := s.onPtp fun p => { p with sum := 0, within := 0 }
    if p.cfg.autoFirst && !s.anyRuns && !badTime ((s.now : Int) - p.offset) then (deviceStep s (-p.offset)).ptpGo 3
    else
      let s := (s.ptpGo 4).onPtp fun p => { p with acquisition := true, request := true }
      (s.raiseOn 0x01 0x16).ptpRequestEvt false

/-- An offset is complete: it feeds the servo, is a jump, or counts towards the return to LOCKED (R438, R442 to R444). -/
def State.ptpOffset (s : State) : State :=
  let p := s.net.ptp
  let jump := p.jumps p.offset
  let s := s.onPtp fun p => { p with within := if jump then 0 else p.within + 1 }
  if p.st = 2 then s.endAcquire
  else if p.st = 3 then
    if jump then
      let s := (s.ptpGo 4).onPtp fun p => { p with acquisition := false, request := true }
      (s.raiseOn 0x01 0x10).ptpRequestEvt false
    else if p.cfg.stepRate then s.stepRate else s.hwServo
  else if p.st = 4 && 8 ≤ s.net.ptp.within then
    ((s.ptpRequestEvt true).ptpGo 3).onPtp fun p => { p with request := false, acquisition := false }
  else if p.st = 5 && p.rejected && 8 ≤ s.net.ptp.within then
    (s.ptpGo 3).onPtp fun p => { p with rejected := false }
  else s

/-- A Sync is complete: receive stamp and corrected origin (R436). Before the first exchange the path delay is not
known, and the offset is free. -/
def State.syncDone (s : State) (rx origin : Int) : State :=
  let s := s.onPtp fun p =>
    { p with
      sync := none, last := some (rx, origin), syncs := p.syncs + 1
      rates := ((origin, s.clk) :: p.rates).take 16
      offset := if p.delays.isEmpty then sgn64 (s.freeVal 436 0) else p.offsetOf rx origin }
  s.drawn.ptpOffset

/-- A message for this clock (R431): on, on its port and link, in its domain. -/
def State.ptpHears (s : State) (m : PtpMsg) : Bool :=
  let g := s.net.ptp.cfg
  g.on && m.port == g.port && s.hears g.port && m.domain == g.domain && m.sender != ownClock

/-- It comes from the leader, and the clock follows it. -/
def State.fromLeader (s : State) (m : PtpMsg) : Bool :=
  let p := s.net.ptp
  s.ptpHears m && (decide (1 ≤ p.st ∧ p.st ≤ 4) || (p.st == 5 && p.rejected)) &&
    (match p.leader with | some l => l.sender == m.sender | none => false)

/-- A correction field in time units. -/
def corrU (c : Int) : Int := c * 65536

/-- A Sync arrives; the first one of the leader that a listening clock selected begins ACQUIRING (R434, R436). -/
def State.ptpSync (s : State) (m : PtpMsg) : State :=
  let s := s.pass m.wait
  if !s.fromLeader m then s
  else
    let s := if s.net.ptp.st = 1 then (s.ptpGo 2).ptpStateEvt 1 else s
    let rx := s.rxStamp m.port
    if m.twoStep then s.onPtp fun p => { p with sync := some (m.seq, rx, corrU m.correction) }
    else s.syncDone rx (m.time * nsU + corrU m.correction)

/-- The precise origin of the Sync with its sequence number (R434). -/
def State.ptpFollowUp (s : State) (m : PtpMsg) : State :=
  let s := s.pass m.wait
  match s.net.ptp.sync with
  | some (seq, rx, c) =>
    if s.fromLeader m && seq = m.seq then s.syncDone rx (m.time * nsU + corrU m.correction + c) else s
  | none => s

/-- PTP_DELAY_REQ_RX: a leader answers with the corrected receive stamp (R434). -/
def execPtpDelayReqRx (m : PtpMsg) (s : State) : Host.Outcome State Fault Refusal :=
  let s := s.pass m.wait
  if s.ptpHears m && s.net.ptp.st = 6 then
    .next (s.sendPtp 9 m.seq 54 [m.sender, (s.rxStamp m.port).toNat, low64 m.correction])
  else .next s

/-- The exchange is complete, and ACQUIRING may end (R436, R437). -/
def State.ptpDelayResp (s : State) (m : PtpMsg) : State :=
  let s := s.pass m.wait
  match s.net.ptp.delayReq, s.net.ptp.last with
  | some (seq, t3), some (rx, origin) =>
    if s.fromLeader m && seq = m.seq then
      let t4 : Int := m.time * nsU - corrU m.correction
      let d := quotI 437 ((rx - origin) + (t4 - t3)) 2
      let s := s.onPtp fun p => { p with delayReq := none, delays := (d :: p.delays).take 16 }
      let s := if s.net.ptp.st = 2 then s.onPtp fun p => { p with offset := p.offsetOf rx origin } else s
      s.endAcquire
    else s
  | _, _ => s

/-- The clock follows a leader anew: ACQUIRING, with PTP_STATE and, for another leader, TIME:0x14 (R437, R440). A listening clock
selects the leader and listens on until its first Sync (R436; DEDUCED, log entry 40). -/
def State.follow (s : State) (d : DataSet) : State :=
  let old := s.net.ptp
  let change := match old.leader with | some l => l.sender != d.sender | none => true
  let s := (if old.st = 1 then s else s.ptpGo 2).onPtp fun p =>
    { p with
      leader := some d, heard := s.clk, sync := none, last := none, delayReq := none, delays := [], syncs := 0, rates := []
      within := 0, acquisition := false, rejected := false, request := false, nextDelay := s.clk }
  let s := if old.st = 1 then s else s.ptpStateEvt old.st
  if change then s.raise 0x01 0x14 else s

/-- The clock becomes leader (R439). -/
def State.leads (s : State) : State :=
  (s.ptpGo 6).onPtp fun p =>
    { p with leader := none, request := false, rejected := false, nextSync := s.clk, nextAnnounce := s.clk }

/-- The UTC offset of the leader's Announce comes into force; TIME:0x15 where the value in force changes (R441). -/
def State.takeUtc (s : State) (m : PtpMsg) : State :=
  if m.utcValid then
    let was := s.net.ptp.utc.getD (s.net.ptp.cfg.utc : Int)
    let s := s.onPtp fun p => { p with utc := some m.utc }
    if was = m.utc then s else s.raise 0x01 0x15
  else s

/-- PTP_ANNOUNCE_RX: the best master clock algorithm (R437, R440, R441). -/
def execPtpAnnounceRx (m : PtpMsg) (s : State) : Host.Outcome State Fault Refusal :=
  let s := s.pass m.wait
  let p := s.net.ptp
  let d : DataSet := ⟨m.prio1, m.cls, m.accuracy, m.variance, m.prio2, m.grand, m.steps, m.sender⟩
  let fits := p.cfg.followerOnly || d.better p.cfg.own
  if !s.ptpHears m then .next s
  else if (p.st = 1 && p.leader.isNone) || p.st = 6 || (p.st = 5 && !p.rejected) then
    if fits then .next ((s.follow d).takeUtc m)
    else if p.st = 6 then .next s else .next s.leads
  else match p.leader with
    | some l =>
      if l.sender = m.sender then
        let s := s.onPtp fun p => { p with leader := some d, heard := s.clk }
        if fits then .next (s.takeUtc m) else .next s.leads
      else if fits && d.better l then .next ((s.follow d).takeUtc m)
      else .next s
    | none => .next s

/-- PTP_ANNOUNCE_TIMEOUT: the clock runs on to the receipt timeout. A follower enters HOLDOVER with its addend held
(R440); a clock that LISTENS becomes leader unless FOLLOWER_ONLY is set (PRESUMED, log entry 40). -/
def execPtpAnnounceTimeout (s : State) : Host.Outcome State Fault Refusal :=
  let p := s.net.ptp
  let due := p.heard + announceOut p.cfg.profile
  if p.st = 1 && p.leader.isNone then
    let s := s.toClk due
    if p.cfg.followerOnly then .next (s.onPtp fun p => { p with heard := s.clk }) else .next s.leads
  else if decide (1 ≤ p.st ∧ p.st ≤ 4) || (p.st == 5 && p.rejected) then
    let s := s.toClk due
    let s := ((s.ptpGo 5).onPtp fun p => { p with rejected := false, request := false, acquisition := false }).causeOff 0x01 0x12
    .next ((s.raiseOn 0x01 0x11).ptpStateEvt p.st)
  else .next s

/-- PTP_SYNC_TX: a leader's Sync; its stamp is written, or sent in a Follow_Up, when the port sends it (R434, R439). -/
def execPtpSyncTx (s : State) : Host.Outcome State Fault Refusal :=
  let p := s.net.ptp
  if p.st != 6 then .next s
  else
    let s := s.toClk p.nextSync
    let s := s.sendPtp 0 p.seqSync 44 [b01 p.cfg.twoStep]
    .next (s.onPtp fun p =>
      { p with nextSync := s.clk + syncC p.cfg.profile, seqSync := (p.seqSync + 1) % 65536 })

/-- PTP_ANNOUNCE_TX (R439). -/
def execPtpAnnounceTx (s : State) : Host.Outcome State Fault Refusal :=
  let p := s.net.ptp
  if p.st != 6 then .next s
  else
    let s := s.toClk p.nextAnnounce
    let d := p.cfg.own
    let s := s.sendPtp 11 p.seqAnnounce 64
      [d.prio1, d.cls, d.accuracy, d.variance, d.prio2, d.grand, d.steps, low64 (p.utc.getD (p.cfg.utc : Int))]
    .next (s.onPtp fun p =>
      { p with nextAnnounce := s.clk + announceC p.cfg.profile, seqAnnounce := (p.seqAnnounce + 1) % 65536 })

/-- PTP_DELAY_REQ_TX: a follower's request; its stamp is taken when the port sends it (R433, R436). -/
def execPtpDelayReqTx (s : State) : Host.Outcome State Fault Refusal :=
  let p := s.net.ptp
  if !(decide (2 ≤ p.st ∧ p.st ≤ 4) || (p.st == 5 && p.rejected)) then .next s
  else
    let s := s.toClk p.nextDelay
    let s := s.sendPtp 1 p.seqDelay 44 []
    .next (s.onPtp fun p =>
      { p with nextDelay := s.clk + syncC p.cfg.profile, seqDelay := (p.seqDelay + 1) % 65536 })

/-! ### Commands -/

/-- PTP_CONFIG (0x0B40; R445): the clock restarts in LISTENING. -/
def hPtpConfig (c : Vx) (s : State) : Res :=
  let w := c.w 2
  let or' (v d : Nat) : Nat := if v = 0 then d else v
  let thr := or' (c.w 4).toNat 1000
  let g : PtpCfg :=
    { on := bit w 2, port := fld w 1 0, profile := fld w 3 3, followerOnly := bit w 4, twoStep := bit w 5, ipv6 := bit w 6
      autoFirst := bit w 7, servo := fld w 9 8, domain := fld w 23 16, prio1 := fld (c.w 3) 31 24, prio2 := fld (c.w 3) 23 16
      utc := or' (fld (c.w 3) 15 0) 37, thresh := thr, kp := or' (c.w 5).toNat 32768, ki := or' (c.w 6).toNat 4096
      asym := sgn32 (c.w 7).toNat }
  refuseRsv c [(2, msk 23 16 + msk 9 0)] <|
  refuse (s.time.mode == 2 && s.anyRuns) .badState noWord <|
  refuse (decide (127 < g.domain) || g.servo == 3) .badParam 2 <|
  refuse (decide (thr < 100) || decide (1000000000 < thr)) .badParam 4 <|
  let was := s.net.ptp.utc.getD (s.net.ptp.cfg.utc : Int)
  let s := s.ptpGo (if g.on then 1 else 0)
  let s := s.onPtp fun p =>
    { p with
      cfg := g, leader := none, heard := s.clk, sync := none, last := none, delayReq := none, delays := [], syncs := 0
      sum := 0, rates := [], within := 0, acquisition := false, rejected := false, request := false, limited := false }
  .ok [] (if was = s.net.ptp.utc.getD (s.net.ptp.cfg.utc : Int) then s else s.raise 0x01 0x15)

/-- PTP_QUERY (0x0B41). Adj is defined for HW_SERVO alone and the leader's identity where there is one; elsewhere they are
free. -/
def hPtpQuery (_ : Vx) (s : State) : Res :=
  let p := s.net.ptp
  let id := match p.leader with | some l => l.sender | none => s.freeVal 445 0
  let adj : Int := if p.cfg.stepRate then sgn32 (s.freeVal 445 1) else p.adj
  .ok ([p.st] ++ lowHigh (low64 (nsOf p.offset)) ++
    [(wInt (nsOf p.meanDelay)).toNat, (wInt adj).toNat, (wInt (p.utc.getD (p.cfg.utc : Int))).toNat] ++ lowHigh id) s.drawn

/-- PTP_STEP_ANSWER (0x0B42; R88, R443, R444). -/
def hPtpStepAnswer (c : Vx) (s : State) : Res :=
  let p := s.net.ptp
  refuseRsv c [(2, msk 0 0)] <|
  refuse (!p.request) .badState noWord <|
  if bit (c.w 2) 0 then
    refuse (badTime ((s.now : Int) - p.offset)) .badParam noWord <|
    let s := ((deviceStep s (-p.offset)).ptpGo 3).onPtp fun p => { p with request := false, acquisition := false, within := 0 }
    .ok (lowHigh (low64 (nsOf (-p.offset)))) s
  else
    let s := (s.ptpGo 5).onPtp fun p => { p with request := false, acquisition := false, rejected := true, within := 0 }
    .ok [0, 0] (s.raiseOn 0x01 0x12)

end Sys2Proof.Machine
end

