-- ==== Sys2Proof/Machine/Tx.lean ====
section
/-!
DEFINITION. Transmission at a network port: the choice of the next frame and what its start does to its sender (R402,
R411, R418, R419, R426, R434), and the discard of frames at a port that cannot send.
-/
namespace Sys2Proof.Machine

/-- A port can send: it is up and none of its transmitters is in electrical idle (R411, R458). -/
def State.canSend (s : State) (p : Nat) : Bool :=
  (s.port p).sends && (lanesOfPort p).all fun l => !(s.lan l).txIdle

/-- Gratuitous ARP and Neighbour Advertisements of a take-over wait at a port: they leave before its media (R407). -/
def State.announcing (s : State) (p : Nat) : Bool :=
  (s.queue (64 * p + 42)).frames.any fun f => match f.content with | .reply kind _ => decide (5 ≤ kind) | _ => false

/-- The heads that a port may send: a standby sends no media, but a former active module still releases what was due
before the handover (R468, R482, R490). -/
def State.txHeads (s : State) (p : Nat) : List (Nat × Queue × QFrame) :=
  (s.heads p).filter fun x => match x.2.2.content with
    | .media _ => (!s.standby || decide (x.2.2.release < s.twin.sendsTo)) && (s.flt.safe.isNone || decide (1 < p))
        && !s.announcing p
    | _ => true

/-- A head that asks to start while its gate is open and that would not end by the close of the open run is held, and
NET:0x08 raised for the first such frame of a second (R426). -/
def State.holdHead (s : State) (p : Nat) (x : Nat × Queue × QFrame) : State :=
  let (q, y, f) := x
  let (w, _) := (s.port p).gateAt s.now
  let n := s.counted p f.len
  let asks := decide (s.readyAt p y f ≤ s.now) && gateOpen w y.tc
  if !f.held && asks && !bit w 23 && !(s.port p).fits p y.tc n s.now then
    let first := s.firstIn (s.port p).waitAt
    let s := s.onQueue q fun y =>
      { y with frames := match y.frames with | h :: t => { h with held := true } :: t | [] => [] }
    let s := s.onPort p fun x => { x with held := x.held + 1, waitAt := some s.second }
    if first then s.raise 0x0B 0x08 p else s
  else s

/-- Every row of a frame is packaged for each of its streams. -/
def State.framePackaged (s : State) (c frame : Nat) : Bool :=
  match (s.ch c).cfg, (s.ch c).lay with
  | some g, some _ => (List.range (ceilDiv g.height g.ctu)).all fun n =>
      match s.row? c frame n with
      | some r => (s.rowStreamsOf r).all fun i => r.packaged.contains i
      | none => false
  | _, _ => false

/-- No packet of a channel waits in a media queue. -/
def State.chanDrained (s : State) (c : Nat) : Bool :=
  (List.range 32).all fun i =>
    !((s.strm i).used && (s.strm i).chan == c) || ((s.queue i).frames.isEmpty && (s.queue (64 + i)).frames.isEmpty)

/-- A packet of a channel has been released: the first of frame 0 completes CH_START, the last of the last picture
CH_STOP (table "Opcodes of group 0x04"). -/
def State.packetDone (s : State) (p : Packet) : State :=
  if 31 < p.stream || p.parts.any (·.1 == 4) then s
  else
    let c := (s.strm p.stream).chan
    let s := if p.frame = 0 then s.complete 0x0403 c .ok else s
    match (s.ch c).last with
    | some l => if l ≤ p.frame && s.framePackaged c l && s.chanDrained c then s.complete 0x0404 c .ok else s
    | none => s

/-- A media packet starts: it is counted, its sequence number is the last released of its stream (R405, PKG_QUERY). -/
def State.mediaOut (s : State) (p : Packet) : State :=
  let s := s.onCl fun x => { x with packets := x.packets + 1 }
  let s := if p.stream < 32 then s.onPv p.stream fun v => { v with sent := v.sent + 1, released := some p.seq }
    else s.onPa (p.stream - 32) fun v => { v with sent := v.sent + 1, released := some p.seq }
  s.packetDone p

/-- The corrected transmit stamp of a message that starts now (R433). -/
def State.txStamp (s : State) (p : Nat) : Nat := s.now + s.txCorr p

/-- What a frame carries as it leaves: a one-step Sync takes its origin timestamp in whole ns and the rest of the stamp
in units of 2^-16 ns (R434); a PCR takes the time of its first byte, floor(t_tx x 27,000,000) mod 2^33 x 300 (R400, R435). -/
def State.stamped (s : State) (p : Nat) (c : Content) : Content :=
  match c with
  | .ptp 0 seq args =>
    let t := s.txStamp p
    if s.net.ptp.cfg.twoStep then c else .ptp 0 seq (args ++ [t / nsU, quot 434 (t % nsU) 65536])
  | .media k =>
    match k.pcr with
    | none => c
    | some i =>
      -- the PCR's first byte: 6 bytes into its TS packet, which follows the headers; FCS ends the frame
      let off := k.size - 4 - 188 * sumNat (k.parts.map (·.2.2)) + 188 * i + 6
      .media { k with pcrVal := some ((100 * s.txStamp p + lineU p off) * 27000000 / (100 * secU) % (2 ^ 33 * 300)) }
  | _ => c

/-- What the start of a frame does to its sender. -/
def State.frameOut (s : State) (p : Nat) (c : Content) : State :=
  match c with
  | .media k => s.mediaOut k
  | .ptp 0 seq _ => if s.net.ptp.cfg.twoStep then s.sendPtp 8 seq 44 [s.txStamp p] else s
  | .ptp 1 seq _ => s.onPtp fun x => { x with delayReq := some (seq, (s.txStamp p : Int)) }
  | _ => s

/-! ### The trickle path of M0 (R559) -/

/-- RATE of the trickle service in kbit/s, and its bucket filled up to a core clock. -/
def Trickle.kbit (t : Trickle) : Nat := t.rate * 1000
def Trickle.fill (t : Trickle) (clk : Nat) : Trickle :=
  { t with level := min (t.level + t.kbit * (clk - t.since)) (65536 * byteU), since := clk }

/-- The moment at which M0 may take the next trickle frame while no queue has a candidate. -/
def State.trickleTime (s : State) : Option Nat :=
  match s.pw.te.waiting with
  | [] => none
  | (n, _, _) :: _ =>
    let t := s.pw.te.fill s.clk
    let need := s.counted 2 n
    let w := max ((s.port 2).idleAt - s.clk) (bucketWait t.kbit t.level (need * byteU))
    (s.port 2).startAt 2 0 need gateFuel (s.now + w * s.time.addend)

/-- The frame at the head of the path starts, where it may. -/
def State.sendTrickle (s : State) : State :=
  match s.pw.te.waiting with
  | [] => s
  | (n, ts, seq) :: rest =>
    let t := s.pw.te.fill s.clk
    let need := s.counted 2 n
    let (w, _) := (s.port 2).gateAt s.now
    let goes := decide ((s.port 2).idleAt ≤ s.clk) && decide (need * byteU ≤ t.level) && gateOpen w 0
      && (bit w 23 || (s.port 2).fits 2 0 need s.now)
    if goes then
      let s := s.onPw fun p => { p with te := { t with waiting := rest, level := t.level - need * byteU, packets := t.packets + 1 } }
      let s := s.onPort 2 fun x => { x with sent := x.sent + 1, idleAt := s.clk + ceilDiv (lineU 2 need) (100 * s.time.addend) }
      s.emit (.frame 2 256 need (.trickle ts seq)) []
    else s

/-- An idle transmitter chooses and starts a frame in one clock; M0 takes a trickle frame where no queue has a candidate
(R418, R559). -/
def State.txPort (s : State) (p : Nat) : State :=
  let s := (s.txHeads p).foldl (fun s x => s.holdHead p x) s
  match s.choose p ((s.txHeads p).filter fun x => s.startable p x.2.1 x.2.2 && decide ((s.port p).idleAt ≤ s.clk)) with
  | some (q, f) => (s.sendFrame p q { f with content := s.stamped p f.content }).frameOut p f.content
  | none => if p = 2 then s.sendTrickle else s

/-- The moment at which a port has something to choose from. -/
def State.txTime (s : State) (p : Nat) : Option Nat :=
  if s.canSend p then
    minBy id (((s.txHeads p).filterMap fun x => s.headTime p x.2.1 x.2.2)
      ++ (if p = 2 then s.trickleTime.toList else []))
  else none

/-- TX_SELECT: the clock runs on to the next choice of a port's transmitter (R418). -/
def execTxSelect (port : Nat) (s : State) : Host.Outcome State Fault Refusal :=
  match s.txTime port with
  | some t => .next ((s.toTime t).txPort port)
  | none => .next s

/-- The heads that are discarded at their release time: all of a port that cannot send, and in module safe state the media
of N0 and N1 (R411, R525). -/
def State.doomed (s : State) (p : Nat) : List (Nat × Queue × QFrame) :=
  if !s.canSend p then s.heads p
  else if s.flt.safe.isSome && decide (p < 2) then
    (s.heads p).filter fun x => match x.2.2.content with | .media _ => true | _ => false
  else []

/-- TX_DISCARD: the clock runs on to the next release time of such a packet; it is discarded, and the first of an outage
raises NET:0x05. -/
def execTxDiscard (port : Nat) (s : State) : Host.Outcome State Fault Refusal :=
  if 3 < port then .next s
  else match minBy (fun x => x.2.2.release) (s.doomed port) with
  | none => .next s
  | some (q, _, f) =>
    let s := s.toTime f.release
    let s := s.onQueue q fun y => { y with frames := y.frames.drop 1 }
    let first := !(s.port port).downRaised
    let s := s.onPort port fun x => { x with discarded := x.discarded + 1, downRaised := true }
    let s := if first then s.raise 0x0B 0x05 port else s
    .next (match f.content with | .media k => s.packetDone k | _ => s)

end Sys2Proof.Machine
end

