-- ==== Sys2Proof/Machine/Power.lean ====
section
/-!
DEFINITION. Power states, bring-up, the trickle service, firmware images, supply and temperature (R547 to R569 of
chapter 19, R79), and the commands of these areas.
-/
namespace Sys2Proof.Machine

/-! ### Units of the power states (R79, R547, R552) -/

/-- A state with its own engine masks enables the units that they name; dippers and pumps run from READY. -/
def State.setUnits (s : State) : State :=
  s.onDs fun d => { d with units := (List.range 42).map fun u =>
    let x := tab d.units u
    let on :=
      if u < 16 then s.pw.st == 4 && nbit s.pw.ce u && (tab s.enc.engines u).service
      else if u < 22 then s.pw.st == 4 && nbit s.pw.other (u - 16) && tab s.dec.service (u - 16)
      else decide (3 ≤ s.pw.st)
    { x with enabled := on } }

/-- Engines, sounders and composers that a pair of masks enables. -/
def ceCount (s : State) (ce : Nat) : Nat := ((bitsOf ce 16).filter fun i => (tab s.enc.engines i).service).length
def deCount (s : State) (other : Nat) : Nat := ((bitsOf other 6).filter fun i => tab s.dec.service i).length
def saList (other : Nat) : List Nat := bitsOf (other / 256) 4
def cmList (other : Nat) : List Nat := bitsOf (other / 4096) 4

/-- The sounder bands of a list of channels can be placed on the sounders of a mask, and those already placed stand on
them (R215). -/
def State.sounderMaskOk (s : State) (other : Nat) : Bool :=
  let l := s.allBands
  l.all Option.isSome && placeAll (saList other) (List.replicate 4 ⟨0, 1⟩) (l.filterMap id)
    && s.enc.bands.all fun b => !s.runs b.1 || b.2.all fun k => (saList other).contains k

/-- The engines of the masks carry the admitted loads: coding at 1.0 G units/s each, decoding at a sixth of 9.0 G luma
samples/s each (DEDUCED, log entry 53), sounders and composers (R550). -/
def State.masksOk (s : State) (ce other : Nat) : Bool :=
  let cap : Q := ⟨ceCount s ce * 1000000000, 1⟩
  (s.totalLoad).le cap && (s.peakTotal).le cap
    && s.sounderMaskOk other
    && ((List.range 4).all fun cm => (s.composerLoad cm).num == 0 || (cmList other).contains cm)
    && (s.decodeLoad).le ⟨deCount s other * 1500000000, 1⟩

/-! ### Transitions (R549 to R553) -/

/-- The longest time of a step from a state to the next, in core clocks (table "Transition steps"). -/
def stepMax (src dst : Nat) : Nat :=
  match src, dst with
  | 1, 2 => 90 * msC
  | 2, 3 => 1050 * msC
  | 3, 4 => 2 * msC
  | 4, 4 => 2 * msC
  | 4, 3 => msC
  | 3, 2 => 50 * msC
  | _, _ => 20 * msC

/-- The core clock at which a step exceeds its maximum; the bring-up to STANDBY has the watchdog of R563 instead. -/
def PwStep.limit (x : PwStep) (st : Nat) : Nat := x.began + stepMax st x.next

/-- The state after `st` on the way to `target`. -/
def nextState (st target : Nat) : Nat := if st < target then st + 1 else if target < st then st - 1 else st

/-- A step begins. -/
def State.beginStep (s : State) (target ce other : Nat) (cmd : Bool) : State :=
  s.onPw fun p => { p with step := some ⟨target, nextState p.st target, cmd, false, s.clk, ce, other, false⟩ }

/-! ### The trickle service: configuration (R557, R560, R569) -/

/-- IN_CONFIG for input 0 with words k to k + 2 of a slot, as the trickle service's copy. -/
def trickleIn (c : Vx) : Vx := { c with len := 3, stage := false, pay := [c.w 3, c.w 4, c.w 5] }

/-- TRICKLE_CONFIG's words 2 to 10 take effect; IN0 follows the copy until IN_CONFIG configures it. -/
def State.setTrickle (s : State) (c : Vx) : State :=
  let w := c.w 2
  let s := if s.pw.in0 then s
    else if bit w 0 then match hInConfig (trickleIn c) s with
      | .ok _ t => t.onPw fun p => { p with in0 := false }
      | _ => s
    else (s.onIn 0 fun _ => {}).setLanes
  s.onPw fun p =>
    { p with te := { p.te with
        on := bit w 0, rate := fld w 25 16, divisor := max 1 (fld w 13 8), by8 := bit w 2
        words := (List.range 8).map fun k => c.w (3 + k)
        coding := false, frame := 0, row := 0, waiting := if bit w 0 then p.te.waiting else []
        level := if bit w 0 && !p.te.on then 65536 * byteU else p.te.level
        since := if bit w 0 && !p.te.on then s.clk else p.te.since } }

/-- The decimation of the service. -/
def Trickle.dec (t : Trickle) : Nat := if t.by8 then 8 else 4

/-- The size of the decimated picture of an input; the rounding of a size that D does not divide is free. -/
def decimated (d : Nat) (x : InSt) : Nat × Nat := (quot 557 x.pixels d, quot 558 x.lines d)

/-- The trickle profile, as a command slot. -/
def profileCmd (ws : List Word) : Vx := ⟨9, 0, false, false, false, 0, ws⟩

/-! ### Reaching a state -/

/-- POWER_STATE (table "System events"). -/
def State.powerEvt (s : State) (new old : Nat) : State := s.event 0x0005 0xFF 7 [new, old]

/-- Sets that a step below READY makes fail (R551). -/
def dropsBelowReady (x : CommitSet) : Bool :=
  x.cmds.any fun c =>
    [0x03, 0x04, 0x05, 0x08, 0x09, 0x0A].contains (c.op / 256) || [0x0210, 0x0211, 0x0710].contains c.op

/-- What leaving READY downwards does: cisterns and configuration are released, sets fail, GDDR6 loses its content
(R551). -/
def State.leaveReady (s : State) : State :=
  let s := s.failSets dropsBelowReady 2
  (s.discardConfig).onMem fun m => { m with gddr := [] }

/-- TE0 stops (R560). -/
def State.stopTrickle (s : State) : State :=
  s.onPw fun p => { p with te := { p.te with coding := false, row := 0, waiting := [] } }

/-- The module is in a state that a step has reached. -/
def State.reach (s : State) (x : PwStep) : State :=
  let old := s.pw.st
  let s := s.onPw fun p =>
    { p with st := x.next, ce := if x.next = 4 then x.ce else 0, other := if x.next = 4 then x.other else 0 }
  let s := match old, x.next with
    | 1, 2 => match s.pw.profile with | some ws => s.setTrickle (profileCmd ws) | none => s
    | 3, 2 => s.leaveReady
    | 2, 1 => s.stopTrickle
    | _, _ => s
  let s := s.setLanes.setUnits
  s.capacityCheck

/-- The step that ends is the last, or the next one begins. -/
def State.afterStep (s : State) (x : PwStep) : State :=
  if x.next = x.target then
    (s.onPw fun p => { p with step := none }).complete 0x0002 0 .ok
  else s.beginStep x.target x.ce x.other x.cmd

/-- Engines that fail self-test leave service (Bring-up). -/
def State.selfTest (s : State) (ce de : Nat) : State :=
  let s := (bitsOf ce 16).foldl (fun s e => if (tab s.enc.engines e).service then s.engineOff e 2 else s) s
  (bitsOf de 6).foldl (fun s e =>
    if tab s.dec.service e then
      ((s.onDec fun d => { d with service := upd d.service e fun _ => false }).raiseOn 0x08 0x07 e).event
        0x0403 0xFF 1 [16 + e, 0, 2]
    else s) s

/-- `VIO_3V3` is switched (R572). -/
def State.setVio (s : State) (on : Bool) : State :=
  if s.pw.vio = on then s else (s.onPw fun p => { p with vio := on }).emit .vio [b01 on]

/-- The bring-up reaches STANDBY: Vehitrix serves the rings; the state before it has no code and is free. -/
def State.standbyUp (s : State) : State :=
  let old := s.freeVal 549 0 % 8
  let s := ((s.drawn.onPw fun p => { p with st := 1 }).setVio true).setLanes.setUnits
  let s := (s.onHost fun h => { h with fwReady := true }).powerEvt 1 old
  s.event 0x0008 0xFF 1 [s.fwWord]

/-- A step ends. -/
def State.stepDone (s : State) (x : PwStep) (ce de : Nat) : State :=
  if x.boot then s.standbyUp.afterStep x
  else
    let old := s.pw.st
    let s := if old = 2 && x.next = 3 then s.selfTest ce de else s
    ((s.reach x).powerEvt x.next old).afterStep x

/-- A step exceeds its maximum: upwards it ends at the last state reached; downwards it goes on (R553). -/
def State.stepLate (s : State) (x : PwStep) : State :=
  let s := s.toClk (x.limit s.pw.st)
  if x.next < s.pw.st then
    if x.late then s
    else (s.raise 0x12 0x05).onPw fun p => { p with step := p.step.map fun y => { y with late := true } }
  else (s.raise 0x12 0x05).stopStep .timeout

/-- POWER_STEP_TIMEOUT: the clock runs on to the maximum of the step in progress. -/
def execPowerStepTimeout (s : State) : Host.Outcome State Fault Refusal :=
  match s.pw.step with
  | none => .next s
  | some x => .next (if x.boot then s else s.stepLate x)

/-! ### Bring-up (R554, R555, R562 to R564, R566) -/

/-- What survives a restart of the module: the flash, the fuses, the straps sampled and the level of `VIO_3V3`, which R572
turns off in OFF alone (DEDUCED, log entry 53); the model's queue, record of outputs and counter of free values. -/
def State.restarted (s : State) : State :=
  { pending := s.pending, out := s.out, free := s.free
    pw := { vio := s.pw.vio, role := s.pw.role, selB := s.pw.selB, step := none, bootTarget := s.pw.bootTarget, active := s.pw.active, tryS := s.pw.tryS
            slots := s.pw.slots, counter := s.pw.counter, profile := s.pw.profile } }

/-- A slot is valid (R561): its image was verified, and its SVN is at least the counter. -/
def State.slotOk (s : State) (k : Nat) : Bool :=
  let x := tab s.pw.slots k
  x.st == 2 && decide (s.pw.counter ≤ x.svn)

/-- The boot ROM chooses a slot and the climb to BOOT_TARGET begins (R555, R563, R564). -/
def State.boot (s : State) : State :=
  let k := s.pw.tryS.getD s.pw.active
  let s := s.onPw fun p => { p with tryS := none }
  let go (s : State) (run target : Nat) (rec : Bool) : State :=
    s.onPw fun p => { p with
      on := true, st := 1, runs := run, recovery := rec, step := some ⟨target, 1, false, true, s.clk, 0, 0, false⟩ }
  if s.slotOk k then go s k s.pw.bootTarget false
  else
    let s := s.raise 0x14 0x01 k
    if s.slotOk (1 - k) then go (s.raise 0x14 0x04) (1 - k) s.pw.bootTarget false
    else go (s.raise 0x14 0x01 (1 - k)) k 1 true

/-- POWER_GOOD: VIN has stayed at or above 9.0 V for 10 ms with every rail in regulation (R554); the straps ROLE and TWIN_SEL
are sampled (R579). -/
def execPowerGood (wait role : Nat) (selB : Bool) (s : State) : Host.Outcome State Fault Refusal :=
  if s.pw.on then .next (s.pass wait)
  else .next ((s.restarted.onPw fun p => { p with role := role % 4, selB := selB }).boot)

/-- VIN_DROP: VIN has stayed below 8.0 V for 100 us; the module removes its own power (R548, R554). -/
def execVinDrop (wait : Nat) (s : State) : Host.Outcome State Fault Refusal :=
  let s := s.pass wait
  .next ((s.setVio false).restarted.onPw fun p => { p with on := false })

/-- The module restarts with its RWS fields and its fault log kept (R566). -/
def State.restart (s : State) : State :=
  let t := (s.restarted.onHost fun h => { h with scratch1 := s.host.scratch1 }).onFlt fun f =>
    { f with log := s.flt.log, logCount := s.flt.logCount }
  t.boot

/-- A segment of the running image fails its check before READY: the slot is invalid, and the module restarts from the other one
(R562, R563). -/
def State.imageFails (s : State) : State :=
  let k := s.pw.runs
  let t := (s.onPw fun p => { p with slots := upd p.slots k fun _ => ⟨0, 0, 0, []⟩ }).restart
  if s.pw.tryS.getD s.pw.active = k then t else t.raise 0x14 0x01 k

/-- POWER_STEP_DONE: the work of the step in progress is done after some core clocks; `ce` and `de` name the engines that
failed self-test in it, and `image` tells that the remaining segments of the image verify, which READY needs (R562). Beyond
the maximum an upward step has ended before. -/
def execPowerStepDone (wait : Nat) (image : Bool) (test : SelfTest) (s : State) : Host.Outcome State Fault Refusal :=
  match s.pw.step with
  | none => .next (s.pass wait)
  | some x =>
    if !x.boot && decide (x.limit s.pw.st < s.clk + wait) then
      let s := s.stepLate x
      .next (match s.pw.step with
        | some y => (s.toClk (x.began + wait)).stepDone y test.ce test.de
        | none => s)
    else if !x.boot && s.pw.st == 2 && x.next == 3 && !image then .next (s.pass wait).imageFails
    else .next ((s.pass wait).stepDone x test.ce test.de)

/-- BOOT_WATCHDOG: FW_READY is not set 2 s after the boot's start (R563). -/
def execBootWatchdog (s : State) : Host.Outcome State Fault Refusal :=
  match s.pw.step with
  | some x => if x.boot then .next ((s.toClk (x.began + 2 * secC)).restart.raise 0x14 0x04) else .next s
  | none => .next s

/-- FW_RESTART: 1 ms after the response to FW_ACTIVATE (R566). -/
def execFwRestart (s : State) : Host.Outcome State Fault Refusal :=
  match s.pw.restart with
  | some c => .next (s.toClk c).restart
  | none => .next s

/-! ### Supply and temperature (R548, R568) -/

/-- A condition that has held since a core clock. -/
def since (held : Bool) (old : Option Nat) (clk : Nat) : Option Nat := if held then some (old.getD clk) else none

/-- It has held for n core clocks. -/
def lasted (c : Option Nat) (clk n : Nat) : Bool := match c with | some x => decide (x + n ≤ clk) | none => false

/-- A fault of the supply and thermal table is raised when its condition holds, and its cause ends on its own
condition. -/
def State.watch (s : State) (cls code data : Nat) (raised ends : Bool) : State :=
  if s.hasCause cls code data then (if ends then s.causeOff cls code data else s)
  else if raised then s.raiseOn cls code data else s

/-- Twice the median of eight readings. -/
def median2 (l : List Int) : Int :=
  let l := sortBy (fun i => (i + 100000).toNat) l
  l.getD 3 0 + l.getD 4 0

/-- A reading in tenths of a degree lies outside its range or away from the median. -/
def sensorBad (med2 t : Int) : Bool :=
  decide (t < -400) || decide (1500 < t) || decide (400 < 2 * t - med2) || decide (2 * t - med2 < -400)

/-- The junction temperature: the highest of the valid sensors, none without one. -/
def PwSt.junction (p : PwSt) : Option Int :=
  (p.sensors.filter (!·.out)).foldl (fun m x => match m with | some y => some (max y x.temp) | none => some x.temp) none

/-- The sensors take a sample. -/
def State.sampleSensors (s : State) (temps : List Int) : State :=
  let med := median2 temps
  (List.range 8).foldl (fun s k =>
    let t := temps.getD k 0
    let bad := sensorBad med t
    let old := tab s.pw.sensors k
    let since := if bad then s.clk else old.since
    let heals := old.out && !bad && decide (since + secC ≤ s.clk)
    let s := if bad && !old.out then s.raiseOn 0x13 0x03 k else if heals then s.causeOff 0x13 0x03 k else s
    s.onPw fun p => { p with sensors := upd p.sensors k fun x =>
      { x with temp := t, out := (x.out || bad) && !heals, since := since } }) s

/-- The mean of the input power over 100 ms, once 1,000 samples show it, in mW x 1,000. -/
def PwSt.powerSum (p : PwSt) : Option Nat := if p.powers.length = 1000 then some (sumNat p.powers) else none

/-- HEALTH_SAMPLE: VIN in mV, input power in mW, eight junction readings in tenths of a degree, and whether every
internal rail lies within 5 % of nominal. -/
def State.health (s : State) (vin power : Nat) (temps : List Int) (rails : Bool) : State :=
  let s := s.onPw fun p =>
    { p with
      vin := vin, power := power, powers := (power :: p.powers).take 1000
      lowFrom := since (decide (vin < 8700)) p.lowFrom s.clk
      highFrom := since (decide (61000 < vin)) p.highFrom s.clk
      railFrom := since (!rails) p.railFrom s.clk
      railOk := since rails p.railOk s.clk }
  let p := s.pw
  let s := s.watch 0x12 0x01 0 (lasted p.lowFrom s.clk msC) (decide (9000 ≤ vin))
  let s := s.watch 0x12 0x02 0 (lasted p.highFrom s.clk msC) (decide (vin ≤ 60000))
  let s := s.watch 0x12 0x03 0 (lasted p.railFrom s.clk (100 * usC)) (lasted p.railOk s.clk (10 * msC))
  let s := match p.powerSum with
    | some n => s.watch 0x12 0x04 0 (decide (125000 * 1000 < n)) (decide (n < 120000 * 1000))
    | none => s
  let s := s.sampleSensors temps
  match s.pw.junction with
  | some t =>
    let s := s.watch 0x13 0x01 0 (decide (1100 ≤ t)) (decide (t < 1050))
    s.watch 0x13 0x02 0 (decide (1200 ≤ t)) (decide (t < 1100))
  | none => s

def execHealthSample (wait vin power : Nat) (temps : List Int) (rails : Bool) (s : State) :
    Host.Outcome State Fault Refusal :=
  .next ((s.pass wait).health vin power temps rails)

/-! ### The trickle service: coding and packing (R558, R559) -/

/-- The last input line of a decimated row of 32 lines. -/
def trickleLine (d h row : Nat) : Nat := d * min (32 * (row + 1)) h - 1

/-- A line of the frame in progress has ended. -/
def InSt.lineEnded (x : InSt) (l : Nat) : Bool := x.inFrame && (decide (l < x.high) || (x.high == l && x.line.isNone))

/-- The capture time of row 0 on timeline 5 (R32): the edge of the line after its last, as the timeline stands; without a
prediction, now. -/
def State.trickleTs (s : State) (line : Nat) : Nat :=
  let k := s.trk 5
  let e : Int := ((s.inp 0).cycle * k.e + line + 1 : Nat)
  let go (base edge tp : Nat) : Nat := s.rawToDev ((base : Int) + (e - edge) * tp)
  let t := match decide (k.st = 2), k.last, k.coastOf with
    | true, some l, _ => go l k.edge k.tpred
    | _, _, some c => go c.raw c.edge c.tpred
    | _, _, none => s.now
  ticksOf t 90000 % 4294967296

/-- The packets of NAL units: alone or in fragmentation units of a payload of 1,460 - 12 bytes, each in UDP, IPv4 and
Ethernet. -/
def trickleSizes (nals : List Nat) : List Nat :=
  (nals.flatMap fun n => fragment 1 0 n 1448 1448).map fun p => p.size + 12 + 8 + 20 + 14 + 4

/-- Packets leave as they are built; at a port that cannot send they are discarded (R411). -/
def State.trickleOut (s : State) (sizes : List Nat) : State :=
  let t := s.pw.te
  let l := (List.range sizes.length).map fun k => (sizes.getD k 0, t.ts, (t.seq + k) % 65536)
  let s := s.onPw fun p => { p with te := { p.te with seq := (t.seq + sizes.length) % 65536 } }
  if s.canSend 2 then s.onPw fun p => { p with te := { p.te with waiting := p.te.waiting ++ l } }
  else
    let first := !(s.port 2).downRaised && !sizes.isEmpty
    let s := s.onPort 2 fun x => { x with discarded := x.discarded + w32 sizes.length, downRaised := x.downRaised || !sizes.isEmpty }
    if first then s.raise 0x0B 0x05 2 else s

/-- TE0 has coded the next row of the picture in progress into NAL units of these sizes in bytes; a picture never exceeds
its budget. -/
def State.trickleRow (s : State) (nals : List Nat) : State :=
  let t := s.pw.te
  let x := s.inp 0
  let (_, h) := decimated t.dec x
  let line := trickleLine t.dec h t.row
  if !(t.on && decide (2 ≤ s.pw.st) && t.coding && decide (32 * t.row < h) && x.lineEnded line) then s
  else
    let fits := decide (8 * sumNat nals ≤ t.left)
    let nals := if fits then nals else if t.left / 8 = 0 then [] else [t.left / 8]
    let bits := 8 * sumNat nals
    let last := decide (h ≤ 32 * (t.row + 1))
    let ts := if t.row = 0 then s.trickleTs line else t.ts
    let s := s.onPw fun p =>
      { p with te := { p.te with
          ts := ts, row := t.row + 1, left := t.left - bits, bits := t.bits + bits
          coding := !last, pictures := if last then t.pictures + 1 else t.pictures } }
    s.trickleOut (trickleSizes nals)

def execTrickleRow (wait : Nat) (nals : List Nat) (s : State) : Host.Outcome State Fault Refusal :=
  .next ((s.pass wait).trickleRow nals)

/-! ### Firmware images (R561, R565 to R567) -/

/-- FW_STATE (table "Firmware events"). -/
def State.fwEvt (s : State) (k : Nat) : State :=
  let x := tab s.pw.slots k
  s.event 0x1001 0xFF 29 [k, x.st, if x.st = 2 then x.fw else 0, x.svn]

/-- FW_ERASE_DONE: the erase of the open slot completes. -/
def execFwEraseDone (wait : Nat) (s : State) : Host.Outcome State Fault Refusal :=
  let s := s.pass wait
  .next (match s.pw.fwOp, s.pw.fwOpen with
    | some (0x1001, _), some k =>
      (s.onPw fun p => { p with fwOp := none, fwBuffer := 0, slots := upd p.slots k fun _ => ⟨1, 0, 0, []⟩ }).complete
        0x1001 0 .ok
    | _, _ => s)

/-- A word of an image in a slot; an erased word reads all ones. -/
def Slot.word (x : Slot) (i : Nat) : Word := (alookup x.words i).getD 0xFFFFFFFF

/-- FW_VERIFY_DONE: verification of the open slot completes; `good` tells that the signature and every segment's SHA-384
match. A refused slot is marked empty. -/
def execFwVerifyDone (wait : Nat) (good : Bool) (s : State) : Host.Outcome State Fault Refusal :=
  let s := s.pass wait
  .next (match s.pw.fwOp, s.pw.fwOpen with
    | some (0x1003, _), some k =>
      let x := tab s.pw.slots k
      let svn := fld (x.word 2) 15 0
      let image := good && x.word 0 == 0x47584657
      let st : Status := if !image then .badParam else if svn < s.pw.counter then .denied else .ok
      let y : Slot := if st = .ok then { x with st := 2, fw := fld (x.word 1) 23 0, svn := svn } else ⟨0, 0, 0, []⟩
      let s := s.onPw fun p => { p with fwOp := none, fwOpen := none, slots := upd p.slots k fun _ => y }
      let s := if st = .denied then s.raise 0x14 0x02 else if st = .badParam then s.raise 0x14 0x03 else s
      (s.fwEvt k).complete 0x1003 0 st
    | _, _ => s)

/-! ### Commands -/

/-- SET_POWER_STATE (0x0002; R79, R549, R550). -/
def hSetPowerState (c : Vx) (s : State) : Res :=
  let target := fld (c.w 2) 2 0
  let ce := fld (c.w 3) 15 0
  let other := fld (c.w 4) 15 0
  let p := s.pw
  refuseRsv c [(2, msk 2 0), (3, msk 15 0), (4, msk 15 8 + msk 5 0)] <|
  refuse (target == 0 || decide (4 < target)) .badParam 2 <|
  refuse p.step.isSome .busy noWord <|
  refuse (decide (target < 4) && s.anyRuns) .badState noWord <|
  refuse (s.twin.role != 0 && decide (p.st = 4)
    && (decide (target < 4) || ce != p.ce || other != p.other)) .badState noWord <|
  refuse (s.flt.safe.isSome && decide (p.st < target)) .badState noWord <|
  refuse (target == 4 && !s.masksOk ce other) .noResource noWord <|
  let s := s.start 0x0002 c.tag 0
  if target = p.st && target != 4 then .acc ((s.powerEvt target target).complete 0x0002 0 .ok)
  else .acc (s.beginStep target ce other true)

/-- GET_POWER_STATE (0x0003). -/
def hGetPowerState (_ : Vx) (s : State) : Res := .ok [s.pw.st, s.pw.ce, s.pw.other] s

/-- FW_QUERY (0x1000). -/
def hFwQuery (_ : Vx) (s : State) : Res :=
  let p := s.pw
  let a := tab p.slots 0
  let b := tab p.slots 1
  let tr := match p.tryS with | some k => k + 1 | none => 0
  let fw (x : Slot) : Nat := if x.st = 2 then x.fw else 0
  .ok [p.runs + 2 * p.active + 4 * tr + 16 * b01 p.recovery, fw a, fw b, a.svn + at' b.svn 16, p.counter, p.bootTarget] s

/-- FW_BEGIN (0x1001). From here on the slot holds no image (DEDUCED, log entry 53). -/
def hFwBegin (c : Vx) (s : State) : Res :=
  let k := fld (c.w 2) 0 0
  refuseRsv c [(2, msk 0 0)] <|
  refuse s.pw.fwOp.isSome .busy noWord <|
  refuse (k == s.pw.runs) .denied 2 <|
  .acc ((s.onPw fun p =>
    { p with fwOp := some (0x1001, s.clk), fwOpen := some k, slots := upd p.slots k fun _ => ⟨0, 0, 0, []⟩ }).start 0x1001 c.tag 0)

/-- Words of a slot, and of the write buffer. -/
def slotWords : Nat := 31 * 262144
def bufferWords : Nat := 262144

/-- FW_WRITE (0x1002). How fast the buffer drains is not stated: it may be full once as many words have come as it holds
(log entry 53). -/
def hFwWrite (c : Vx) (s : State) : Res :=
  let off := fld (c.w 2) 22 0
  let n := c.len - 1
  refuseRsv c [(2, msk 22 0)] <|
  refuse (decide (12 < n)) .badParam noWord <|
  refuse s.pw.fwOp.isSome .busy noWord <|
  match s.pw.fwOpen with
  | none => .err .badState noWord
  | some k =>
    refuse (decide (slotWords < off + n)) .badParam 2 <|
    refuse (decide (bufferWords < s.pw.fwBuffer + n) && s.freeBit 569 s.pw.fwBuffer) .busy noWord <|
    .ok [] ((s.onPw fun p =>
      { p with fwBuffer := p.fwBuffer + n
               slots := upd p.slots k fun x => { x with words := (List.range n).foldl (fun l i => aset l (off + i) (c.w (3 + i))) x.words } }).drawn)

/-- FW_END (0x1003). -/
def hFwEnd (c : Vx) (s : State) : Res :=
  refuseRsv c [(2, msk 22 0)] <|
  refuse s.pw.fwOp.isSome .busy noWord <|
  refuse s.pw.fwOpen.isNone .badState noWord <|
  refuse (decide (slotWords < fld (c.w 2) 22 0)) .badParam 2 <|
  .acc ((s.onPw fun p => { p with fwOp := some (0x1003, s.clk), fwLen := fld (c.w 2) 22 0 }).start 0x1003 c.tag 0)

/-- FW_ACTIVATE (0x1004; R566). -/
def hFwActivate (_ : Vx) (s : State) : Res :=
  refuse (decide (2 < s.pw.st) || s.twin.role != 0) .badState noWord <|
  refuse (!s.slotOk (1 - s.pw.runs)) .badParam noWord <|
  .ok [] (s.onPw fun p => { p with tryS := some (1 - p.runs), restart := some (s.clk + msC) })

/-- FW_CONFIRM (0x1005; R567). -/
def hFwConfirm (c : Vx) (s : State) : Res :=
  refuseRsv c [(2, msk 0 0)] <|
  let n := if bit (c.w 2) 0 then max s.pw.counter (tab s.pw.slots s.pw.runs).svn else s.pw.counter
  .ok [n] (s.onPw fun p => { p with active := p.runs, counter := n })

/-- BOOT_TARGET (0x1006). -/
def hBootTarget (c : Vx) (s : State) : Res :=
  let t := fld (c.w 2) 2 0
  refuseRsv c [(2, msk 2 0)] <|
  refuse (t == 0 || decide (3 < t)) .badParam 2 <|
  .ok [] (s.onPw fun p => { p with bootTarget := t })

/-- The limits of R557 on a governing input: no RGB packing, the decimated picture, and its rate once the frame rate is
known. -/
def trickleBad (d div : Nat) (x : InSt) : Bool :=
  let (w, h) := decimated d x
  (x.kind == 1 && (x.packing == 0x31 || x.packing == 0x32)) || decide (4096 < w) || decide (2176 < h)
    || decide (250000000 * div * x.fden < w * h * x.fnum)

/-- TRICKLE_CONFIG (0x1010; R557, R560, R569). With ENABLE 0 the other fields but the reserved ones are not judged. -/
def hTrickleConfig (c : Vx) (s : State) : Res :=
  let w := c.w 2
  let rate := fld w 25 16
  let div := fld w 13 8
  refuseRsv c [(2, msk 25 16 + msk 13 8 + msk 2 0), (3, msk 25 16 + msk 10 8 + msk 5 0), (9, msk 31 26 + msk 22 0)] <|
  if !bit w 0 then
    let t := s.setTrickle c
    .ok [0] (if bit w 1 then t.onPw fun p => { p with profile := some ((List.range 9).map fun k => c.w (2 + k)) } else t)
  else
    refuse (rate == 0 || decide (1000 < rate)) .badParam 2 <|
    refuse (div == 0 || decide (60 < div)) .badParam 2 <|
    refuse (fld (c.w 3) 3 0 != 0) .badParam 3 <|
    let k (t : State) : Res :=
      let d := if bit w 2 then 8 else 4
      refuse (trickleBad d div (t.inp 0)) .badParam noWord <|
      let (pw, ph) := decimated d (t.inp 0)
      let t := s.setTrickle c
      let t := if bit w 1 then t.onPw fun p => { p with profile := some ((List.range 9).map fun k => c.w (2 + k)) } else t
      .ok [at' ph 16 + pw] t
    if s.pw.in0 then k s
    else match hInConfig (trickleIn c) s with
      | .ok _ t => k t
      | .err st word => .err st (if word < 2 then word else word + 1)
      | r => r

/-- TRICKLE_QUERY (0x1011). Without a picture the mean is not stated and free. -/
def hTrickleQuery (_ : Vx) (s : State) : Res :=
  let t := s.pw.te
  let x := s.inp 0
  let st := if !t.on || s.pw.st < 2 then 0 else if x.aligned && x.inFrame then 2 else 1
  let mean := if t.pictures = 0 then s.freeVal 570 0 else quot 570 t.bits t.pictures.toNat
  .ok [st, t.pictures.toNat, t.packets.toNat, mean % 4294967296] s.drawn

/-- HEALTH_QUERY (0x1020). Without a valid sensor the junction temperature is not stated and free. -/
def hHealthQuery (_ : Vx) (s : State) : Res :=
  let p := s.pw
  let j := match p.junction with | some t => (wInt t).toNat | none => s.freeVal 568 0
  .ok [p.vin, p.power, j % 4294967296, maskOf ((List.range 8).filter fun k => !(tab p.sensors k).out)] s.drawn

end Sys2Proof.Machine
end

