-- ==== Sys2Proof/Machine/Channels.lean ====
section
/-!
DEFINITION. Starting a channel (R206, R215, R239, R243, R281, R345, R382, R383, R408, R518): the checks, the first frame
boundary, and what a start gives its streams.
-/
namespace Sys2Proof.Machine

/-! ### The first frame boundary (R243) -/

/-- The first tracker cycle from `cyc` on whose predicted start of row 0 lies at or after a device time. -/
def State.cycleFrom (s : State) (c t : Nat) : Nat → Nat → Option Nat
  | 0, _ => none
  | k + 1, cyc =>
    match s.predictRow c cyc 0 with
    | some cap => if t ≤ s.startOf c cap then some cyc else s.cycleFrom c t k (cyc + 1)
    | none => none

/-- The same, searched from two frames before the place of that time on the timeline. -/
def State.firstCycle (s : State) (c t : Nat) : Option Nat :=
  match s.tlOf c with
  | none => none
  | some tl =>
    let k := s.trk tl
    let per := max 1 (k.e * k.tpred)
    s.cycleFrom c t 16 ((s.position tl).1 + (t - s.now) / per - 3)

/-! ### Flows of tile columns (R206) -/

/-- The flows of a channel's streams are free again. -/
def State.freeFlows (s : State) (c : Nat) : State :=
  let l := (s.enc.streams.filter fun t => t.used && t.chan == c).flatMap (·.flows)
  let s := s.onDs fun d => { d with flows := d.flows.filter fun f => !l.contains f.1 }
  s.onEnc fun e => { e with streams := e.streams.map fun t => if t.used && t.chan == c then { t with flows := [] } else t }

/-- k atomic flows are allocated, or none. -/
def State.allocFlows (s : State) : Nat → Option (List Nat × State)
  | 0 => some ([], s)
  | k + 1 =>
    match s.allocFlow 0 false 1 false with
    | some (i, s) => (s.allocFlows k).map fun (l, s) => (i :: l, s)
    | none => none

/-- Every stream of a channel receives a flow for each tile column. -/
def State.flowStreams (s : State) (cols : Nat) : List Nat → Option State
  | [] => some s
  | i :: rest =>
    match s.allocFlows cols with
    | some (l, s) => (s.onStrm i fun t => { t with flows := l }).flowStreams cols rest
    | none => none

/-! ### Sounders (R215) -/

/-- The loads that the placed bands of other channels put on the sounders. -/
def State.bandLoads (s : State) (c : Nat) : List Q :=
  s.enc.bands.foldl (fun l (x, ks) =>
    if x = c || !s.runs x then l
    else match (s.ch x).cfg, s.feed x with
      | some g, some (_, i) => addBandLoads l ks ((List.range ks.length).map fun k => bandLoad g i (g.bandWidth ks.length k))
      | _, _ => l) (List.replicate 4 ⟨0, 1⟩)
where
  /-- Loads put on named sounders. -/
  addBandLoads (l : List Q) (ks : List Nat) (bs : List Q) : List Q :=
    (ks.zip bs).foldl (fun l (k, b) => upd l k (·.add b)) l

/-- The sounders of a channel's bands, beside the bands that run, on the sounders in service. -/
def State.placeChan (s : State) (c : Nat) : Option (List Nat) :=
  match (s.ch c).cfg, s.feed c with
  | some g, some (_, i) => (sounderBands g i).bind fun bs => (placeBands (saList s.pw.other) (s.bandLoads c) bs).map (·.1)
  | _, _ => none

/-! ### Checks of CH_START -/

/-- A stream has its PKG_STREAM and a template for each path that it uses (R408). -/
def State.packReady (s : State) (i : Nat) : Bool :=
  let v := s.pv i
  v.set && (v.tmpl.getD 0 none).isSome && (!v.dual || (v.tmpl.getD 1 none).isSome)

/-- The size of the picture that the channel's processor gives (R136: rotation swaps the sides). -/
def IpSt.outSize (p : IpSt) : Nat × Nat := if p.rotate = 0 then (p.outW, p.outH) else (p.outH, p.outW)

/-- The stream IDs of a layout. -/
def Layout.ids (l : Layout) : List Nat := (List.range l.count).map (l.first + ·)

/-- The state with the channel's streams given to the packaging dippers one after another, each to the one with the lower
admitted rate (R382). -/
def State.assignDippers (s : State) (ids : List Nat) : State :=
  let s := ids.foldl (fun s i => s.onPv i fun v => { v with dipper := none }) s
  ids.foldl (fun s i => let d := s.lowerDipper; s.onPv i fun v => { v with dipper := some d }) s

/-- The engines that SET_POWER_STATE enabled carry the peak row load, and tasks keep R200 (R243). -/
def State.enginesCarry (s : State) (c : Nat) : Bool :=
  (s.peakTotal).le ⟨((List.range 16).filter (nbit s.pw.ce ·)).length * 1000000000, 1⟩ && s.columnsOk c && s.pairedTasksOk c

/-- The conditions under which a start is refused with BAD_STATE (R243, R408); a module in its safe state starts none
(R525). -/
def State.startBlocked (s : State) (c : Nat) : Bool :=
  let h := s.ch c
  h.st != 0 || s.pw.st != 4 || s.flt.safe.isSome
    || (match h.cfg, h.lay, h.rc, s.feed c, s.tlOf c with
      | some g, some l, some _, some (p, _), some tl =>
        (s.trk tl).st != 2 || p.outSize != (g.width, g.height) || l.cols == 0 || (s.placeChan c).isNone
          || !s.enginesCarry c || !l.ids.all s.packReady
      | _, _, _, _, _ => true)

/-- The status with which a start is refused, of the settled configuration (R243, R281, R383, R408, R595). A PTS_OFFSET
of PKG_STREAM is judged again, D being fixed now (R399; DEDUCED, log entry 81). -/
def State.startStatus (s : State) (c : Nat) : Option Status :=
  if s.startBlocked c then some .badState
  else if s.isRunning 0x0404 c then some .busy
  else match s.admission false [c] with
    | some st => some st
    | none =>
      let ids := match (s.ch c).lay with | some l => l.ids | none => []
      if (s.chooseDipper c).isNone then some .noResource
      else if !(ids.all fun i => (s.pv i).ptsAuto || s.ptsOk i) then some .badParam
      else if !(s.assignDippers ids).dippersOk then some .noResource
      else if ((s.freeFlows c).flowStreams (s.ch c).tileCols ids).isNone then some .noResource
      else none

/-! ### The start -/

/-- A stream begins: its skip templates are built, nothing is coded, nothing packed, its check is CLEAN, and a PTS_OFFSET of 0 selects
the minimum for the D that is fixed now (R219, R223, R224, R345, R387, R399). -/
def State.beginStream (s : State) (i : Nat) : State :=
  let t := s.strm i
  let h := s.ch t.chan
  let s := s.onStrm i fun t =>
    { chan := t.chan, used := t.used, flows := t.flows, rect := t.rect, phase := t.phase, packF := t.phase
      templates := match h.cfg with | some g => h.templates g t | none => [] }
  let s := if (tab s.dec.streams i).st = 0 then s else s.setChk i 0 0
  let s := (s.causeOff 0x07 0x05 i t.chan).onDec fun d => { d with streams := upd d.streams i fun _ => {} }
  s.onPv i fun v =>
    { v with ptsOffset := if v.ptsAuto then ceilDiv (s.minPts i v.audio) 1000000 * 1000000 else v.ptsOffset
             seq := v.seq0, cc := [], psiAt := none, pcrAt := none, lateFrame := none, released := none }

/-- The channel begins at a tracker cycle: D and the failover reserve are fixed, its counts start anew (R239, R243). -/
def State.beginChan (s : State) (c cycle : Nat) : State :=
  let x := (s.ch c).wantsX (s.twin.role != 0)
  let d := if (s.ch c).delay = 0 then (s.minDelay c x).getD 0 else (s.ch c).delay * nsU
  let s := s.onCc c fun cc => { cc with regions := cc.regions.map fun r => { r with since := 0, frames := [], acc := [] } }
  s.onCh c fun h =>
    { h with
      st := 1, cycle0 := cycle, d := d, x150 := x, needF := 0, needR := 0, last := none, frame := none, guarded := 0
      underrun := 0, coded := 0, gdrStarts := [], refreshes := [], idr := [], dip := (s.chooseDipper c).getD 0, frameGuards := []
      frameSkips := [], aux := [], notes := [] }

/-- What an earlier run of the channel left is gone. -/
def State.clearRun (s : State) (c : Nat) : State :=
  let s := s.onEnc fun e =>
    { e with rows := e.rows.filter (·.chan != c), tasks := e.tasks.filter (·.chan != c)
             output := e.output.filter fun x => (s.strm x.stream).chan != c }
  let s := s.onDec fun d => { d with recs := d.recs.filter (·.chan != c) }
  s.onTwin fun t => { t with nextRow := t.nextRow.filter (·.1 != c), shift := upd t.shift c fun _ => 0
                             converge := t.converge.filter (·.1 != c) }

/-- A channel starts at the first frame boundary at or after a device time, none where its checks fail. The state is
settled. -/
def State.startAt (s : State) (c t : Nat) : Except Status State :=
  match s.startStatus c with
  | some st => .error st
  | none =>
    match s.firstCycle c t, (s.ch c).lay with
    | some cyc, some l =>
      match ((s.clearRun c).freeFlows c).flowStreams (s.ch c).tileCols l.ids with
      | none => .error .noResource
      | some s =>
        let bands := (s.placeChan c).getD []
        let s := s.onEnc fun e => { e with bands := aset e.bands c bands }
        let s := (s.beginChan c cyc).assignDippers l.ids
        .ok (l.ids.foldl State.beginStream s)
    | _, _ => .error .badState

/-- CH_START (0x0403): the first frame boundary at least 100 us from now. -/
def hChStart (c : Vx) (s : State) : Res :=
  let ch := fld (c.w 2) 3 0
  refuseRsv c [(2, msk 3 0)] <|
  match s.settle.startAt ch (s.now + 100 * usU) with
  | .error st => .err st (if st = .badState then 2 else noWord)
  | .ok s => .acc (s.start 0x0403 c.tag ch)

end Sys2Proof.Machine
end

