-- ==== Sys2Proof/Machine/Decoder.lean ====
section
/-!
DEFINITION. The confidence decoder and the return feeds (chapter 11 of spec/): decode tasks and their comparison, check
states, reception and decoding of feeds, and the commands of group 0x08.
-/
namespace Sys2Proof.Machine

/-- A change of one decode record, of one stream's check, of one feed. -/
def State.onDecRec (s : State) (id : Nat) (f : DecRec → DecRec) : State :=
  s.onDec fun d => { d with recs := d.recs.map fun r => if r.id = id then f r else r }
def State.onChk (s : State) (i : Nat) (f : ChkSt → ChkSt) : State :=
  s.onDec fun d => { d with streams := upd d.streams i f }
def State.onFeed (s : State) (i : Nat) (f : Feed → Feed) : State :=
  s.onDec fun d => { d with feeds := upd d.feeds i f }

/-- The check of a stream; a feed. -/
def State.chk (s : State) (i : Nat) : ChkSt := tab s.dec.streams i
def State.rf (s : State) (i : Nat) : Feed := tab s.dec.feeds i

/-! ### Decode tasks (R337 to R339) -/

/-- The slice of a task is complete: coded, or written by the packaging dipper from a skip template (R338). -/
def State.sliceDone (s : State) (t : TaskRec) : Bool :=
  if t.skip || t.st = 4 then t.over && (s.row? t.chan t.frame t.crow).any fun r => r.packaged.contains t.stream
  else t.over

/-- Every row from n - 2 to n + 2 of the stream's previous picture is decoded or cancelled (R338). -/
def State.refsDone (s : State) (r : DecRec) : Bool :=
  s.dec.recs.all fun q =>
    !(q.stream == r.stream && q.frame + (s.ch r.chan).phases == r.frame && q.row ≤ r.row + 2 && r.row ≤ q.row + 2)
      || q.st == 2 || q.st == 3

/-- The records that may be made ready. -/
def State.decodable (s : State) : List DecRec :=
  s.dec.recs.filter fun r => r.st == 0 && (match s.task? r.task with | some t => s.sliceDone t | none => false) && s.refsDone r

/-- The descriptor of a DECODE_ROW task (R337). Its COOKIE is free. -/
def decodeDesc (s : State) (r : DecRec) (prio : Nat) : Desc :=
  { type := 3, cls := 1, prio := prio, flow := 0, flowed := false, pin := false, unit := 0, payload := r.id
    dl := some r.deadline, cookie := s.freeVal 337 r.id % 65536, pump := none }

/-- DECODE_READY: the tasks whose two conditions hold are made ready, in the order of their creation (R338). -/
def execDecodeReady (wait : Nat) (s : State) : Host.Outcome State Fault Refusal :=
  let s := s.pass wait
  .next (s.decodable.foldl (fun s r =>
    match (s.ch r.chan).cfg with
    | some g => ((s.onDecRec r.id fun r => { r with st := 1 }).submit 15 (decodeDesc s r g.dsPrio)).drawn
    | none => s) s)

/-! ### Comparison and check states (R341 to R348) -/

/-- First frame after the refresh period that a mismatch in a frame starts, or, without AUTO_REFRESH, after the next
period of R220 (R346). -/
def State.startRefresh (s : State) (c frame : Nat) : Nat × State :=
  let h := s.ch c
  match h.cfg with
  | none => (frame, s)
  | some g =>
    let n := if g.struct = 2 then 1 else h.gdrP
    if (tab s.dec.checks c).refresh then
      let (f, s) := s.refreshChan c false
      (f + n * h.phases, s)
    else
      let per := n * h.phases
      let first := h.gdrStart frame
      (first + (ceilDiv (frame + 1 - first) per + 1) * per, s)

/-- Whether every task of a stream's picture has been decoded and has matched. -/
def State.pictureMatched (s : State) (stream frame : Nat) : Bool :=
  let t := s.strm stream
  match (s.ch t.chan).cfg with
  | some g =>
    let l := s.dec.recs.filter fun r => r.stream == stream && r.frame == frame
    l.length == t.rows g.ctu * (s.ch t.chan).tileCols && l.all fun r => r.st == 2 && r.result == 0
  | none => false

/-- A mismatch of a compared task (R346, R347). -/
def State.mismatch (s : State) (r : DecRec) : State :=
  let x := s.chk r.stream
  if x.st = 0 then
    let s := (s.raise 0x07 0x01 r.stream r.chan).event 0x0801 r.chan (chanVec r.chan)
      [at' r.stream 15 + at' r.col 10 + r.row, r.frame, r.expect, r.decoded]
    let times := (s.now :: x.entered).filter fun t => decide (s.now < t + 10 * secU)
    let (f, s) := s.startRefresh r.chan r.frame
    let s := (s.setChk r.stream r.frame 1).onChk r.stream fun x => { x with target := some f, entered := times.take 3 }
    if 3 ≤ times.length then s.raise 0x07 0x02 r.stream r.chan else s
  else
    match x.target with
    | some t =>
      if t ≤ r.frame then
        let (f, s) := (s.raise 0x07 0x02 r.stream r.chan).startRefresh r.chan r.frame
        s.onChk r.stream fun x => { x with target := some f }
      else s
    | none => s

/-- The self-check has finished with a slice: it returns the slice's credit (R24, R339). -/
def State.sliceChecked (s : State) (r : DecRec) : State :=
  (s.onEnc fun e =>
    { e with output := e.output.map fun x =>
        if x.isSlice && x.stream == r.stream && x.frame == r.frame && x.row == r.row && x.col == r.col
        then { x with checked := true } else x }).dropUnits

/-- The pictures that the decoder of a stream holds: at a standby the reference cistern itself (R478), else the decoder's own. -/
def State.decodedPics (s : State) (stream : Nat) : List RefPic :=
  if 2 ≤ s.twin.role then (s.strm stream).refs else (s.chk stream).dpb

/-- The decoded samples of a task, damaged CTUs concealed, and the state that holds them as a later reference (R346, R358). -/
def State.keepDecoded (s : State) (j : Job) (l : List DecCtu) : List (List Nat) × State :=
  let old := s.decodedPics j.t.stream
  let planes := j.decoded (coLocated old j.t) l
  if 2 ≤ s.twin.role then (planes, s.reconstruct j.t planes)
  else
    let pics := openRef old (if j.g.struct = 2 then 1 else j.g.refs) j.t.frame
    (planes, s.onChk j.t.stream fun x => { x with dpb := putPart pics j.t.frame ⟨j.t.col, j.t.row, planes⟩ })

/-- The hash of the decoder's picture against the one that the picture hash SEI carried (R348). -/
def State.hashDiffers (s : State) (j : Job) (hash : List Nat) : Bool :=
  match findPic (s.chk j.t.stream).dpb j.t.frame with
  | some p => p.hashes j.g j.st j.h.tileCols != hash
  | none => false

/-- What a comparison of a task changes where the check compares: the counts, faults and states (R341, R346 to R348). -/
def State.compare (s : State) (r : DecRec) (j : Job) (res : DecResult) : State :=
  let bad := r.result != 0
  let s := s.onChk r.stream fun x =>
    { x with compared := x.compared + 1
             mismatches := if bad then x.mismatches + 1 else x.mismatches
             lastFrame := if bad then r.frame else x.lastFrame }
  let s := if res.error then s.raise 0x07 0x04 r.stream r.chan else s
  let s := if bad then s.mismatch r else s
  if !s.pictureMatched r.stream r.frame then s
  else
    let s := if (s.ch r.chan).sei.hash && s.hashDiffers j res.hash then s.raise 0x07 0x03 r.stream r.chan else s
    let y := s.chk r.stream
    if y.st = 1 && (match y.target with | some t => decide (t ≤ r.frame) | none => false) then
      (s.setChk r.stream r.frame 0).onChk r.stream fun x => { x with target := none }
    else s

/-- A DECODE_ROW task completes: DECODED is compared with EXPECT where the stream's state compares, at a standby always (R341,
R478). -/
def State.decodeRow (s : State) (r : DecRec) (j : Job) (res : DecResult) : State :=
  let (planes, s) := s.keepDecoded j res.ctus
  let decoded := planesCrc planes
  let standby := decide (2 ≤ s.twin.role)
  let compares := standby || decide ((s.chk r.stream).st ≤ 1)
  let result := if !compares then 0 else if res.error then 2 else if decoded = r.expect % 4294967296 then 0 else 1
  let r := { r with decoded := decoded, concealed := j.cols.2 - res.ctus.length, result := result, st := 2 }
  let s := (s.onDecRec r.id fun _ => r).sliceChecked r
  let s := if res.refBad then s.raise 0x08 0x0A 0 r.chan else s
  if standby then s.standbyDecoded r (result == 0)
  else if compares then s.compare r j res
  else s

/-- A decode record is cancelled: its task leaves Dispatch where it waits there, and the slice's credit returns (R339). -/
def State.cancelDec (s : State) (r : DecRec) : State :=
  let s := match s.entOf 3 r.id with
    | some e => s.cancelEnt e
    | none => s
  let s := s.onDs fun d => { d with held := d.held.filter fun h => !(h.desc.type == 3 && h.desc.payload == r.id) }
  let s := (s.onDecRec r.id fun r => { r with st := 3, result := 3 }).sliceChecked r
  if 2 ≤ s.twin.role then s.standbyDecoded r false
  else s.onChk r.stream fun x => { x with cancelled := x.cancelled + 1 }

/-- A record that is pending: not decoded, not cancelled, not in service (R343; a task pulled in this clock counts as
waiting, R303). -/
def State.decPending (s : State) (r : DecRec) : Bool :=
  (r.st == 0 || r.st == 1 || r.st == 4) &&
    match s.entOf 3 r.id with
    | some e => e.cancellable s.clk || e.st == 3
    | none => true

/-- CHECK_DEADLINE: at the earliest check deadline the row's tasks that are not in service are cancelled; of each stream
concerned every pending task is, and its check is SUSPENDED (R343). -/
def execCheckDeadline (s : State) : Host.Outcome State Fault Refusal :=
  match minBy (·.deadline) (s.dec.recs.filter s.decPending) with
  | none => .next s
  | some r0 =>
    let s := s.toTime r0.deadline
    let row := s.dec.recs.filter fun r => s.decPending r && r.deadline ≤ s.now
    .next ((row.map (·.stream)).eraseDups.foldl (fun s i =>
      let s := (s.dec.recs.filter fun r => r.stream == i && s.decPending r).foldl State.cancelDec s
      let c := (s.strm i).chan
      if (s.chk i).st = 3 || 2 ≤ s.twin.role then s else (s.raiseOn 0x07 0x05 i c).setChk i r0.frame 3) s)

/-! ### Reception of feeds (R349 to R354) -/

/-- FEED_STATE. -/
def State.feedEvt (s : State) (i : Nat) : State :=
  let f := s.rf i
  s.event 0x0803 0xFF 1 [i, f.st, at' f.h 16 + f.w]

/-- A feed changes its state; the causes of the state that it leaves end. -/
def State.setFeed (s : State) (i st : Nat) : State :=
  let old := (s.rf i).st
  if old = st then s
  else
    let s := if old = 4 then (s.causeOff 0x08 0x04 i).causeOff 0x08 0x05 i else s
    (s.onFeed i fun f => { f with st := st }).feedEvt i

/-- Happenings of this second: entry k counts n more. -/
def State.feedSec (s : State) (i k n : Nat) : State :=
  s.onFeed i fun f => { f with sec := upd f.sec k (· + n) }

/-- The pieces of a slice segment: at most 2,048 CTUs and 8,388,608 luma samples each (table "RETURN_FEED record"). -/
def feedPieces (ctu : Nat) (n : FeedSlice) : List (Nat × Nat) :=
  let lim := max 1 (min 2048 (8388608 / max 1 (ctu * ctu)))
  (List.range (max 1 (ceilDiv n.ctus lim))).map fun k => (n.firstCtu + k * lim, min lim (n.ctus - k * lim))

/-- The descriptor of a RETURN_FEED task: one atomic flow at the feed's priority, no deadline (R352, R354). -/
def feedDesc (s : State) (f : Feed) (id : Nat) : Desc :=
  { type := 4, cls := 1, prio := f.prio, flow := f.flow.getD 0, flowed := f.flow.isSome, pin := false, unit := 0
    payload := id, dl := none, cookie := s.freeVal 354 id % 65536, pump := none }

/-- A parameter set that a feed holds, and the SPS that a slice's picture activates, where every set that the slice refers to
has been received (R357). -/
def Feed.param (f : Feed) (kind id : Nat) : Option FeedParam := f.params.find? fun p => p.kind == kind && p.id == id
def Feed.sps (f : Feed) (n : FeedSlice) : Option FeedSps :=
  match (f.param 2 n.pps).bind (·.parent) with
  | none => none
  | some i => match f.param 1 i with
    | none => none
    | some p => if p.parent.all (fun v => (f.param 0 v).isSome) && n.aps.all (fun a => (f.param 3 a).isSome) then p.sps else none

/-- The limits of R352 on an activated SPS. -/
def Feed.fits (f : Feed) (p : FeedSps) : Bool :=
  p.listed && decide (p.level.1 < 6 || (p.level.1 == 6 && p.level.2 ≤ 1)) && decide (p.w ≤ min 8192 f.maxW)
    && decide (p.h ≤ min 8192 f.maxH) && decide (p.dpb ≤ f.dpb)

/-- The records and tasks of a slice segment. -/
def State.feedTasks (s : State) (i ctu : Nat) (len : Nat) (n : FeedSlice) : State :=
  (feedPieces ctu n).foldl (fun s (first, ctus) =>
    let f := s.rf i
    let id := s.dec.next
    let s := s.onDec fun d => { d with next := id + 1 }
    let r : FeedRec := ⟨id, f.au, s.freeVal 352 id % 4294967296, len, first, ctus, 0, false, false, false⟩
    let s := s.onFeed i fun f => { f with recs := f.recs ++ [r] }
    (s.submit 16 (feedDesc s f id)).drawn) s

/-- An SPS that fails the check: the feed is SUSPENDED and decodes nothing more until one passes (R353). -/
def State.feedUnfit (s : State) (i : Nat) : State :=
  let s := if (s.rf i).st = 4 then s else (s.raiseOn 0x08 0x04 i).setFeed i 4
  s.onFeed i fun f => { f with started := false }

/-- A slice starts the picture of its access unit: it activates its SPS, and may be where decoding starts; pictures of before
such a start are output no more (R353, R354; log entry 47). -/
def State.feedOpen (s : State) (i : Nat) (sps : FeedSps) (start : Nat) (n : FeedSlice) : State :=
  let begins := !(s.rf i).started
  let s := s.onFeed i fun f =>
    let at' : Option Int := if begins then some n.recovery else if start = 1 then none else f.recoverAt
    { f with
      started := true, recoverAt := at', profile := sps.idc
      pics := if begins then f.pics.map fun p => { p with waiting := false } else f.pics
      opens := f.opens ++ [{ au := f.au, poc := n.poc, sps := sps, refs := n.refs, generated := n.generated
                             early := at'.any (n.poc < ·) }] }
  if begins && ((s.rf i).st = 1 || (s.rf i).st = 4) then s.setFeed i 2 else s

/-- A slice segment of a feed. Decoding starts at an IRAP or GDR picture or at one with a recovery point, from SUSPENDED at an IRAP
or GDR picture, and units before it are discarded (R353, R354); a reserved value or a parameter set that was not received makes
it a syntax error, and its CTUs stay damaged (R357). -/
def State.feedSlice (s : State) (i : Nat) (n : FeedNal) (x : FeedSlice) : State :=
  let f := s.rf i
  if !f.started && (n.start = 0 || (f.st = 4 && n.start = 3)) then s
  else match (if n.intact then f.sps x else none) with
  | none => s.feedSec i 0 1
  | some sps =>
    if f.opens.any (·.au == f.au) || f.pics.any (·.au == f.au) then s.feedTasks i sps.ctu n.len x
    else if f.fits sps then (s.feedOpen i sps n.start x).feedTasks i sps.ctu n.len x
    else s.feedUnfit i

/-- A NAL unit of a feed: a parameter set is kept, an erroneous one is discarded and the earlier one with its ID stays (R358). -/
def State.feedNal (s : State) (i : Nat) (n : FeedNal) : State :=
  match n.param, n.slice with
  | some p, _ =>
    if n.intact then s.onFeed i fun f => { f with params := p :: f.params.filter fun q => !(q.kind == p.kind && q.id == p.id) }
    else s.feedSec i 0 1
  | none, some x => s.feedSlice i n x
  | none, none => if n.intact then s else s.feedSec i 0 1

/-! ### Pictures of a feed (R355 to R359) -/

/-- The enabled layers that read a feed: channel, layer. -/
def State.feedLayers (s : State) (i : Nat) : List (Nat × Nat) :=
  (List.range 16).flatMap fun c =>
    if !(s.cc c).on then [] else
    ((List.range 8).filter fun k => let l := tab (s.cc c).layers k; l.on && l.source == 1 && l.srcId == i).map fun k => (c, k)

/-- The oldest buffer of a feed that no layer has latched (R356). -/
def State.freeBuf (s : State) (i : Nat) : Option Nat :=
  let f := s.rf i
  let taken (b : Nat) : Bool := (s.feedLayers i).any fun (c, k) =>
    match (tab (s.cc c).layers k).latched with
    | some x => x.buf == b && x.num == (f.bufs.getD b {}).num && (f.bufs.getD b {}).full
    | none => false
  minBy (fun b => (f.bufs.getD b {}).num) ((List.range f.frames).filter fun b => !taken b)

/-- An output picture: into a buffer at 10 bits, complete now, or dropped (R355, R356); a format or size that its layers cannot
take raises COMP:0x08 (R170). -/
def State.feedOutput (s : State) (i : Nat) (p : FeedPic) : State :=
  let (w, h, chroma) := (p.sps.w, p.sps.h, p.sps.chroma)
  match s.freeBuf i with
  | none => s.feedSec i 3 1
  | some b =>
    let s := s.onFeed i fun f =>
      { f with
        output := f.output + 1, w := w, h := h
        bufs := (List.range f.frames).map fun k =>
          if k = b then { w := w, h := h, chroma := chroma, num := f.output.toNat + 1, full := true, pic := p.atTen, t := s.now }
          else f.bufs.getD k {} }
    let s := if (s.rf i).st = 2 then s.setFeed i 3 else s
    if chroma == 0 || chroma == 3 || decide (8192 < w) || decide (8192 < h) then
      (s.feedLayers i).foldl (fun s (c, k) => s.raise 0x03 0x08 k c) s
    else s

/-- The decoding of a picture begins: pictures that are neither references nor waiting for output leave the decoded picture buffer,
and each reference never received gets its substitute, the picture with the largest POC below it (R359). -/
def Feed.begin (f : Feed) (p : FeedPic) : Feed × FeedPic :=
  let pics := f.pics.filter fun q => q.waiting || p.refs.contains q.poc
  let missing := p.refs.filter fun r => !p.generated.contains r && !pics.any (·.poc == r)
  let lower (r : Int) : Option Int := ((pics.filter fun q => decide (q.poc < r)).map (·.poc)).foldl
    (fun m x => match m with | some y => some (max x y) | none => some x) none
  ({ f with pics := pics }, { p with begun := true, subst := missing.map fun r => (r, lower r) })

def State.feedBegin (s : State) (i : Nat) (p : FeedPic) : State :=
  if p.begun then s
  else
    let (f', q) := (s.rf i).begin p
    let n := q.subst.length
    let s := s.onFeed i fun f =>
      { f with pics := f'.pics, opens := f.opens.map (fun x => if x.au = p.au then q else x), subst := f.subst + w32 n }
    if n = 0 then s else s.feedSec i 1 n

/-- A damaged CTU of a picture takes the co-located samples of the most recently decoded picture of its format in the buffer, or flat
ones (R358). -/
def FeedPic.conceal (p : FeedPic) (prev : Option FeedPic) (k : Nat) : DecCtu :=
  let r := p.rect k
  match prev.bind fun q => if q.sps.w = p.sps.w && q.sps.h = p.sps.h && q.sps.chroma = p.sps.chroma && q.sps.depth = p.sps.depth
      then some q else none with
  | some q => ⟨k, (planeDivs p.sps.chroma).zipIdx.map fun ((dx, dy), c) =>
      (List.range (r.h / dy)).flatMap fun y => (List.range (r.w / dx)).map fun x => q.sample c (r.x / dx + x) (r.y / dy + y)⟩
  | none => ⟨k, (rectShape p.sps.chroma r).map fun n => List.replicate n (2 ^ (p.sps.depth - 1))⟩

/-- Pictures end in decoding order: the oldest once its tasks are over and either every CTU of it is decoded or its access unit has
ended; its damaged CTUs are concealed and it enters the decoded picture buffer (R358). -/
def State.feedClose (s : State) (i : Nat) : Nat → State
  | 0 => s
  | k + 1 =>
    let f := s.rf i
    match f.opens with
    | [] => s
    | p :: _ =>
      let busy := f.recs.any fun r => r.au == p.au && !r.closed
      if busy || (f.au = p.au && p.ctus.length < p.count) then s
      else
        let s := s.feedBegin i p
        let f := s.rf i
        let p := f.opens.headD p
        let lost := (List.range p.count).filter fun k => !p.ctus.any (·.at' == k)
        let q := { p with ctus := p.ctus ++ lost.map (p.conceal f.pics.head?) }
        let s := s.onFeed i fun f =>
          { f with opens := f.opens.drop 1, pics := q :: f.pics, recs := f.recs.filter (·.au != p.au)
                   concealed := f.concealed + w32 lost.length }
        (if lost.isEmpty then s else s.feedSec i 5 lost.length).feedClose i k

def State.feedsClose (s : State) : State := (List.range 8).foldl (fun s i => s.feedClose i ((s.rf i).opens.length)) s

/-- A packet leaves the reorder window: access units, fragments, NAL units (R350). -/
def State.feedDeliver (s : State) (i : Nat) (p : FeedPkt) : State :=
  let s := s.onFeed i fun f =>
    let newAu := if f.encap = 2 then p.aud else f.auTs != some p.ts
    { f with
      auTs := some p.ts, au := if newAu then f.au + 1 else f.au, next := some ((p.seq + 1) % 65536)
      fragOk := if p.frag = 1 then true else f.fragOk }
  let s := s.feedClose i ((s.rf i).opens.length)
  let whole := p.frag != 3 || (s.rf i).fragOk
  let s := if p.frag = 3 then s.onFeed i fun f => { f with fragOk := false } else s
  if whole then p.nals.foldl (fun s n => s.feedNal i n) s else s

/-- Sequence numbers that the window has passed are lost (R350). -/
def State.feedLost (s : State) (i n : Nat) : State :=
  if n = 0 then s
  else (s.feedSec i 2 n).onFeed i fun f => { f with lost := f.lost + w32 n, fragOk := false }

/-- How far a sequence number lies ahead of another, modulo 65,536. -/
def seqAhead (a b : Nat) : Nat := (a + 65536 - b) % 65536

/-- The waiting packets that can go on leave the window; beyond 256 numbers the missing ones are lost. -/
def State.feedDrain (s : State) (i : Nat) : Nat → State
  | 0 => s
  | k + 1 =>
    let f := s.rf i
    match f.next, minBy (fun w => seqAhead w.pkt.seq (f.next.getD 0)) f.window with
    | some n, some w =>
      let far := (f.window.map fun x => seqAhead x.pkt.seq n).foldl max 0
      if w.pkt.seq = n || 256 ≤ far then
        let s := s.feedLost i (seqAhead w.pkt.seq n)
        let s := s.onFeed i fun f => { f with window := f.window.erase w }
        (s.feedDeliver i w.pkt).feedDrain i k
      else s
    | _, _ => s

/-- FEED_PACKET: a packet of a feed that passed PORT_RX_FRAME enters the reorder window (R349, R350). One that lies behind
the window or is there already is discarded. -/
def execFeedPacket (wait feed : Nat) (p : FeedPkt) (s : State) : Host.Outcome State Fault Refusal :=
  let s := s.pass wait
  let f := s.rf feed
  if 7 < feed || f.st = 0 then .next s
  else
    let s := (s.causeOff 0x08 0x09 feed).onFeed feed fun f => { f with heard := s.clk }
    if !p.supported then .next (s.onFeed feed fun f => { f with other := f.other + 1 })
    else
      let n := f.next.getD p.seq
      if 32768 ≤ seqAhead p.seq n || f.window.any (·.pkt.seq == p.seq) then .next s
      else
        let s := s.onFeed feed fun f => { f with next := some n, window := f.window ++ [⟨p, s.clk⟩] }
        .next (s.feedDrain feed (f.window.length + 1))

/-- FEED_REORDER_EXPIRE: the clock runs on until a packet has waited 2 ms; the numbers missing before it are lost (R350). -/
def execFeedReorderExpire (s : State) : Host.Outcome State Fault Refusal :=
  let l := (List.range 8).flatMap fun i => (s.rf i).window.map fun w => (i, w)
  match minBy (fun x => x.2.clk) l with
  | none => .next s
  | some (i, w) =>
    let s := s.toClk (w.clk + 2 * msC)
    let n := ((s.rf i).next).getD w.pkt.seq
    -- every waiting packet up to this one goes on, in order
    let before := sortBy (fun x => seqAhead x.pkt.seq n) ((s.rf i).window.filter fun x => seqAhead x.pkt.seq n ≤ seqAhead w.pkt.seq n)
    let s := before.foldl (fun s x =>
      let n := ((s.rf i).next).getD x.pkt.seq
      let s := s.feedLost i (seqAhead x.pkt.seq n)
      (s.onFeed i fun f => { f with window := f.window.erase x }).feedDeliver i x.pkt) s
    .next (s.feedDrain i 256)

/-- FEED_TIMEOUT: the clock runs on to the first feed that has received nothing for TIMEOUT (R351). -/
def execFeedTimeout (s : State) : Host.Outcome State Fault Refusal :=
  let l := (List.range 8).filterMap fun i => let f := s.rf i; if 2 ≤ f.st then some (i, f.heard + f.timeout * msC) else none
  match minBy (·.2) l with
  | none => .next s
  | some (i, t) =>
    let s := (s.toClk t).raiseOn 0x08 0x09 i
    .next ((s.setFeed i 1).onFeed i fun f => { f with started := false })

/-- FEED_RATE_MEASURE: the luma rate of the second that ends; above 1.5 G samples/s a feed is SUSPENDED (R352, R353). -/
def execFeedRateMeasure (s : State) : Host.Outcome State Fault Refusal :=
  let s := s.toTime s.dec.rateAt
  let s := s.onDec fun d => { d with rateAt := max (d.rateAt + secU) ((s.second + 1) * secU) }
  .next ((List.range 8).foldl (fun s i =>
    let f := s.rf i
    if f.st = 0 then s
    else
      let s := s.onFeed i fun f => { f with measured := f.luma, luma := 0 }
      if 1500000000 < f.luma && 2 ≤ f.st && f.st ≤ 3 then
        ((s.raiseOn 0x08 0x05 i).setFeed i 4).onFeed i fun f => { f with started := false }
      else s) s)

/-- FEED_ERROR_SECOND: the happenings of the second that ends, once each, with FEED_ERRORS (R360). -/
def execFeedErrorSecond (s : State) : Host.Outcome State Fault Refusal :=
  let s := s.toTime s.dec.second
  let s := s.onDec fun d => { d with second := max (d.second + secU) ((s.second + 1) * secU) }
  .next ((List.range 8).foldl (fun s i =>
    let n := (s.rf i).sec
    if n.all (· == 0) then s
    else
      let s := [(0, 0x01), (1, 0x02), (2, 0x03), (3, 0x08), (4, 0x0A)].foldl
        (fun s (k, code) => if n.getD k 0 = 0 then s else s.raise 0x08 code i) s
      (s.event 0x0804 0xFF 1 [i, n.getD 2 0, n.getD 5 0, n.getD 1 0]).onFeed i fun f => { f with sec := [0, 0, 0, 0, 0, 0] }) s)

/-! ### Engine errors (R336) -/

/-- A decode engine reports an internal error: the task is made ready again once, at priority 6; the third error within
1 s takes the engine out of service. -/
def State.decodeError (s : State) (u : Nat) (e : Ent) : State :=
  let i := u - 16
  let s := s.raise 0x08 0x06 i
  let again := if e.desc.type = 3 then (s.dec.recs.find? (·.id == e.desc.payload)).any (·.retried)
    else s.dec.feeds.any fun f => (f.recs.find? (·.id == e.desc.payload)).any (·.retried)
  let s := if again then
      let s := ((s.freeUnit u e.start false).flowOn e.desc).drop e
      if e.desc.type = 3 then s.onDecRec e.desc.payload fun r => { r with st := 4 }
      else (s.onDec fun d => { d with feeds := d.feeds.map fun f =>
        { f with recs := f.recs.map fun r => if r.id = e.desc.payload then { r with closed := true } else r } }).feedsClose
    else
      let s := s.retryEnt e
      if e.desc.type = 3 then s.onDecRec e.desc.payload fun r => { r with retried := true }
      else s.onDec fun d => { d with feeds := d.feeds.map fun f =>
        { f with recs := f.recs.map fun r => if r.id = e.desc.payload then { r with retried := true } else r } }
  let times := (s.now :: tab s.dec.errors i).take 3
  let s := s.onDec fun d => { d with errors := upd d.errors i fun _ => times }
  if times.length = 3 && s.now < times.getD 2 0 + secU && tab s.dec.service i then
    ((s.onDec fun d => { d with service := upd d.service i fun _ => false }).onUnit u fun x => { x with enabled := false }).raiseOn
      0x08 0x07 i
  else s

/-! ### Decoding of feeds (R352 to R361) -/

/-- The CTUs of a result up to the first that lies outside the picture or was decoded already (R357). -/
def FeedPic.takes (p : FeedPic) : List DecCtu → List DecCtu → List DecCtu
  | _, [] => []
  | got, u :: rest => if p.count ≤ u.at' || got.any (·.at' == u.at') then [] else u :: p.takes (u :: got) rest

/-- A picture that the output process releases: once it may be output, it leaves for the ring (R354 to R356). -/
def State.feedRelease (s : State) (i : Nat) (poc : Int) : State :=
  let f := s.rf i
  match (f.pics.reverse.find? fun p => p.waiting && p.poc == poc) with
  | none => s
  | some p =>
    let s := s.onFeed i fun f => { f with pics := f.pics.map fun q => if q.au = p.au then { q with waiting := false } else q }
    if p.early && !f.earlyOut then s else s.feedOutput i p

/-- A RETURN_FEED task completes: its CTUs enter their picture, an error leaves the rest of it damaged (R353, R357 to R361). -/
def State.decodeFeed (s : State) (i : Nat) (r : FeedRec) (res : DecResult) : State :=
  match (s.rf i).opens.find? (·.au == r.au) with
  | none => s.onFeed i fun f => { f with recs := f.recs.map fun x => if x.id = r.id then { x with closed := true } else x }
  | some p =>
    let s := s.feedBegin i p
    let l := p.takes p.ctus res.ctus
    let error := res.error || decide (l.length < res.ctus.length) || decide (l.length < r.ctus)
    let s := s.onFeed i fun f =>
      { f with
        opens := f.opens.map fun q => if q.au = r.au then { q with ctus := q.ctus ++ l } else q
        recs := f.recs.map fun x => if x.id = r.id then { x with closed := true, done := l.length, error := error } else x
        luma := f.luma + sumNat (l.map fun u => (p.rect u.at').area) }
    let s := if error then s.feedSec i 0 1 else s
    let s := if res.refBad then s.feedSec i 4 1 else s
    let s := s.feedClose i ((s.rf i).opens.length)
    if (s.rf i).st = 2 || (s.rf i).st = 3 then res.outs.foldl (fun s poc => s.feedRelease i poc) s else s

/-- The CTUs of a result have the sizes of their places in the picture and samples of its depth. -/
def FeedPic.decodedOk (p : FeedPic) (r : DecResult) : Bool :=
  r.ctus.all fun u => u.planes.map List.length == rectShape p.sps.chroma (p.rect u.at')
    && u.planes.all (·.all fun v => decide (v < 2 ^ p.sps.depth))

/-- DECODE_COMPLETE: a decode engine (global unit index) completes the task that it holds. A result that no decoder makes of the
task has no effect (log entry 66). -/
def execDecodeComplete (wait unit : Nat) (res : DecResult) (s : State) : Host.Outcome State Fault Refusal :=
  let s := s.pass wait
  match (tab s.ds.units unit).holds.bind s.ent with
  | none => .next s
  | some e =>
    if e.desc.type = 3 then
      match s.dec.recs.find? (·.id == e.desc.payload) with
      | none => .next s
      | some r => match (s.task? r.task).bind s.job? with
        | some j => .next (if j.decodedOk res then (s.decodeRow r j res).finishEnt e else s)
        | none => .next s
    else if e.desc.type = 4 then
      match (List.range 8).find? fun i => (s.rf i).recs.any (·.id == e.desc.payload) with
      | none => .next (s.finishEnt e)
      | some i => match (s.rf i).recs.find? (·.id == e.desc.payload) with
        | some r =>
          let ok := ((s.rf i).opens.find? (·.au == r.au)).all (·.decodedOk res)
          .next (if ok then (s.decodeFeed i r res).finishEnt e else s)
        | none => .next s
    else .next s

/-! ### Commands of group 0x08 (R362) -/

/-- SELFCHECK_CONFIG of a running channel must be staged. -/
def checkNeedStage (c : Vx) (s : State) : Bool := s.runs (fld (c.w 2) 3 0)

/-- SELFCHECK_CONFIG (0x0800). -/
def hSelfcheckConfig (c : Vx) (s : State) : Res :=
  let ch := fld (c.w 2) 3 0
  let on := bit (c.w 2) 8
  let auto := bit (c.w 2) 9
  refuseRsv c [(2, msk 9 8 + msk 3 0)] <|
  let now : State := s.onDec fun d => { d with checks := upd d.checks ch fun x => { x with on := on, refresh := auto, next := none } }
  refuse ((!now.sumsLater && !now.decodeOk) || (!now.host.lenient && !now.decodeWellsOk)) .noResource noWord <|
  let left := quot 800 (9000000000 * now.decodeLoad.den - now.decodeLoad.num) (now.decodeLoad.den * 1000000)
  if s.runs ch then
    .ok [left] (s.onDec fun d => { d with checks := upd d.checks ch fun x => { x with next := some (s.nextPicture ch, on, auto) } })
  else .ok [left] now

/-- SELFCHECK_QUERY (0x0801). -/
def hSelfcheckQuery (c : Vx) (s : State) : Res :=
  let ch := fld (c.w 2) 3 0
  let i := fld (c.w 2) 8 4
  refuseRsv c [(2, msk 8 0)] <|
  match (s.ch ch).lay with
  | none => .err .badState noWord
  | some l =>
    refuse (decide (l.count ≤ i)) .badParam 2 <|
    let x := s.chk (l.first + i)
    .ok [x.st, x.compared.toNat, x.mismatches.toNat, x.cancelled.toNat, x.lastFrame % 4294967296] s

/-- FEED_CONFIG (0x0810). With ENABLE clear the other fields are not judged. The bytes allocated are not stated and free. -/
def hFeedConfig (c : Vx) (s : State) : Res :=
  let w2 := c.w 2
  let i := fld w2 2 0
  let tmo := fld (c.w 3) 31 16
  let rate := (c.w 9).toNat
  let (mh, mw) := (fld (c.w 8) 31 16, fld (c.w 8) 15 0)
  let (dpb, frames) := (fld (c.w 10) 7 4, fld (c.w 10) 3 0)
  let old := s.rf i
  refuseRsv c [(2, msk 19 11 + msk 3 0), (10, msk 7 0)] <|
  refuse (!(s.feedLayers i).isEmpty) .badState noWord <|
  if !bit w2 3 then
    let s := match old.flow with
      | some f => s.onDs fun d => { d with flows := adel d.flows f }
      | none => s
    let s := if old.st = 0 then s else (s.setFeed i 0).causeOff 0x08 0x09 i
    .ok [0] (s.onFeed i fun _ => {})
  else
    refuse (fld w2 19 17 == 0 || decide (5 < fld w2 19 17) || fld w2 15 14 == 3) .badParam 2 <|
    refuse (tmo != 0 && (decide (tmo < 10) || decide (10000 < tmo))) .badParam 3 <|
    refuse (decide (mh < 64) || decide (8192 < mh) || decide (mw < 64) || decide (8192 < mw)) .badParam 8 <|
    refuse (rate == 0 || decide (1500 < rate)) .badParam 9 <|
    refuse (decide (dpb < 2) || decide (frames < 3) || decide (8 < frames)) .badParam 10 <|
    let f : Feed :=
      { st := 1, prio := fld w2 19 17, earlyOut := bit w2 16, encap := fld w2 15 14, port := fld w2 13 12, ipv6 := bit w2 11
        addr := if bit w2 11 then [c.w 4, c.w 5, c.w 6, c.w 7] else [c.w 7], udp := fld (c.w 3) 15 0
        timeout := if tmo = 0 then 100 else tmo, maxW := mw, maxH := mh, rate := rate, dpb := dpb, frames := frames
        flow := old.flow, heard := s.clk, bufs := List.replicate frames {} }
    let s' := s.onFeed i fun _ => f
    refuse (!s'.sumsLater && !s'.decodeOk) .noResource noWord <|
    let go (s : State) (flow : Option Nat) : Res :=
      let s := if old.st = 0 then s else (s.setFeed i 0).causeOff 0x08 0x09 i
      let s := s.onFeed i fun _ => { f with flow := flow, st := 0 }
      .ok [s.freeVal 810 i % 4294967296] (s.drawn.setFeed i 1)
    match old.flow with
    | some _ => go s old.flow
    | none =>
      match s.allocFlow 1 false 1 false with
      | none => .err .noResource noWord
      | some (n, s) => go s (some n)

/-- FEED_QUERY (0x0811). -/
def hFeedQuery (c : Vx) (s : State) : Res :=
  let f := s.rf (fld (c.w 2) 2 0)
  refuseRsv c [(2, msk 2 0)] <|
  .ok [f.st, at' f.h 16 + f.w, f.profile, f.lost.toNat, f.concealed.toNat, f.subst.toNat, f.output.toNat,
    quot 811 f.measured 1000000] s

/-- FEED_CLEAR (0x0812). -/
def hFeedClear (c : Vx) (s : State) : Res :=
  refuseRsv c [(2, msk 2 0)] <|
  .ok [] (s.onFeed (fld (c.w 2) 2 0) fun f => { f with lost := 0, concealed := 0, subst := 0, output := 0 })

end Sys2Proof.Machine
end

