-- ==== Sys2Proof/Machine/LaneCfg.lean ====
section
/-!
DEFINITION. The commands of group 0x0C (R448, R450, R458, R460, R463, R464).
-/
namespace Sys2Proof.Machine

/-- PRE and POST of a preset (table "PCIe presets" of R450). -/
def preset : Nat → Nat × Nat
  | 0 => (0, 16)
  | 1 => (0, 11)
  | 2 => (0, 13)
  | 3 => (0, 8)
  | 5 => (6, 0)
  | 6 => (8, 0)
  | 7 => (6, 13)
  | 8 => (8, 8)
  | 9 => (10, 0)
  | 10 => (0, 21)
  | _ => (0, 0)

/-- A lane serves a running channel, an up port or the twin link (R464). -/
def State.laneServes (s : State) (l : Nat) : Bool :=
  match s.laneInput l, portOfLane l with
  | some i, _ => s.inputRuns i
  | none, some p => (s.port p).sends
  | none, none => decide (26 ≤ l) && decide (l ≤ 29)

/-- LANE_CONFIG and LANE_TX of such a lane must carry STAGE. -/
def laneNeedStage (c : Vx) (s : State) : Bool := s.laneServes (fld (c.w 2) 5 0)

/-- The checks of every lane command but LANE_QUERY. -/
def laneCheck (c : Vx) (k : Res) : Res :=
  let l := fld (c.w 2) 5 0
  refuse (decide (33 < l)) .badParam 2 <|
  refuse (pcieLane l) .denied 2 k

/-- LANE_CONFIG (0x0C00). -/
def hLaneConfig (c : Vx) (s : State) : Res :=
  let w := c.w 2
  let l := fld w 5 0
  let test := fld w 13 12
  refuseRsv c [(2, msk 13 12 + msk 10 8 + msk 5 0)] <|
  laneCheck c <|
  refuse (test == 3 || (bit w 9 && decide (l < 16))) .badParam 2 <|
  refuse (test != 0 && s.laneServes l) .badState 2 <|
  .ok [] (s.onLan l fun x =>
    { x with test := test, idleOk := bit w 10, txInvert := bit w 9, rxInvert := bit w 8 })

/-- LANE_TX (0x0C01). -/
def hLaneTx (c : Vx) (s : State) : Res :=
  let w := c.w 2
  let l := fld w 5 0
  let p := fld w 27 24
  let (pre, post) := if p = 15 then (fld w 11 8, fld w 20 16) else preset p
  refuseRsv c [(2, msk 27 24 + msk 20 16 + msk 11 8 + msk 5 0)] <|
  laneCheck c <|
  refuse (decide (l < 16) || (decide (10 < p) && p != 15) || !tapsOk pre post) .badParam 2 <|
  .ok [mainTap pre post] (s.onLan l fun x => { x with pre := pre, post := post })

/-- The rate of a lane in kb/s (R446); that of PCIe is the link's and free, that of an unused input lane 0 (log entry
50). -/
def State.laneRate (s : State) (l : Nat) : Nat :=
  if l < 16 then match s.laneInput l with
    | some i => match (s.inp i).rate with
      | 0 => 10312500
      | 1 => 25781250
      | 2 => 32000000
      | 3 => 11880000
      | _ => quot 464 11880000000 1001
    | none => 0
  else if l < 26 then 25781250
  else if l < 30 then 32000000
  else s.freeVal 446 l % 4294967296

/-- LANE_QUERY (0x0C02). While a lane adapts, its CTLE setting and taps are what adaptation has reached, which is free. -/
def hLaneQuery (c : Vx) (s : State) : Res :=
  let l := fld (c.w 2) 5 0
  let x := s.lan l
  let ctle := if x.frozen then x.ctle else s.freeVal 452 l % 16
  let d (k : Nat) : Nat := if x.frozen then x.dfe.getD k 0 else s.freeVal 453 (5 * l + k) % 256
  refuse (decide (33 < l)) .badParam 2 <|
  refuseRsv c [(2, msk 5 0)] <|
  .ok [x.st, s.laneRate l, x.pre + at' x.post 8 + at' (mainTap x.pre x.post) 16, ctle + at' (b01 x.frozen) 31,
    d 0 + at' (d 1) 8 + at' (d 2) 16 + at' (d 3) 24, d 4, x.los.toNat, x.lol.toNat, x.prbs] s.drawn

/-- LANE_RETRAIN (0x0C03). -/
def hLaneRetrain (c : Vx) (s : State) : Res :=
  let l := fld (c.w 2) 5 0
  refuseRsv c [(2, msk 5 0)] <|
  laneCheck c <|
  refuse ((s.lan l).st == 0) .badState 2 <|
  .acc (((s.onLan l fun x => { x with failed := false }).train l).start 0x0C03 c.tag l)

/-- LANE_IDLE (0x0C04). -/
def hLaneIdle (c : Vx) (s : State) : Res :=
  let w := c.w 2
  let l := fld w 5 0
  refuseRsv c [(2, msk 8 8 + msk 5 0)] <|
  laneCheck c <|
  refuse (decide (l < 16)) .badParam 2 <|
  refuse (bit w 8 && s.laneServes l) .badState 2 <|
  let s := if (s.lan l).txIdle && !bit w 8 then s.burst l else s
  .ok [] (s.onLan l fun x => { x with txIdle := bit w 8 })

end Sys2Proof.Machine
end

