-- ==== Sys2Proof/Machine/Stage.lean ====
section
/-!
DEFINITION. The commands that accept STAGE (R596), the configuration that a list of them forms (R73), and the boundary
kinds that each allows (R74, R176, R241, R280, R381, R408).
-/
namespace Sys2Proof.Machine

/-! ### Handlers of the stageable opcodes -/

/-- IP_CSC of a processor that serves a running channel must carry STAGE (R64). -/
def cscNeedStage (c : Vx) (s : State) : Bool :=
  let p := s.ip (fld (c.w 2) 2 0)
  p.used && s.runs p.chan

/-- DS_WELLS, and DS_DELAY_CONFIG of a list that holds entries, must carry STAGE while any channel runs (R309). -/
def wellsNeedStage (_ : Vx) (s : State) : Bool := s.anyRuns
def delayNeedStage (c : Vx) (s : State) : Bool :=
  s.anyRuns && s.ds.delays.any fun e => e.list == fld (c.w 2) 1 0 && !e.gone

/-- A stageable command: payload words, when it must be staged, what it does. -/
def staged (n : Nat) (need : Vx → State → Bool) (run : Vx → State → Res) : Option Handler :=
  some { minLen := n, stageable := true, needStage := need, run := run }

/-- No state asks for STAGE. -/
def noNeed (_ : Vx) (_ : State) : Bool := false

/-- The handlers of the table "Commands that accept STAGE", by opcode. -/
def stageHandler : Nat → Option Handler
  | 0x0110 => staged 4 noNeed hTlConfig
  | 0x0130 => staged 2 noNeed hEvConfig
  | 0x0200 => staged 3 inNeedStage hInConfig
  | 0x0210 => staged 6 ipNeedStage hIpConfig
  | 0x0211 => staged 8 cscNeedStage hIpCsc
  | 0x0300 => staged 1 compNeedStage hCompConfig
  | 0x0301 => staged 8 compNeedStage hLayerConfig
  | 0x0310 => staged 4 compNeedStage hSigConfig
  | 0x0341 => staged 1 noNeed hSurfPublish
  | 0x034C => staged 1 blitNeedStage hBlitBw
  | 0x0400 => staged 5 chNeedStage hChConfig
  | 0x0401 => staged 1 chNeedStage hChLayout
  | 0x0402 => staged 2 chNeedStage hChDelay
  | 0x0410 => staged 3 chNeedStage hLosslessConfig
  | 0x0420 => staged 8 chNeedStage hSeiConfig
  | 0x0500 => staged 5 rcNeedStage hRcConfig
  | 0x0502 => staged 1 rcNeedStage hRcBind
  | 0x0510 => staged 2 groupNeedStage hGroupConfig
  | 0x0511 => staged 3 memberNeedStage hGroupMember
  | 0x0520 => staged 2 rcNeedStage hClrcConfig
  | 0x0600 => staged 5 wellsNeedStage fun c s => dsWells c s State.decodeWellsOk
  | 0x0608 => staged 1 delayNeedStage hDsDelayConfig
  | 0x0710 => staged 1 hookNeedStage hDipHook
  | 0x0800 => staged 1 checkNeedStage hSelfcheckConfig
  | 0x0810 => staged 9 noNeed hFeedConfig
  | 0x0900 => staged 3 audNeedStage hAudConfig
  | 0x0A00 => staged 8 pkgNeedStage hPkgStream
  | 0x0A01 => staged 14 tmplNeedStage hPkgTemplate
  | 0x0A02 => staged 4 pkgAudioNeedStage hPkgAudio
  | 0x0B00 => staged 8 noNeed hPortConfig
  | 0x0B10 => staged 5 queueNeedStage hQueueConfig
  | 0x0B20 => staged 1 noNeed hGateWrite
  | 0x0B21 => staged 5 noNeed hGateSet
  | 0x0B30 => staged 3 policerNeedStage hPolicerConfig
  | 0x0B40 => staged 6 noNeed hPtpConfig
  | 0x0C00 => staged 1 laneNeedStage hLaneConfig
  | 0x0C01 => staged 1 laneNeedStage hLaneTx
  | _ => none

/-! ### The configuration that commands form (R73) -/

/-- The state after a command, or its status. -/
def Res.after : Res → Except Status State
  | .ok _ s => .ok s
  | .acc s _ => .ok s
  | .later _ s => .ok s
  | .errWith st _ _ => .error st
  | .err st _ => .error st

/-- A staged command is applied. -/
def State.runStaged (s : State) (x : Cmd) : Except Status State :=
  match stageHandler x.op with
  | some h => (h.run x.vx s).after
  | none => .error .badOpcode

/-- The configurations after each command of a list, up to the first that is refused: its position and status. -/
def State.stageAll (s : State) : List Cmd → Nat → List State × Option (Nat × Status)
  | [], _ => ([], none)
  | x :: rest, k =>
    match s.runStaged x with
    | .error st => ([], some (k, st))
    | .ok t => let (l, e) := t.stageAll rest (k + 1); (t :: l, e)

/-- The same, a command that is refused leaving what was. -/
def State.stageEach (s : State) (l : List Cmd) : State :=
  l.foldl (fun s x => match s.runStaged x with | .ok t => t | .error _ => s) s

/-- Admission is judged for a set as a whole (R73), or for each command again. -/
def State.leniently (s : State) (on : Bool) : State := s.onHost fun h => { h with lenient := on }

/-- The live configuration followed by the commands of the open set, with which a staged command is checked (R73). -/
def State.withOpen (s : State) : State :=
  (((s.leniently true).stageEach s.host.openCmds).leniently false).onHost fun h => { h with staging := true }

/-- The configuration after all armed sets. -/
def State.withArmed (s : State) : State := s.host.armed.foldl (fun s x => s.stageEach x.cmds) (s.leniently true)

/-! ### Boundary kinds (R74) -/

/-- The only member of a list without repeats. -/
def onlyOne (l : List Nat) : Option Nat := match l.eraseDups with | [c] => some c | _ => none

/-- The channels whose enabled layers read a source: 0 a surface, 1 a return feed. -/
def State.layerChans (s : State) (source id : Nat) : List Nat :=
  (List.range 16).filter fun c => (s.cc c).layers.any fun l => l.on && l.source == source && l.srcId == id

/-- The channel of a video stream. -/
def State.chanOf (s : State) (i : Nat) : Option Nat := if i < 32 && (s.strm i).used then some (s.strm i).chan else none

/-- The one channel that a staged command configures, or whose unit it configures (R74). -/
def State.subject (s : State) (x : Cmd) : Option Nat :=
  let w := x.vx.w 2
  match x.op with
  | 0x0110 => let tl := fld w 3 0; if 5 ≤ tl && tl ≤ 12 then onlyOne (s.chansOf (tl - 5)) else none
  | 0x0200 => onlyOne (s.chansOf (fld w 2 0))
  | 0x0210 => some (fld w 31 28)
  | 0x0211 => let p := s.ip (fld w 2 0); if p.used then some p.chan else none
  | 0x0300 | 0x0301 | 0x0310 => some (fld w 3 0)
  | 0x0341 => onlyOne (s.layerChans 0 (fld w 7 0))
  | 0x0400 | 0x0401 | 0x0402 | 0x0410 | 0x0420 | 0x0500 | 0x0502 | 0x0520 | 0x0800 => some (fld w 3 0)
  | 0x0710 => s.chanOf (fld w 4 0)
  | 0x0810 => onlyOne (s.layerChans 1 (fld w 2 0))
  | 0x0A00 => s.chanOf (fld w 4 0)
  | 0x0A01 => s.chanOf (fld w 5 0)
  | 0x0B10 => s.chanOf (fld w 7 0 % 64)
  | _ => none

/-- Commands whose sets must not be armed with boundary ROW. -/
def State.notRow (s : State) (x : Cmd) : Bool :=
  let w := x.vx.w 2
  match x.op with
  | 0x0410 | 0x0420 | 0x0500 | 0x0502 | 0x0520 | 0x0A00 | 0x0A01 => true
  | 0x0300 => let cc := s.cc (fld w 3 0); s.runs (fld w 3 0) && cc.mask != fld w 11 8
  | _ => false

/-- A command may stand in a set of a boundary kind for a channel. Lane commands accept any kind. -/
def State.kindOk (s : State) (kind chan : Nat) (x : Cmd) : Bool :=
  kind == 2 || x.op == 0x0C00 || x.op == 0x0C01
    || (s.subject x == some chan && !(kind == 0 && s.notRow x))

/-- The position of the first command of a set that the kind does not allow; each is judged after those before it. -/
def State.firstBadKind (s : State) (kind chan : Nat) : List Cmd → Nat → Option Nat
  | [], _ => none
  | x :: rest, k =>
    if s.kindOk kind chan x then
      (match s.runStaged x with | .ok t => t | .error _ => s).firstBadKind kind chan rest (k + 1)
    else some k

end Sys2Proof.Machine
end

