-- ==== Sys2Proof/Machine/Commit.lean ====
section
/-!
DEFINITION. Commit sets (R18 to R20, R72 to R77, R80): COMMIT_OPEN, COMMIT_ARM, COMMIT_ABORT and COMMIT_STATUS, the loading
of armed sets into the commit gate, and their application at the boundary.
-/
namespace Sys2Proof.Machine

/-! ### Boundaries (R73) -/

/-- The boundary of a set as the timelines stand. -/
def State.setDue (s : State) (x : CommitSet) : Nat :=
  if x.kind = 2 then x.due else (s.predictStart x.chan x.frame x.row).getD x.due

/-- The first frame of a channel that begins at or after a device time. -/
def State.frameFrom (s : State) (c t : Nat) : Nat := s.frameAfter c t 4096 (s.ch c).nextFrame

/-- Rows of a channel picture. -/
def State.rowCount (s : State) (c : Nat) : Nat := match (s.ch c).cfg with | some g => g.ctuRows | none => 1

/-- The first row of a channel that begins at or after a device time, with its frame. -/
def State.rowFrom (s : State) (c t : Nat) : Nat × Nat :=
  let f := s.frameFrom c t
  let rows := (List.range (s.rowCount c)).filter fun r =>
    match s.predictStart c (f - 1) r with | some b => decide (t ≤ b) | none => false
  if f = 0 then (0, 0) else match rows.head? with | some r => (f - 1, r) | none => (f, 0)

/-- The boundary after the present one of a ROW or FRAME set. -/
def State.nextBoundary (s : State) (x : CommitSet) : CommitSet :=
  if x.kind = 0 && x.row + 1 < s.rowCount x.chan then { x with row := x.row + 1 }
  else { x with frame := x.frame + 1, row := 0 }

/-! ### Validation of a set as a whole (R73) -/

/-- The active module of a pair that stands. -/
def State.paired (s : State) : Bool := s.twin.role == 1 && (s.twin.link.isSome || s.twin.path.isSome)

/-- R479: the configuration of a pair carries more than the siphon admits. -/
def State.siphonFull (s : State) : Bool := s.paired && !s.siphonOk

/-- The status of the well and admission checks over all channels. A set under which a task of a paired module exceeds 100 us,
as a lossless region may make it, fails with NO_RESOURCE (R227). -/
def State.wholeCheck (s : State) : Option Status :=
  let t := s.settle
  if t.admission false (List.range 16) == some .badParam && !(List.range 16).all t.pairedTasksOk then some .noResource
  else match t.admission false (List.range 16) with
  | some st => some st
  | none => if s.siphonFull then some .noResource else none

/-- The status and position with which a set fails on a configuration: a command that is refused, or a check that the whole
configuration fails, at the first command from which every longer run fails it too. -/
def State.setFails (s : State) (cmds : List Cmd) : Option (Status × Nat) :=
  match s.stageAll cmds 0 with
  | (_, some (k, st)) => some (st, k)
  | (l, none) =>
    match ((s :: l).getLast?.getD s).wholeCheck with
    | none => none
    | some st =>
      if s.wholeCheck.isSome then some (st, 0xFFFFFFFF)
      else
        let good := (List.range l.length).filter fun k => ((l[k]?).getD s).wholeCheck.isNone
        some (st, match good.getLast? with | some k => k + 1 | none => 0)

/-! ### Commands -/

/-- The number of the next set: in turn from 1 to 255, skipping those in use (R72). -/
def HostSt.freeId (h : HostSt) : Nat :=
  (((List.range 255).map fun k => (h.nextId + k - 1) % 255 + 1).find? fun i =>
    h.openId != some i && !h.armed.any (·.id == i)).getD h.nextId

/-- COMMIT_OPEN (0x0010). -/
def hCommitOpen (_ : Vx) (s : State) : Res :=
  refuse s.host.openId.isSome .badState noWord <|
  let i := s.host.freeId
  .ok [i] (s.onHost fun h =>
    { h with openId := some i, openCmds := [], nextId := i % 255 + 1, ended := adel h.ended i })

/-- The open set is discarded and its ID free (R66, R75). -/
def State.discardOpen (s : State) : State :=
  s.onHost fun h =>
    { h with openId := none, openCmds := []
             ended := match h.openId with | some i => aset h.ended i ⟨0, 0⟩ | none => h.ended }

/-- The open set is armed. -/
def State.armOpen (s : State) (x : CommitSet) : State :=
  s.onHost fun h => { h with openId := none, openCmds := [], armed := h.armed ++ [x] }

/-- COMMIT_ARM (0x0011; R66, R73, R74, R80). -/
def hCommitArm (c : Vx) (s : State) : Res :=
  let w := c.w 2
  let id := fld w 7 0
  let kind := fld w 9 8
  let ch := fld w 15 12
  let t := Vx.time c 3
  refuse (kind == 2 && badNs (c.w 3)) .badParam 3 <|
  refuseRsv c [(2, msk 15 12 + msk 9 0), (5, msk 15 0)] <|
  refuse (s.host.openId != some id) .badState 2 <|
  refuse (kind == 3) .badParam 2 <|
  refuse (decide (kind < 2) && !s.runs ch) .badState 2 <|
  refuse (kind == 2 && (decide (t < s.now + 100 * usU) || decide (s.now + 60 * secU < t))) .badParam noWord <|
  refuse (decide (16 ≤ s.host.armed.length)) .refusedFull noWord <|
  let live := s.withArmed
  match live.firstBadKind kind ch s.host.openCmds 0 with
  | some k => .errWith .badParam k s
  | none =>
    match live.setFails s.host.openCmds with
    | some (st, k) => .errWith st k s.discardOpen
    | none =>
      let from' := s.now + 30 * usU
      let (f, r) := if kind = 0 then s.rowFrom ch from' else if kind = 1 then (s.frameFrom ch from', 0) else (0, 0)
      let x : CommitSet := ⟨id, kind, ch, from', t, false, f, r, s.host.openCmds⟩
      let x := { x with due := s.setDue x }
      .ok (timeNats x.due) (s.armOpen x)

/-- COMMIT_ABORT (0x0012; R75). -/
def hCommitAbort (c : Vx) (s : State) : Res :=
  let id := fld (c.w 2) 7 0
  refuseRsv c [(2, msk 7 0)] <|
  if s.host.openId = some id then .ok [] s.discardOpen
  else
    match s.host.armed.find? (·.id == id), alookup s.host.ended id with
    | some x, _ =>
      refuse x.loaded .badState 2 <|
      .ok [] (s.onHost fun h => { h with armed := h.armed.filter (·.id != id), ended := aset h.ended id ⟨0, x.due⟩ })
    | none, some e => .err (if e.st = 0 then .badParam else .badState) 2
    | none, none => .err .badParam 2

/-- COMMIT_STATUS (0x0013). The boundary of a ROW or FRAME set is known once it is loaded (DEDUCED, log entry 56). -/
def hCommitStatus (c : Vx) (s : State) : Res :=
  let id := fld (c.w 2) 7 0
  refuseRsv c [(2, msk 7 0)] <|
  if s.host.openId = some id then .ok [1, 0, 0, 0] s
  else
    match s.host.armed.find? (·.id == id), alookup s.host.ended id with
    | some x, _ =>
      if x.loaded then .ok (3 :: timeNats x.due) s
      else .ok (2 :: (if x.kind = 2 then timeNats x.due else [0, 0, 0])) s
    | none, some e => .ok (e.st :: (if e.st = 0 then [0, 0, 0] else timeNats e.due)) s
    | none, none => .ok [0, 0, 0, 0] s

/-! ### Loading (R75, R76) -/

/-- A change of one armed set. -/
def State.onSet (s : State) (id : Nat) (f : CommitSet → CommitSet) : State :=
  s.onHost fun h => { h with armed := h.armed.map fun x => if x.id = id then f x else x }

/-- The configuration in which a set takes effect: the live one with the sets armed before it. -/
def State.beforeSet (s : State) (id : Nat) : State :=
  (s.host.armed.takeWhile (·.id != id)).foldl (fun s x => s.stageEach x.cmds) (s.leniently true)

/-- A set is loaded in time, and fails where its commands are no longer admitted. -/
def State.loadSet (s : State) (x : CommitSet) : State :=
  match (s.beforeSet x.id).setFails x.cmds with
  | some _ => s.failSets (·.id == x.id) 3
  | none => s.onSet x.id fun y => { y with loaded := true, due := s.setDue x }

/-- A set that was not loaded 20 us before its boundary: the next boundary of its kind, or it fails (R76). -/
def State.missSet (s : State) (x : CommitSet) : State :=
  let s := s.raise 0x17 0x06
  if x.kind = 2 then s.failSets (·.id == x.id) 1
  else
    let y := s.nextBoundary x
    s.onSet x.id fun _ => { y with due := s.setDue y }

/-- COMMIT_LOAD: the clock runs on to 20 us before the earliest boundary of the sets not yet loaded. -/
def execCommitLoad (s : State) : Host.Outcome State Fault Refusal :=
  match minBy s.setDue (s.host.armed.filter (!·.loaded)) with
  | none => .next s
  | some x =>
    let t := s.setDue x - 20 * usU
    let s := s.toTime t
    if s.now < t + s.time.addend then .next (s.loadSet x) else .next (s.missSet x)

/-! ### Application (R19, R20, R77) -/

/-- A set applies: its commands in staging order, then COMMIT_APPLIED with the device time of the boundary. -/
def State.applySet (s : State) (x : CommitSet) : State :=
  let due := s.setDue x
  let s := s.onHost fun h => { h with armed := h.armed.filter (·.id != x.id), ended := aset h.ended x.id ⟨4, due⟩ }
  let s := ((s.leniently true).stageEach x.cmds).leniently false
  s.eventAt due 0x0003 (if x.kind = 2 then 0xFF else x.chan) 1
    [x.id, match x.kind with | 0 => x.row | 1 => x.frame | _ => 0]

/-- The loaded sets whose boundary has come apply, earliest first, those of one boundary in arming order. -/
def State.applyDue (s : State) : State :=
  (sortBy s.setDue (s.host.armed.filter fun x => x.loaded && decide (s.setDue x ≤ s.now))).foldl State.applySet s

/-- COMMIT_APPLY: the clock runs on to the earliest boundary of a loaded set. -/
def execCommitApply (s : State) : Host.Outcome State Fault Refusal :=
  match minBy s.setDue (s.host.armed.filter (·.loaded)) with
  | none => .next s
  | some x => .next ((s.toTime (s.setDue x)).applySet x)

/-! ### Frame boundaries of channels (R166, R243) -/

/-- The predicted start of a channel's next picture, none past the last one. -/
def State.boundaryOf (s : State) (c : Nat) : Option Nat :=
  let h := s.ch c
  if h.st = 0 || (match h.last with | some l => decide (l < h.nextFrame) | none => false) then none
  else s.predictStart c h.nextFrame 0

/-- A refresh that was asked for begins at its frame (R220, R222). -/
def State.takeRefresh (s : State) (c f : Nat) : State :=
  let due := (s.ch c).refreshes.filter (·.1 ≤ f)
  s.onCh c fun h =>
    { h with refreshes := h.refreshes.filter (f < ·.1), gdrStarts := due.foldl (fun l x => x.1 :: l) h.gdrStarts
             idr := due.foldl (fun l x => if x.2 then x.1 :: l else l) h.idr }

/-- Rows, tasks and decode records of pictures that are over and to which nothing refers any more leave. -/
def State.retire (s : State) (c f : Nat) : State :=
  let keep (frame : Nat) : Bool := decide (f ≤ frame + 2 * (s.ch c).phases + 2)
  let s := s.onEnc fun e =>
    { e with rows := e.rows.filter fun r => r.chan != c || keep r.frame
             tasks := e.tasks.filter fun t => t.chan != c || keep t.frame || !t.over }
  let s := s.onDec fun d => { d with recs := d.recs.filter fun r => r.chan != c || keep r.frame || r.st < 2 }
  s.onCh c fun h =>
    { h with idr := h.idr.filter keep
             gdrStarts := h.gdrStarts.filter keep ++ (h.gdrStarts.find? fun x => !keep x).toList }

/-- A channel leaves safe output at the boundary that FLT_CLEAR_SAFE named (R532). -/
def State.leaveSafe (s : State) (c f : Nat) : State :=
  match alookup s.flt.chLeave c, s.flt.chSafe.find? (·.1 == c) with
  | some g, some (_, e) =>
    if g ≤ f then
      (s.onFlt fun x => { x with chLeave := adel x.chLeave c, chSafe := x.chSafe.filter (·.1 != c) }).safeEvt false false c e.count
    else s
  | _, _ => s

/-- The refresh period after a take-over from LOCKSTEP is over in every channel: TWIN:0x07 ends (R481). -/
def State.endConverge (s : State) : State :=
  if s.twin.role = 1 && s.hasCause 0x0D 0x07 && s.twin.converge.all fun (c, f) =>
      !s.runs c || (match (s.ch c).frame with | some n => decide (f ≤ n) | none => false)
  then s.causeOff 0x0D 0x07 else s

/-- The frame boundary of a channel: loaded sets apply, then settings that wait, then the layers latch (R166, R280). -/
def State.frameBoundary (s : State) (c : Nat) : State :=
  let f := (s.ch c).nextFrame
  let s := s.applyDue
  let s := s.onCh c fun h => { h with frame := some f }
  let h := s.ch c
  let s := if h.rcNext.isSome || h.bindNext.isSome || h.clrcNext.isSome then s.takeRc c else s
  let s := if h.st = 1 then
      (s.onCh c fun h => { h with st := 2 }).event 0x0401 c (chanVec c) [1, f, nsUp h.d]
    else s
  ((((s.takeRefresh c f).latchLayers c f).retire c f).leaveSafe c f).endConverge

/-- CH_FRAME_BOUNDARY: the clock runs on to the earliest frame boundary of a channel. -/
def execChFrameBoundary (s : State) : Host.Outcome State Fault Refusal :=
  match minBy (·.2) ((List.range 16).filterMap fun c => (s.boundaryOf c).map fun t => (c, t)) with
  | none => .next s
  | some (c, t) => .next ((s.toTime t).frameBoundary c)

/-- The start of the frame after the last picture of a channel that stops. -/
def State.stopOf (s : State) (c : Nat) : Option Nat :=
  let h := s.ch c
  match h.last with
  | some l => if h.st != 0 && decide (l < h.nextFrame) then s.predictStart c (l + 1) 0 else none
  | none => none

/-- CH_STOP_BOUNDARY: the clock runs on to the end of the last picture of a channel, which stops; its armed sets fail
(R76, R243). The rows of that picture are coded and sent. -/
def execChStopBoundary (s : State) : Host.Outcome State Fault Refusal :=
  match minBy (·.2) ((List.range 16).filterMap fun c => (s.stopOf c).map fun t => (c, t)) with
  | none => .next s
  | some (c, t) =>
    let s := s.toTime t
    let h := s.ch c
    .next (((s.onCh c fun h => { h with st := 0 }).event 0x0401 c (chanVec c) [0, h.last.getD 0, nsUp h.d]).failChan c)

/-! ### Faults and sets of one clock (R21) -/

/-- FAULT_LOG: the clock runs on to 17 clocks after the source time of the next report (R527). A set whose boundary that clock
is has applied before the reaction acts (R21). -/
def execFaultLog (s : State) : Host.Outcome State Fault Refusal :=
  match s.nextReport with
  | some r => .next ((s.toClk (r.clk + 17)).applyDue.logReport r)
  | none => .next s

end Sys2Proof.Machine
end

