-- ==== Sys2Proof/Machine/Regs.lean ====
section
/-!
DEFINITION. The registers of BAR0 and what a host write to each of them does (R8, R9, R41, R44 to R52, R56 to R61),
the interrupt hold-off, and the BAR2 aperture (R45 to R48).
-/
namespace Sys2Proof.Machine

/-! ### What registers read (tables "GLB_", "DB_ and IRQ_", "TB_", "FH_" and "DS_ registers") -/

/-- GLB_STATE. TRANSITION shows a step of R549 that runs. -/
def State.stateWord (s : State) : Nat :=
  at' s.host.mpRestarts 12 + at' (b01 (match s.pw.step with | some x => !x.boot | none => false)) 11
    + at' (b01 s.flt.safe.isSome) 10 + at' s.twin.role 8 + at' (b01 s.selB) 6 + at' s.strapRole 4
    + at' (b01 s.host.fwReady) 3 + s.pw.st

/-- The GLB_ block. -/
def State.regGlb (s : State) (o : Nat) : Nat :=
  match o with
  | 0x00 => 0x1E5A9160
  | 0x04 => 0x0311
  | 0x08 => s.fwWord
  | 0x0C => serialLo
  | 0x10 => serialHi
  | 0x14 => s.stateWord
  | 0x18 => s.host.scratch0.toNat
  | 0x1C => s.host.scratch1.toNat
  | 0x20 => s.host.aperture.toNat
  | _ => 0

/-- The DB_ and IRQ_ registers, and the MSI-X table with its pending-bit array. -/
def State.regDb (s : State) (o : Nat) : Nat :=
  let h := s.host
  if 0x8000 ≤ o && o < 0x8200 then (h.msix.getD ((o - 0x8000) / 4) 0).toNat
  else match o with
  | 0x1000 => h.cmdTail.toNat
  | 0x1004 => h.cmdHead.toNat
  | 0x1008 => h.rspTail.toNat
  | 0x100C => h.rspHead.toNat
  | 0x1010 => h.evtTail.toNat
  | 0x1014 => h.evtHead.toNat
  | 0x1018 => h.dbStatus.toNat
  | 0x101C => h.evtLost
  | 0x1100 => h.irqStatus.toNat
  | 0x1104 => h.irqMask.toNat
  | 0x1108 => at' h.coHoldoff 8 + h.coCount
  | 0x9000 => h.pba.toNat
  | _ => 0

/-- The TB_ block: snapshots, and the live counters of TB_TL_GLITCH. -/
def State.regTb (s : State) (o : Nat) : Nat :=
  let t := s.time
  if 0x100 ≤ o && o < 0x100 + 16 * 13 then
    let n := (o - 0x100) / 16
    let x := tab t.snaps n
    match o % 16 with
    | 0 => x.cycle
    | 4 => x.phase
    | 8 => if n = 0 then 2 else at' x.mode 4 + at' (b01 x.reverse) 3 + x.st
    | _ => if n = 0 then 0 else t.glitchWord n
  else match o with
  | 0x00 => tNs t.snapTime
  | 0x04 => tSec t.snapTime % 4294967296
  | 0x08 => tSec t.snapTime / 4294967296 % 65536
  | 0x0C => tFrac16 t.snapTime
  | 0x10 => t.addend
  | 0x14 => t.sourceWord
  | 0x18 => t.evts.length
  | _ => 0

/-- FH_SUMMARY bits 5:0. -/
def FltSt.summaryLow (f : FltSt) : Nat :=
  at' (b01 (!f.chSafe.isEmpty)) 5 + at' (b01 f.safe.isSome) 4 + at' (b01 (!f.unack.isEmpty)) 3
    + f.unack.foldl (fun m e => max m e.sev) 0

/-- FH_LEGACY (R536). -/
def FltSt.legacy (f : FltSt) : Nat :=
  let (c, d) := match f.first with | some e => (e.cls, e.code) | none => (0, 0)
  at' c 24 + at' d 16 + at' (min 255 f.unack.length) 8 + at' (b01 (!f.chSafe.isEmpty)) 5 + at' (b01 f.safe.isSome) 4
    + at' (b01 f.errN) 3 + f.unack.foldl (fun m e => max m e.sev) 0

/-- The FH_ block with the log window. -/
def State.regFh (s : State) (o : Nat) : Nat :=
  let f := s.flt
  let first (g : LogEnt → Nat) : Nat := match f.first with | some e => g e | none => 0
  if 0x1000 ≤ o && o < 0x2000 then
    match alookup f.log ((o - 0x1000) / 16) with
    | some e => (e.words.getD ((o % 16) / 4) 0).toNat
    | none => 0
  else match o with
  | 0x00 => at' (b01 f.errN) 17 + at' (b01 f.errHold) 16 + f.errWidth
  | 0x04 => f.logCount.toNat
  | 0x08 => first (fun e => at' e.cls 24 + at' e.code 16 + at' e.sev 8) + b01 f.firstValid
  | 0x0C => first (·.count % 65536)
  | 0x10 => first (fun e => tNs e.t)
  | 0x14 => first (fun e => tSec e.t % 4294967296)
  | 0x18 => maskOf (f.unack.map (·.cls))
  | 0x1C => f.status.toNat
  | 0x20 => f.causeBits
  | 0x24 => at' (maskOf (f.chSafe.map (·.1))) 16 + f.summaryLow
  | 0x28 => f.legacy
  | _ => 0

/-- The busy fraction of a unit over the last completed load window x 65,536 (DS_UNIT_LOAD): windows are counted from the
start of the core clock, and the rounding is free (log entry 54). -/
def State.unitLoad (s : State) (u : Nat) : Nat :=
  let w := 2 ^ s.ds.window * 10 * usC
  let stop := s.clk / w * w
  let start := stop - w
  let x := tab s.ds.units u
  let run := match x.holds.bind s.ent with | some e => [(e.start, s.clk)] | none => []
  let busy := (run ++ x.busy).foldl (fun n (a, b) => n + (min b stop - max a start)) 0
  quot 306 (busy * 65536) w

/-- The registers of one unit. -/
def State.regUnit (s : State) (u o : Nat) : Nat :=
  let x := tab s.ds.units u
  if 0x10 ≤ o && o < 0x30 then
    let k := (o - 0x10) / 4
    at' (x.hist.getD (2 * k + 1) 0) 16 + x.hist.getD (2 * k) 0
  else match o with
  | 0x00 => at' (b01 x.holds.isSome) 31 + at' (b01 x.enabled) 30 + at' (s.ds.takable s.clk u).length 16
  | 0x04 => s.unitLoad u
  | 0x08 => x.tasks.toNat
  | _ => 0

/-- The DS_ block. -/
def State.regDs (s : State) (o : Nat) : Nat :=
  let d := s.ds
  if 0x1000 ≤ o && o < 0x1000 + 64 * 42 then s.regUnit ((o - 0x1000) / 64) (o % 64)
  else if 0x100 ≤ o && o < 0x180 then
    let l := (o - 0x100) / 4
    at' (tab d.caps l) 16 + d.depth l
  else if 0x200 ≤ o && o < 0x210 then
    let l := (o - 0x200) / 4
    at' (d.delays.filter (fun e => e.list == l && !e.gone)).length 16 + tab d.ticks l
  else match o with
  | 0x00 => at' d.window 4
  | 0x04 => at' d.high 16 + d.pool.length
  | 0x08 => at' (b01 d.poolHit) 31 + at' d.poolLevel 16 + d.listLevel
  | 0x0C => d.listHit.toNat
  | 0x10 => at' d.kindMask 16 + at' (b01 d.traceStop) 1 + b01 d.traceOn
  | 0x14 => d.traceWr.toNat
  | 0x18 => d.traceRd.toNat
  | 0x1C => d.traceLevel
  | 0x20 => d.traceLost
  | 0x24 => d.refused
  | _ => 0

/-- What an aligned 32-bit read of BAR0 returns, but for the snapshot that reading TB_SNAP_NS takes (TB_SNAP_NS_READ). -/
def State.bar0 (s : State) (o : Nat) : Word :=
  if o < 0x1000 then w32 (s.regGlb o)
  else if o < 0x10000 then w32 (s.regDb o)
  else if o < 0x14000 then Mem.read32 s.mem.ring o
  else if 0x20000 ≤ o && o < 0x30000 then w32 (s.regTb (o - 0x20000))
  else if 0x30000 ≤ o && o < 0x40000 then w32 (s.regFh (o - 0x30000))
  else if 0x40000 ≤ o && o < 0x50000 then w32 (s.regDs (o - 0x40000))
  else if 0x50000 ≤ o && o < 0x60000 then
    let r := (alookup s.ds.trace ((o - 0x50000) / 8)).getD 0
    w32 (if o % 8 = 0 then r else r / 4294967296)
  else 0

/-- What a host read of `size` bytes at an offset of BAR0 returns: registers answer aligned 32-bit reads alone, ring slots
aligned reads of 32 and 64 bits, and everything else reads zero (R41, R44). -/
def State.bar0Read (s : State) (o size : Nat) : Nat :=
  let slot := decide (cmdBase ≤ o) && decide (o < 0x14000)
  if o % max 1 size != 0 then 0
  else if size = 4 then (s.bar0 o).toNat
  else if size = 8 && slot then (s.bar0 o).toNat + (s.bar0 (o + 4)).toNat * 4294967296
  else 0

/-! ### Configuration space (R42, R43, R82) -/

/-- A base address register: its register, the bits of its low word below the address, its size in bytes (R43). -/
structure BarDef where
  reg : Nat
  low : Nat
  size : Nat
  deriving DecidableEq, Repr

/-- BAR0 is 64-bit and not prefetchable, of 16 MiB; BAR2 is 64-bit and prefetchable, of 256 MiB; there is no other (R43). -/
def bar0Def : BarDef := ⟨0x10, 0x4, 16777216⟩
def bar2Def : BarDef := ⟨0x18, 0xC, 268435456⟩

/-- The low and the high word of a base address register: the address above its size, the type bits below. -/
def barWords (b : BarDef) (base : BitVec 64) : Nat × Nat :=
  let a := base.toNat / b.size * b.size
  (a % 4294967296 + b.low, a / 4294967296)

/-- The capabilities of the function (R42, R82): power management, PCI Express and MSI-X in a list of capability IDs; DOE as an
extended capability. SR-IOV is none of them. -/
def pciCaps : List Nat := [0x01, 0x10, 0x11]
def pciExtCaps : List Nat := [0x002E]

/-- An aligned word of configuration space, type 0 header (R42, R43). The places of the fields are those of PCI Express
(PRESUMED, log entry 5): the identity, the two BARs, the interrupt pin, which is zero for want of INTx, and the capability list:
power management at 0x40, PCI Express at 0x50, MSI-X at 0x90 with its control word, its table at BAR0 0x8000 and its
pending bits at 0x9000. Words that no rule gives are free, as are their values in Config. -/
def State.cfgWord (s : State) (o : Nat) : Nat :=
  match o with
  | 0x00 => 0x9160 * 65536 + 0x1E5A
  | 0x08 => 0x048000 * 256 + 0x11
  | 0x10 => (barWords bar0Def s.host.bar0Base).1
  | 0x14 => (barWords bar0Def s.host.bar0Base).2
  | 0x18 => (barWords bar2Def s.host.bar2Base).1
  | 0x1C => (barWords bar2Def s.host.bar2Base).2
  | 0x20 | 0x24 | 0x28 | 0x30 => 0
  | 0x2C => 0x0001 * 65536 + 0x1E5A
  | 0x34 => 0x40
  | 0x40 => 0x5001
  | 0x50 => 0x9010
  | 0x90 => (b01 s.host.msixOn * 32768 + b01 s.host.msixFm * 16384 + 31) * 65536 + 0x0011
  | 0x94 => 0x8000
  | 0x98 => 0x9000
  | 0x100 => 0x0001002E
  | _ => Config.cfgSpace o % 4294967296

/-! ### Ring counters (R51, R52, R56, R57) -/

/-- The counter field of a written word; the bits above are reserved. -/
def ctr (v : Word) : BitVec 16 := BitVec.ofNat 16 v.toNat

/-- An out-of-range write is ignored, its DB_STATUS bit set and HOST:0x01 raised (R52). -/
def State.outOfRange (s : State) (i : Nat) : State := (s.dbSet i).raise 0x17 0x01

/-- DB_CMD_TAIL. -/
def State.cmdTailWrite (s : State) (v : Word) : State :=
  let n := ctr v
  if occupancy n s.host.cmdHead ≤ 64 && occupancy n s.host.cmdTail ≤ 64 then s.onHost fun h => { h with cmdTail := n }
  else s.outOfRange 0

/-- DB_RSP_HEAD: slots are freed, so that answers that wait are written (R54, R55). -/
def State.rspHeadWrite (s : State) (v : Word) : State :=
  let n := ctr v
  if occupancy n s.host.rspHead ≤ occupancy s.host.rspTail s.host.rspHead then
    (s.onHost fun h => { h with rspHead := n }).flush
  else s.outOfRange 1

/-- Coalesced events that the host has freed are pending no longer (R61). -/
def HostSt.stillPending (h : HostSt) : HostSt :=
  let l := h.coPend.filter fun p => occupancy p.2 h.evtHead < occupancy h.evtTail h.evtHead
  { h with coPend := l, coDue := if l.isEmpty then none else h.coDue }

/-- DB_EVT_HEAD: slots are freed, so that held events move into the ring (R57). -/
def State.evtHeadWrite (s : State) (v : Word) : State :=
  let n := ctr v
  if occupancy n s.host.evtHead ≤ occupancy s.host.evtTail s.host.evtHead then
    (s.onHost fun h => HostSt.stillPending { h with evtHead := n }).drain
  else s.outOfRange 2

/-! ### Interrupt registers (R59 to R61) -/

/-- IRQ_STATUS: written ones clear their bits, but where the cause fired in this clock, which wins and whose message is
sent anew (R60). -/
def State.irqStatusWrite (s : State) (v : Word) : State :=
  let keep := maskOf ((List.range 32).filter fun i => alookup s.host.irqFired i == some s.clk)
  let clear := v &&& ~~~(w32 keep)
  (s.onHost fun h => { h with irqStatus := h.irqStatus &&& ~~~clear, irqSent := h.irqSent &&& ~~~v }).evalIrq

/-- IRQ_MASK. -/
def State.irqMaskWrite (s : State) (v : Word) : State := (s.onHost fun h => { h with irqMask := v }).evalIrq

/-- IRQ_EVT_COALESCE: events that wait are signalled where the new COUNT is reached. -/
def State.coalesceWrite (s : State) (v : Word) : State :=
  let s := s.onHost fun h => { h with coHoldoff := fld v 23 8, coCount := fld v 7 0 }
  if !s.host.coPend.isEmpty && s.host.coCount ≤ s.host.coPend.length then s.coFlush else s

/-- A word of the MSI-X table; an unmasked vector whose pending bit is set sends its message (PRESUMED: PCI Express, log
entry 5). -/
def State.msixWrite (s : State) (i : Nat) (v : Word) : State :=
  let s := s.onHost fun h => { h with msix := upd h.msix i fun _ => if i % 4 = 3 then v &&& 1 else v }
  let vec := i / 4
  if s.host.msixOn && !s.host.vecMasked vec && bit s.host.pba vec then
    (s.onHost fun h => { h with pba := w32 (clrBit h.pba.toNat vec) }).emit .msix [vec]
  else s

/-! ### Resets of the host interface (R78) -/

/-- The events in the ring that the host has not freed are lost; EVT_LOST is placed at the tail of the backlog, which
then moves into the emptied ring (R78). -/
def State.loseRing (s : State) : State :=
  let n := occupancy s.host.evtTail s.host.evtHead
  let s := s.onHost fun h => { h with evtTail := 0, evtHead := 0 }
  if n = 0 then s.drain
  else
    let s := s.onHost fun h =>
      { h with evtLost := satAdd h.evtLost n 0xFFFF, lostRun := h.lostRun + n
               dbStatus := BitVec.ofNat 4 (setBit h.dbStatus.toNat 3), lostRaised := true }
    (s.placeLost).drain

/-- What every reset of R78 sets to its reset value; the open set is discarded and every event group enabled (R81). The
condition of vector 30 follows a DB_STATUS bit that this reset sets. Kept, for no rule resets them: a command held on its FENCE,
answers not yet placed, forwarded commands, the MSI-X table and its pending bits (DESIGN CHOICE, log entry 54). -/
def State.resetHost (s : State) : State :=
  let lost := occupancy s.host.evtTail s.host.evtHead != 0
  let s := s.onHost fun h =>
    { h with
      scratch0 := 0, aperture := 0, cmdTail := 0, cmdHead := 0, rspTail := 0, rspHead := 0
      irqStatus := 0, irqMask := 0xFFFFFFFF, coHoldoff := 0, coCount := 0, irqSent := 0, irqFired := []
      coPend := [], coDue := none, filter := 0x1FFFF, openId := none, openCmds := [] }
  let s := s.loseRing
  if lost then s.setIrq 30 else s

/-- A management processor restart begins: the interface is reset, the open set and armed sets not yet loaded are
discarded, what runs is dropped, and FW_READY reads 0 until it ends (R22, R49, R78). -/
def State.restartMp (s : State) (cause : Nat) : State :=
  let openIds := s.host.openId.toList
  let s := s.resetHost
  let gone := (s.host.armed.filter (!·.loaded)).map (·.id)
  let s := s.failSets (!·.loaded) 2
  let s := s.onHost fun h =>
    { h with
      fwReady := false, mpRestarts := min 15 (h.mpRestarts + 1)
      restart := some (cause, (openIds ++ gone).length, h.armed.length), report := sortBy id (openIds ++ gone), ended := []
      running := [], remotes := [], answers := [], fenced := none, waiting := [] }
  (s.onCl fun c => { c with seqs := [] }).raise 0x17 0x04

/-- GLB_MP_RESET: the key 0xC15E restarts the management processor (R49). -/
def State.mpResetWrite (s : State) (v : Word) : State := if fld v 15 0 = 0xC15E then s.restartMp 1 else s

/-! ### Host writes to BAR0 -/

/-- The state after an outcome. -/
def outState (s : State) (o : Host.Outcome State Fault Refusal) : State := match o with | .next t => t | _ => s

/-- A counting field clears whole when a 1 is written to any of its bits (R8). -/
def clearCount (v : Word) (hi lo n : Nat) : Nat := if fld v hi lo = 0 then n else 0

/-- Thresholds are judged against new levels. -/
def State.dsThreshWrite (s : State) (v : Word) : State :=
  let s := s.onDs fun d =>
    { d with poolHit := d.poolHit && !bit v 31, poolLevel := fld v 28 16, listLevel := fld v 12 0 }
  (List.range 32).foldl State.thresholds s

/-- DS_TRACE_THRESH: vector 24 fires where the unread records reach the new level. -/
def State.traceThreshWrite (s : State) (v : Word) : State :=
  let was := s.ds.traceOver
  let l := fld v 13 0
  let full := l != 0 && decide (l ≤ occupancy s.ds.traceWr s.ds.traceRd)
  let s := s.onDs fun d => { d with traceLevel := l, traceOver := full }
  if full && !was then s.setIrq 24 else s

/-- A write of an aligned word to a register. Registers with a row of their own act as in that row; read-only registers
and locations without one ignore it (R8, R41). -/
def State.regWrite (s : State) (o : Nat) (v : Word) : State :=
  if 0x8000 ≤ o && o < 0x8200 then s.msixWrite ((o - 0x8000) / 4) v
  else if 0x20100 ≤ o && o < 0x20100 + 16 * 13 && o % 16 = 0xC then
    s.onTrk ((o - 0x20100) / 16) fun k =>
      { k with filtered := clearCount v 31 16 k.filtered, glitches := clearCount v 15 0 k.glitches }
  else match o with
  | 0x18 => s.onHost fun h => { h with scratch0 := v }
  | 0x1C => s.onHost fun h => { h with scratch1 := v }
  | 0x20 => s.onHost fun h => { h with aperture := BitVec.ofNat 14 v.toNat }
  | 0x24 => s.mpResetWrite v
  | 0x1000 => s.cmdTailWrite v
  | 0x100C => s.rspHeadWrite v
  | 0x1014 => s.evtHeadWrite v
  | 0x1018 => s.onHost fun h => { h with dbStatus := h.dbStatus &&& ~~~(BitVec.ofNat 4 v.toNat) }
  | 0x101C => s.onHost fun h => { h with evtLost := clearCount v 15 0 h.evtLost }
  | 0x1100 => s.irqStatusWrite v
  | 0x1104 => s.irqMaskWrite v
  | 0x1108 => s.coalesceWrite v
  | 0x30000 => outState s (execFhCtrlWrite v s)
  | 0x30008 => outState s (execFhFirstValidWrite v s)
  | 0x30018 => outState s (execFhUnackWrite v s)
  | 0x3001C => outState s (execFhStatusWrite v s)
  | 0x40000 => outState s (execDsCtrlClear v s)
  | 0x40008 => s.dsThreshWrite v
  | 0x4000C => s.onDs fun d => { d with listHit := d.listHit &&& ~~~v }
  | 0x40010 => outState s (execDsTraceCtrlWrite v s)
  | 0x40018 => outState s (execDsTraceRdWrite v s)
  | 0x4001C => s.traceThreshWrite v
  | 0x40020 => s.onDs fun d => { d with traceLost := clearCount v 15 0 d.traceLost }
  | 0x40024 => s.onDs fun d => { d with refused := clearCount v 15 0 d.refused }
  | _ => s

/-- The bring-up to STANDBY runs. -/
def State.booting (s : State) : Bool := match s.pw.step with | some x => x.boot | none => false

/-- Configuration space, BAR0 and the DOE mailbox are served from STANDBY upwards (R45), and not while PERST_N holds the
function in fundamental reset (R556). -/
def State.served (s : State) : Bool := s.pw.on && !s.booting && !s.host.perst

/-- REGISTER_WRITE: a host write to BAR0 of `size` bytes. Registers take aligned words, command slots aligned accesses of
32 and 64 bits; everything else is ignored (R41, R44). Below STANDBY nothing is written (R45). -/
def execRegisterWrite (offset size value : Nat) (s : State) : Host.Outcome State Fault Refusal :=
  let slot := decide (cmdBase ≤ offset) && decide (offset < rspBase)
  .next (if !s.served || offset % max 1 size != 0 then s
    else if slot then
      if size = 4 || size = 8 then s.onMem fun m => { m with ring := Mem.writeAll m.ring offset (leBytes size value) } else s
    else if size = 4 then s.regWrite offset (w32 value) else s)

/-- A row of a host write acts while BAR0 is served (R45). -/
def hostWrite (s t : State) : Host.Outcome State Fault Refusal := .next (if s.served then t else s)

/-- DB_CMD_TAIL_WRITE. -/
def execDbCmdTailWrite (value : Word) (s : State) : Host.Outcome State Fault Refusal := hostWrite s (s.cmdTailWrite value)

/-- DB_RSP_HEAD_WRITE. -/
def execDbRspHeadWrite (value : Word) (s : State) : Host.Outcome State Fault Refusal := hostWrite s (s.rspHeadWrite value)

/-- DB_EVT_HEAD_WRITE. -/
def execDbEvtHeadWrite (value : Word) (s : State) : Host.Outcome State Fault Refusal := hostWrite s (s.evtHeadWrite value)

/-- IRQ_STATUS_WRITE. -/
def execIrqStatusWrite (value : Word) (s : State) : Host.Outcome State Fault Refusal := hostWrite s (s.irqStatusWrite value)

/-- GLB_APERTURE_WRITE. -/
def execGlbApertureWrite (value : Word) (s : State) : Host.Outcome State Fault Refusal :=
  hostWrite s (s.onHost fun h => { h with aperture := BitVec.ofNat 14 value.toNat })

/-- GLB_MP_RESET_WRITE. -/
def execGlbMpResetWrite (value : Word) (s : State) : Host.Outcome State Fault Refusal := hostWrite s (s.mpResetWrite value)

/-- IRQ_HOLDOFF_EXPIRE: the clock runs on to the end of the hold-off. -/
def execIrqHoldoffExpire (s : State) : Host.Outcome State Fault Refusal :=
  match s.host.coDue with
  | some d => .next (s.toClk d).coFlush
  | none => .next s

/-! ### BAR2 (R45 to R48) -/

/-- The host-accessible cisterns: base, length, whether writes are granted. Surfaces grant both, audio buffers and the
operation cistern reads (chapters 06, 12 and 17). -/
def State.hostCisterns (s : State) : List (Nat × Nat × Bool) :=
  (s.blit.surfs.flatMap fun (i, f) =>
    let n := (if f.format = 0x06 then 2048 else 0) + f.h * f.pitch
    (List.range (if f.two then 2 else 1)).map fun b => (bufAddr i b, n, true))
  ++ ((List.range s.aud.ports.length).filterMap fun p =>
    let a := tab s.aud.ports p
    if a.st = 0 then none else some (audioBase p, a.cfg.blocks * a.cfg.blockBytes, false))
  ++ [(opBase, 16384, false), (snapBase, 262144, false)]

/-- An access lies within one such cistern and within 16 GiB (R46). -/
def State.reachable (s : State) (a n : Nat) (write : Bool) : Bool :=
  decide (a + n ≤ 17179869184) && s.hostCisterns.any fun (b, l, w) => decide (b ≤ a) && decide (a + n ≤ b + l) && (!write || w)

/-- BAR2_ACCESS: an access of `size` bytes at an offset of the window. It becomes a HOST_BAR2 task at priority 0 on PU11;
one that reaches nothing reads zero and writes nothing. -/
def State.bar2Access (s : State) (write : Bool) (offset size value : Nat) : State :=
  let a := s.host.aperture.toNat * 1048576 + offset
  if !s.served || s.pw.st < 3 || size = 0 || bar2Def.size < offset + size || !s.reachable a size write then
    if write then s else { s with rdata := 0 }
  else
    let id := s.host.bar2Next
    let s := s.onHost fun h => { h with bar2 := h.bar2 ++ [⟨id, write, a, size, value⟩], bar2Next := id + 1 }
    s.submit 17
      { type := 9, cls := 3, prio := 0, flow := 0, flowed := false, pin := true, unit := 11, payload := id, dl := none
        cookie := 0, pump := none }

def execBar2Access (write : Bool) (offset size value : Nat) (s : State) : Host.Outcome State Fault Refusal :=
  .next (s.bar2Access write offset size value)

/-- The pump has served an access: the bytes are written, or read for the host; those of a 64-byte block that could not be read are
zero (R305). -/
def State.bar2Done (s : State) (id : Nat) (bad : List Nat) : State :=
  match s.host.bar2.find? (·.id == id) with
  | none => s
  | some x =>
    let s := s.onHost fun h => { h with bar2 := h.bar2.filter (·.id != id) }
    if x.write then s.onMem fun m => { m with gddr := Mem.writeAll m.gddr x.addr (leBytes x.size x.value) }
    else
      let hit := bad.filter fun n => decide (x.addr < 64 * n + 64) && decide (64 * n < x.addr + x.size)
      let l := (List.range x.size).map fun i => if hit.contains ((x.addr + i) / 64) then 0 else Mem.read s.mem.gddr (x.addr + i)
      { (if hit.isEmpty then s else s.raise 0x0F 0x06) with rdata := leNat l }

end Sys2Proof.Machine
end

