-- ==== Sys2Proof/Machine/HostOps.lean ====
section
/-!
DEFINITION. Resets of the host interface, the PCIe link, the management processor's restart, SPDM over DOE (R42, R49, R78,
R82 to R84, R556), and the system commands that need no commit set (R65, R78, R81).
-/
namespace Sys2Proof.Machine

/-! ### Resets (R78, R556) -/

/-- FUNCTION_LEVEL_RESET: a Function Level Reset or a PCIe hot reset. -/
def execFunctionLevelReset (wait : Nat) (s : State) : Host.Outcome State Fault Refusal :=
  let s := s.pass wait
  .next (if s.pw.on then s.resetHost else s)

/-- PCIE_LINK_DOWN: the interface is reset, and the cause of HOST:0x05 is present until the link is up again. -/
def execPcieLinkDown (wait : Nat) (s : State) : Host.Outcome State Fault Refusal :=
  let s := s.pass wait
  .next (if s.pw.on then (s.resetHost.onHost fun h => { h with linkUp := false }).raiseOn 0x17 0x05 else s)

/-- PCIE_LINK_UP: the link has trained and its data link layer is active; it does not train while PERST_N is asserted. -/
def execPcieLinkUp (wait : Nat) (s : State) : Host.Outcome State Fault Refusal :=
  let s := s.pass wait
  .next (if s.pw.on && !s.host.perst then (s.onHost fun h => { h with linkUp := true }).causeOff 0x17 0x05 else s)

/-- PERST_ASSERT: after bring-up a hot reset of the host interface. -/
def execPerstAssert (wait : Nat) (s : State) : Host.Outcome State Fault Refusal :=
  let s := s.pass wait
  let t := s.onHost fun h => { h with perst := true, linkUp := false }
  .next (if s.pw.on && !s.booting then t.resetHost else t)

/-- PERST_RELEASE: the function leaves fundamental reset; its link then trains (PCIE_LINK_UP). -/
def execPerstRelease (wait : Nat) (s : State) : Host.Outcome State Fault Refusal :=
  .next ((s.pass wait).onHost fun h => { h with perst := false })

/-- Vehitrix has restarted: MP_RESTARTED, then FW_READY (R78). -/
def State.restartDone (s : State) (cause gone kept : Nat) : State :=
  let s := s.onHost fun h => { h with fwReady := true, restart := none }
  (s.event 0x0006 0xFF 1 [gone, kept, cause]).event 0x0008 0xFF 1 [s.fwWord]

/-- MP_RESTART: a restart that runs ends; without one a firmware fault begins one (R22, R78). -/
def execMpRestart (wait : Nat) (s : State) : Host.Outcome State Fault Refusal :=
  let s := s.pass wait
  .next (match s.host.restart with
    | some (cause, gone, kept) => s.restartDone cause gone kept
    | none => if s.host.fwReady then s.restartMp 3 else s)

/-- MP_WATCHDOG: the management processor's watchdog begins a restart. -/
def execMpWatchdog (wait : Nat) (s : State) : Host.Outcome State Fault Refusal :=
  let s := s.pass wait
  .next (if s.host.fwReady then s.restartMp 2 else s)

/-! ### SPDM over DOE (R82 to R84) -/

/-- An SPDM message: version 1.2, code and parameters, then its further words (PRESUMED: SPDM 1.2, log entry 55). -/
def spdmMsg (code p1 p2 : Nat) (rest : List Nat := []) : List Nat := [0x12, code, p1, p2] ++ rest

/-- ERROR with its error code: 0x01 InvalidRequest, 0x04 UnexpectedRequest, 0x07 UnsupportedRequest. -/
def spdmError (error data : Nat) : List Nat := spdmMsg 0x7F error data

/-- CERT_CAP, CHAL_CAP, and MEAS_CAP with signatures (R83), as the flags of CAPABILITIES. -/
def spdmFlags : Nat := 0x02 + 0x04 + 0x10

/-- ECDSA with P-384 for signing, SHA-384 for hashing (R83), as the masks of ALGORITHMS: measurement hash, signature, hash. -/
def spdmAlgorithms : List Nat := [0x04, 0x80, 0x02]

/-- The certificate chain of slot 0, the only slot that is populated (R83), in bytes; its SHA-384 digest in 12 words. -/
def certChain : List Nat := (List.range Config.certLen).map fun i => Config.identity (5000 + i) % 256
def certDigest : List Nat := (List.range 12).map Config.identity

/-- A measurement block (table "SPDM measurement blocks"): its index with its words. -/
def State.measurement (s : State) (k : Nat) : List Nat :=
  let image (n : Nat) : List Nat := (List.range 12).map fun i => Config.identity (1000 + 100 * (tab s.pw.slots n).fw + i)
  k :: match k with
    | 1 => image s.pw.runs
    | 2 => image (1 - s.pw.runs)
    | 3 => [s.pw.counter]
    | _ => [0x1E5A9160, 0x0311, serialLo, serialHi]

/-- A P-384 signature, 24 words, and a nonce, 8 words; their values are free (log entry 55). -/
def State.spdmSignature (s : State) : List Nat := (List.range 24).map fun i => s.freeVal 83 i % 4294967296
def State.spdmNonce (s : State) : List Nat := (List.range 8).map fun i => s.freeVal 84 i % 4294967296

/-- What a request finds: the response message, and the connection state after it. Codes and the order of the first three
requests are those of SPDM 1.2 (PRESUMED, log entry 55). -/
def State.spdm (s : State) (o : DoeObj) : List Nat × Nat :=
  let st := s.host.spdmStep
  let late (l : List Nat) : List Nat × Nat := if st = 3 then (l, st) else (spdmError 0x04 0, st)
  match o.code with
  | 0x84 => (spdmMsg 0x04 0 0 [1, 0x1200], 1)
  | 0xE1 => if st = 1 then (spdmMsg 0x61 0 0 [spdmFlags], 2) else (spdmError 0x04 0, st)
  | 0xE3 => if st = 2 then (spdmMsg 0x63 0 0 spdmAlgorithms, 3) else (spdmError 0x04 0, st)
  | 0x81 => late (spdmMsg 0x01 0 1 certDigest)
  | 0x82 => late (if o.params.1 = 0 && decide (o.range.1 < certChain.length) then
      let part := (certChain.drop o.range.1).take o.range.2
      spdmMsg 0x02 0 0 ([part.length, certChain.length - o.range.1 - part.length] ++ part)
    else spdmError 0x01 0)
  | 0x83 => late (if o.params.1 = 0 then
      spdmMsg 0x03 0 1 (certDigest ++ s.spdmNonce ++ ([1, 2, 3, 4].flatMap s.measurement) ++ s.spdmSignature)
    else spdmError 0x01 0)
  | 0xE0 => late (
      let sign (l : List Nat) : List Nat := if o.params.1 % 2 = 1 then l ++ s.spdmNonce ++ s.spdmSignature else l
      if o.params.2 = 0 then spdmMsg 0x60 4 0 (sign [])
      else if o.params.2 = 0xFF then spdmMsg 0x60 0 0 (sign ([1, 2, 3, 4].flatMap s.measurement))
      else if o.params.2 ≤ 4 then spdmMsg 0x60 0 0 (sign (s.measurement o.params.2))
      else spdmError 0x01 0)
  | _ => (spdmError 0x07 o.code, st)

/-- DOE Discovery: vendor ID and object type of the protocol at an index, and the next index; an index that names none answers
vendor ID 0xFFFF (PRESUMED: PCI Express, log entry 55). -/
def doeDiscovery (index : Nat) : List Nat :=
  if index = 0 then [0x0001, 0, 1] else if index = 1 then [0x0001, 1, 0] else [0xFFFF, 0, 0]

/-- A data object that is discarded with HOST:0x07: it is not well formed, larger than 16 KiB, or of a protocol that the module
does not support (R82). -/
def doeMalformed (o : DoeHead) : Bool := !o.intact || decide (16384 < o.len) || o.vendor != 1 || decide (1 < o.type)

/-- DOE_REQUEST: a data object arrives after `wait` clocks and is answered `span` clocks later, within 100 ms, where the
host does not abort it before (`done`). Type 0 is Discovery, 1 CMA/SPDM. An object that arrives while a request is in progress is
left out of account (DESIGN CHOICE, log entry 55). -/
def execDoeRequest (wait span : Nat) (done : Bool) (head : DoeHead) (code : Nat) (params range : Nat × Nat) (s : State) :
    Host.Outcome State Fault Refusal :=
  let s := s.pass wait
  .next (if !s.served || s.host.doeBusy then s
    else if doeMalformed head then s.raise 0x17 0x07
    else if !done then s.onHost fun h => { h with doeBusy := true }
    else
      let s := s.pass (min span (100 * msC))
      if head.type = 0 then s.emit .doe (doeDiscovery params.1)
      else
        let (ws, st) := s.spdm ⟨head, code, params, range⟩
        ((s.emit .doe ws).onHost fun h => { h with spdmStep := st }).drawn)

/-- DOE_ABORT: the request in progress ends; the connection state stays at its last completed step (R84). -/
def execDoeAbort (wait : Nat) (s : State) : Host.Outcome State Fault Refusal :=
  .next ((s.pass wait).onHost fun h => { h with doeBusy := false })

/-! ### System commands -/

/-- NOP (0x0000). -/
def hNop (_ : Vx) (s : State) : Res := .ok (timeNats s.now) s

/-- Assignable capacity not yet admitted in M units/s; the rounding is free. -/
def State.capacityFree (s : State) : Nat :=
  let q := s.totalLoad
  quot 5 (14000000000 * q.den - q.num) (1000000 * q.den)

/-- GET_INFO (0x0001; table "GET_INFO result"). -/
def hGetInfo (_ : Vx) (s : State) : Res :=
  .ok [s.fwWord, serialLo, serialHi, 0xFFFF + at' s.pw.counter 16, 14000, s.capacityFree] s

/-- SET_EVENT_FILTER (0x0020; R81). -/
def hSetEventFilter (c : Vx) (s : State) : Res :=
  refuseRsv c [(2, msk 16 0)] <|
  .ok [] (s.onHost fun h => { h with filter := BitVec.ofNat 17 (c.w 2).toNat })

/-- GET_RESTART_REPORT (0x0021): four commit IDs in a word, the first in the lowest byte (DEDUCED, log entry 54). -/
def hGetRestartReport (_ : Vx) (s : State) : Res :=
  .ok ((List.range 13).map fun k =>
    let b (i : Nat) : Nat := s.host.report.getD (4 * k + i) 0
    b 0 + at' (b 1) 8 + at' (b 2) 16 + at' (b 3) 24) s

end Sys2Proof.Machine
end

