-- ==== Sys2Proof/Machine/Registry.lean ====
section
/-!
DEFINITION. The handlers of the opcodes that do not accept STAGE, and by opcode the handler of every opcode but those of
cluster operations, which themselves carry commands.
-/
namespace Sys2Proof.Machine

/-- A command that does not accept STAGE: payload words required, what it does. -/
def direct (n : Nat) (run : Vx → State → Res) : Option Handler := some { minLen := n, run := run }

/-- ENG_CONTROL may enable the engines of the power state RUN (R544, R548). -/
def hEngControl (c : Vx) (s : State) : Res := engControl c s (if s.pw.st = 4 then s.pw.ce else 0)

/-- Handlers of groups 0x00 to 0x05 that do not accept STAGE. -/
def lowHandler : Nat → Option Handler
  | 0x0000 => direct 0 hNop
  | 0x0001 => direct 0 hGetInfo
  | 0x0002 => direct 3 hSetPowerState
  | 0x0003 => direct 0 hGetPowerState
  | 0x0010 => direct 0 hCommitOpen
  | 0x0011 => direct 4 hCommitArm
  | 0x0012 => direct 1 hCommitAbort
  | 0x0013 => direct 1 hCommitStatus
  | 0x0020 => direct 1 hSetEventFilter
  | 0x0021 => direct 0 hGetRestartReport
  | 0x0100 => direct 0 hTimeGet
  | 0x0101 => direct 1 hTimeSource
  | 0x0102 => direct 2 hTimeStep
  | 0x0103 => direct 1 hTimeTrim
  | 0x0111 => direct 1 hTlQuery
  | 0x0120 => direct 8 hEvtAdd
  | 0x0121 => direct 1 hEvtCancel
  | 0x0122 => direct 1 hEvtQuery
  | 0x0201 => direct 1 hInQuery
  | 0x0202 => direct 1 hInClear
  | 0x0302 => direct 1 hCompQuery
  | 0x0311 => direct 1 hSigQuery
  | 0x0340 => direct 2 hSurfConfig
  | 0x0342 => direct 1 hSurfQuery
  | 0x0348 => direct 8 hBlitSubmit
  | 0x0349 => direct 0 hBlitQuery
  | 0x0403 => direct 1 hChStart
  | 0x0404 => direct 1 hChStop
  | 0x0405 => direct 1 hChQuery
  | 0x0406 => direct 1 hChRefresh
  | 0x0430 => direct 1 hEngControl
  | 0x0501 => direct 1 hRcQuery
  | _ => none

/-- Handlers of groups 0x06 to 0x0C that do not accept STAGE. -/
def midHandler : Nat → Option Handler
  | 0x0601 => direct 1 hDsFlowAlloc
  | 0x0602 => direct 1 hDsFlowFree
  | 0x0603 => direct 1 hDsFlowQuery
  | 0x0610 => direct 14 hDsSubmit
  | 0x0611 => direct 1 hDsCancel
  | 0x0700 => direct 1 hDipImageWrite
  | 0x0701 => direct 1 hDipLoad
  | 0x0702 => direct 1 hDipUnload
  | 0x0703 => direct 1 hDipQuery
  | 0x0704 => direct 1 hDipProgQuery
  | 0x0801 => direct 1 hSelfcheckQuery
  | 0x0811 => direct 1 hFeedQuery
  | 0x0812 => direct 1 hFeedClear
  | 0x0901 => direct 1 hAudQuery
  | 0x0902 => direct 1 hAudClear
  | 0x0A03 => direct 1 hPkgQuery
  | 0x0B01 => direct 1 hPortQuery
  | 0x0B11 => direct 1 hQueueQuery
  | 0x0B22 => direct 1 hGateQuery
  | 0x0B41 => direct 0 hPtpQuery
  | 0x0B42 => direct 1 hPtpStepAnswer
  | 0x0C02 => direct 1 hLaneQuery
  | 0x0C03 => direct 1 hLaneRetrain
  | 0x0C04 => direct 1 hLaneIdle
  | _ => none

/-- Handlers of groups 0x0D to 0x10 but CL_OP and CL_OP_QUERY. -/
def highHandler : Nat → Option Handler
  | 0x0D00 => direct 14 hTwinPair
  | 0x0D01 => direct 0 hTwinUnpair
  | 0x0D02 => direct 1 hTwinSwap
  | 0x0D03 => direct 0 hTwinQuery
  | 0x0E00 => direct 3 hClConfig
  | 0x0E01 => direct 12 hClPin
  | 0x0E02 => direct 13 hClRosterWrite
  | 0x0E03 => direct 1 hClRosterQuery
  | 0x0E04 => direct 1 hClAccept
  | 0x0E12 => direct 9 hClOpSlot
  | 0x0E20 => direct 0 hClStatus
  | 0x0F00 => direct 1 hFltSeverity
  | 0x0F01 => direct 1 hFltClearSafe
  | 0x0F02 => direct 2 hFltInject
  | 0x0F10 => direct 1 hCvuAlloc
  | 0x0F11 => direct 1 hCvuFree
  | 0x0F12 => direct 1 hCvuRead
  | 0x0F13 => direct 3 hCvuWrite
  | 0x1000 => direct 0 hFwQuery
  | 0x1001 => direct 1 hFwBegin
  | 0x1002 => direct 1 hFwWrite
  | 0x1003 => direct 1 hFwEnd
  | 0x1004 => direct 0 hFwActivate
  | 0x1005 => direct 1 hFwConfirm
  | 0x1006 => direct 1 hBootTarget
  | 0x1010 => direct 9 hTrickleConfig
  | 0x1011 => direct 0 hTrickleQuery
  | 0x1020 => direct 0 hHealthQuery
  | _ => none

/-- The handler of an opcode, none where command set revision 3 does not define it or it is CL_OP or CL_OP_QUERY. -/
def localHandler (op : Nat) : Option Handler :=
  if op < 0x0600 then (lowHandler op).or (stageHandler op)
  else if op < 0x0D00 then (midHandler op).or (stageHandler op)
  else highHandler op

end Sys2Proof.Machine
end

