-- ==== Sys2Proof/Machine/Vx.lean ====
section
/-!
DEFINITION. How Vehitrix takes and answers a command (R53 to R56, R62 to R67, R73, R468, R479, R506, R507, R550, R564,
R596), whatever the table of handlers.
-/
namespace Sys2Proof.Machine

/-- Where a command comes from: the host's ring, another module (its ID, the frame's TAG; R507), the active module of the
pair (SEQ of the MIRROR frame; R468), a global operation (R508). -/
inductive Origin where
  | host
  | remote (src : Nat) (tag : Word)
  | mirror (seq : Nat)
  | group
  deriving DecidableEq, Repr, Inhabited

/-! ### Classes of opcodes -/

/-- Opcodes that the boot ROM serves in recovery: NOP, GET_INFO, the FW_ commands (R564). -/
def recoveryOp (op : Nat) : Bool := op == 0x0000 || op == 0x0001 || (decide (0x1000 ≤ op) && decide (op ≤ 0x1005))

/-- The query commands of groups 0x02 to 0x0B. -/
def queryOp (op : Nat) : Bool :=
  [0x0201, 0x0302, 0x0311, 0x0342, 0x0349, 0x0405, 0x0501, 0x0603, 0x0703, 0x0704, 0x0801, 0x0811, 0x0901, 0x0A03, 0x0B01,
    0x0B11, 0x0B22].contains op

/-- Opcodes that configure the pair: groups 0x02 to 0x0A, and 0x0B but PORT_CONFIG and the PTP commands (R468). -/
def pairOp (op : Nat) : Bool :=
  decide (0x0200 ≤ op) && decide (op < 0x0C00) && op != 0x0B00 && op != 0x0B40 && op != 0x0B41 && op != 0x0B42
    && !queryOp op

/-- CH_START, and a command that allocates a cistern (R550). -/
def needsReady (x : Cmd) : Bool :=
  match x.op with
  | 0x0403 | 0x0210 | 0x0401 => true
  | 0x0340 => x.vx.w 3 != 0
  | 0x0810 => bit (x.vx.w 2) 3
  | 0x0900 => bit (x.vx.w 2) 2
  | _ => false

/-! ### The checks and the effect of a command -/

/-- The module of a pair that receives and answers nothing for the pair from its own host. -/
def State.isStandby (s : State) : Bool := decide (2 ≤ s.twin.role)

/-- What a staged command does: it is tried on the live configuration followed by the open set, and joins the set (R73). -/
def State.stageCmd (s : State) (h : Handler) (x : Cmd) : Res :=
  let join (ws : List Nat) : Res := .ok ws (s.onHost fun g => { g with openCmds := g.openCmds ++ [x] })
  match h.run x.vx s.withOpen with
  | .ok ws _ => join ws
  | .acc _ ws => join ws
  | .later _ _ => join []
  | r => r

/-- R479: a command of a pair whose configuration would carry more than the siphon admits has no effect. -/
def State.siphoned (s : State) (x : Cmd) (r : Res) : Res :=
  if s.paired && pairOp x.op then
    match r with
    | .ok _ t => if t.siphonOk then r else .err .noResource noWord
    | .acc t _ => if t.siphonOk then r else .err .noResource noWord
    | r => r
  else r

/-- What a command answers, with its checks in this order: recovery (R564), the opcode, LEN and reserved bits (R62), what a
remote command may not be (R507), STAGE (R596, R72), the standby of a pair (R468), the power state (R550), STAGE that must be
set (R64); then its own. -/
def judge (look : Nat → Option Handler) (o : Origin) (x : Cmd) (s : State) : Res :=
  let c := x.vx
  let away := match o with | .remote _ _ => true | .group => true | _ => false
  if s.pw.recovery && !recoveryOp x.op then .err .badState noWord
  else match look x.op with
  | none => .err .badOpcode noWord
  | some h =>
    refuse (decide (14 < c.len) || c.rsv != 0 || decide (c.len < h.minLen)) .badParam noWord <|
    refuse (away && c.remote) .badParam noWord <|
    refuse (away && x.op / 256 == 0x10) .denied noWord <|
    refuse (c.stage && !h.stageable) .badParam noWord <|
    refuse (c.stage && s.host.openId.isNone) .badState noWord <|
    refuse (c.stage && decide (256 ≤ s.host.openCmds.length)) .refusedFull noWord <|
    refuse (o == .host && s.isStandby && pairOp x.op) .denied noWord <|
    refuse (decide (s.pw.st < 3) && needsReady x) .badState noWord <|
    if c.stage then s.stageCmd h x
    else
      refuse (h.needStage c s) .badState noWord <|
      s.siphoned x (h.run c s)

/-! ### Answers -/

/-- The status of an answer; one that comes later is OK. -/
def Res.status : Res → Status
  | .ok _ _ => .ok
  | .acc _ _ => .accepted
  | .err st _ => st
  | .errWith st _ _ => st
  | .later _ _ => .ok

/-- Its result words. -/
def Res.words : Res → List Nat
  | .ok ws _ => ws
  | .acc _ ws => ws
  | .err _ w => [errIndex w]
  | .errWith _ k _ => [k]
  | .later _ _ => []

/-- The state that it leaves: a refusal leaves what was (R66). -/
def Res.left (s : State) : Res → State
  | .ok _ t => t
  | .acc t _ => t
  | .err _ _ => s
  | .errWith _ _ t => t
  | .later _ t => t

/-- The command has completed or started. -/
def Res.good : Res → Bool
  | .err _ _ => false
  | .errWith _ _ _ => false
  | _ => true

/-- The response slot of an answer. -/
def Res.slot (x : Cmd) (r : Res) : List Word := rspWords x.vx.tag x.op r.status.code (r.words.map w32)

/-! ### The mirror of a pair (R468) -/

/-- The sixteen words of a command slot. -/
def cmdWords (x : Cmd) : List Word :=
  let c := x.vx
  [w32 (at' c.len 24 + at' c.rsv 19 + at' (b01 c.fence) 18 + at' (b01 c.stage) 17 + at' (b01 c.remote) 16 + x.op), c.tag]
    ++ (List.range 14).map fun k => c.pay.getD k 0

/-- A command from the sixteen words of its slot (table "Command slot"). -/
def cmdOf (l : List Word) : Cmd :=
  let w0 := l.getD 0 0
  ⟨fld w0 15 0, ⟨fld w0 31 24, fld w0 23 19, bit w0 18, bit w0 17, bit w0 16, l.getD 1 0,
    (List.range 14).map fun k => l.getD (k + 2) 0⟩⟩

/-- A MIRROR frame that awaits an answer. -/
def State.sendMirror (s : State) (op : Nat) (data : List Nat) : State :=
  let n := s.twin.txSeq
  (s.sendTwin tMirror 0 0 0 0 0 data).onTwin fun t => { t with mirrors := t.mirrors ++ [⟨n, op, s.clk⟩] }

/-- A command that configured the pair which stood when it was taken (`p`) is mirrored; a set that was armed is armed at the
standby too, with those of its commands that configure the pair. -/
def State.mirrored (s : State) (p : Bool) (x : Cmd) (r : Res) : State :=
  if !p || !r.good then s
  else if x.op = 0x0011 then
    match s.host.armed.getLast? with
    | some a =>
      s.sendMirror x.op ([a.kind, a.chan] ++ timeNats a.earliest ++ timeNats a.due ++
        (((a.cmds.filter fun y => pairOp y.op).flatMap cmdWords).map (·.toNat)))
    | none => s
  else if pairOp x.op && !x.vx.stage then s.sendMirror x.op ((cmdWords x).map (·.toNat))
  else s

/-! ### Commands of the host -/

/-- A command is carried to the module that word 2 names (R63). The command proper in words 3 to 15 is a whole slot (DEDUCED,
log entry 57). A manager answers at once for an ID that it knows nothing of, or that is quarantined (R503, R506). -/
def State.carry (s : State) (x : Cmd) : State :=
  let c := x.vx
  let dst := fld (c.w 2) 11 0
  let say (s : State) (st : Status) (w : Nat) : State := s.answer (.done (Res.slot x (.err st w)))
  let inner := (List.range 13).map (fun k => c.w (3 + k)) ++ [0, 0, 0]
  let mine := s.isManager && s.inRoster dst
  if s.pw.recovery then say s .badState noWord
  else if 14 < c.len || c.rsv != 0 || c.len < 1 || c.stage then say s .badParam noWord
  else if fld (c.w 2) 31 12 != 0 then say s .badParam 2
  else if Config.remoteQueueCap ≤ s.host.remotes.length then say s .refusedFull noWord
  else if mine && !(s.entry dst).enabled then say (s.raise 0x0E 0x0A dst) .badParam noWord
  else if mine && (s.shownMember dst).st = 3 then say s .denied noWord
  else
    let id := s.host.remoteNext
    let s := s.onHost fun h => { h with remotes := h.remotes ++ [⟨id, dst, x, s.clk⟩], remoteNext := id + 1 }
    (s.sendCmd 0 dst c.tag inner).answer (.remote id)

/-- A command of the host is executed and answered. -/
def State.serve (s : State) (look : Nat → Option Handler) (x : Cmd) : State :=
  if x.vx.remote then s.carry x
  else
    match judge look .host x s with
    | .later a t => (t.mirrored s.paired x (.later a t)).answer a
    | r => ((r.left s).mirrored s.paired x r).answer (.done (r.slot x))

/-- A command of another module is executed, and its response sent to where it came from (R506, R507). -/
def State.serveRemote (s : State) (look : Nat → Option Handler) (src : Nat) (tag : Word) (x : Cmd) : State :=
  match judge look (.remote src tag) x s with
  | .later (.inject id) t =>
    (t.onFlt fun f => { f with injectors := f.injectors.map fun j => if j.1 = id then (id, some src, tag) else j }).mirrored s.paired x
      (.ok [] t)
  | .later a t => t.mirrored s.paired x (.later a t)
  | r => ((r.left s).mirrored s.paired x r).sendCmd 1 src tag (r.slot x)

/-- No earlier command runs or awaits an answer (table "Command slot", FENCE). -/
def State.quiet (s : State) : Bool := s.host.running.isEmpty && s.host.remotes.isEmpty && s.flt.injectors.isEmpty

/-- Commands whose fence has cleared are executed (R67): that of the host first. -/
def State.wake (s : State) (look : Nat → Option Handler) : State :=
  let s := match s.host.fenced with
    | some x => if s.quiet then (s.onHost fun h => { h with fenced := none }).serve look x else s
    | none => s
  s.host.waiting.foldl (fun s (src, tag, x) =>
    if s.quiet then
      (s.onHost fun h => { h with waiting := h.waiting.erase (src, tag, x) }).serveRemote look src tag x
    else s) s

/-- Vehitrix consumes commands: it is ready, nothing waits on a fence, and the response of one more has room (R54, R56). -/
def State.consumes (s : State) : Bool :=
  s.pw.on && s.host.fwReady && s.host.fenced.isNone
    && decide (occupancy s.host.rspTail s.host.rspHead + s.host.answers.length < 64)

/-- A command that was copied is executed, or waits on its fence. -/
def State.takeCmd (s : State) (look : Nat → Option Handler) (x : Cmd) : State :=
  if x.vx.fence && !s.quiet then s.onHost fun h => { h with fenced := some x } else s.serve look x

/-- A command of the host that Vehitrix consumes now. -/
def State.runCmd (s : State) (look : Nat → Option Handler) (x : Cmd) : State :=
  let s := if s.pw.on && s.host.fwReady then s.wake look else s
  if s.consumes then s.takeCmd look x else s

/-- The next slot of the command ring is copied, DB_CMD_HEAD passes it, and its command is taken (R53). -/
def State.consumeRing (s : State) (look : Nat → Option Handler) : State :=
  let s := if s.pw.on && s.host.fwReady then s.wake look else s
  if s.consumes && s.host.cmdHead != s.host.cmdTail then
    let x := cmdOf (Mem.readWords s.mem.ring (slotAddr cmdBase 64 64 s.host.cmdHead) 16)
    (s.onHost fun h => { h with cmdHead := h.cmdHead + 1 }).takeCmd look x
  else s

end Sys2Proof.Machine
end

