-- ==== Sys2Proof/Machine/Global.lean ====
section
/-!
DEFINITION. Global operations (R508 to R518, R521 of chapter 17): their start, relay, events and actions, acknowledgements and
results, snapshots, and the rows that belong to them; and the rows that steer device time, for a step fires events.
-/
namespace Sys2Proof.Machine

/-! ### Operations as payloads (R511) -/

/-- The payload of an operation. -/
def OpRec.words (o : OpRec) : List Word :=
  [w32 (at' o.kind 24 + o.opId), w32 (at' o.scope 16 + o.initiator), w32 (tNs o.tAct), w32 (tSec o.tAct),
    w32 (tSec o.tAct / 4294967296), o.arg, o.arg2] ++ (if o.kind = 1 then o.slot else [])

/-- An operation from its payload. -/
def opRecOf (l : List Word) : OpRec :=
  let w (i : Nat) : Word := l.getD i 0
  { kind := fld (w 0) 31 24, opId := fld (w 0) 15 0, scope := fld (w 1) 27 16, initiator := fld (w 1) 11 0
    tAct := mkTime ((w 3).toNat + fld (w 4) 15 0 * 4294967296) (w 2).toNat 0, arg := w 5, arg2 := w 6
    slot := (List.range 16).map fun k => w (7 + k), own := false, expected := [], acks := [], entries := [], stage := 1
    status := 0, ok := 0, acked := 0, expect := 0 }

/-- The frame type of a kind (R508): BROADCAST, BARRIER_ARM, SNAPSHOT. -/
def opType (kind : Nat) : Nat := if kind = 3 then 5 else if kind = 4 then 8 else 7

/-- The record of an operation at this module. -/
def State.op? (s : State) (initiator opId : Nat) : Option OpRec :=
  s.cl.ops.find? fun o => o.initiator == initiator && o.opId == opId && decide (o.stage < 3)

/-- A change of the record of an operation that is in progress. -/
def State.onOp (s : State) (initiator opId : Nat) (f : OpRec → OpRec) : State :=
  s.onCl fun c =>
    { c with ops := c.ops.map fun o => if o.initiator = initiator && o.opId = opId && decide (o.stage < 3) then f o else o }

/-- The record leaves. -/
def State.dropOp (s : State) (o : OpRec) : State :=
  s.onCl fun c => { c with ops := c.ops.filter fun x => !(x.initiator == o.initiator && x.opId == o.opId && x.stage < 3) }

/-! ### Acknowledgements (R514) -/

/-- Two modules of a pair acknowledge under one ID: OK when both are, LATE when either is (DEDUCED, log entry 58). -/
def mergeAck (a b : Word) : Word :=
  let and16 := (fld a 15 0) &&& (fld b 15 0)
  w32 (and16 + at' (b01 (bit a 16 && bit b 16)) 16 + at' (b01 (bit a 17 || bit b 17)) 17)

/-- A manager takes an acknowledgement of a member of its own cluster, until T_act + t_ack + t_hop. -/
def OpRec.takeAck (o : OpRec) (src : Nat) (w0 w1 : Word) : OpRec :=
  match o.acks.find? (·.1 == src) with
  | some (_, a, b) => { o with acks := o.acks.map fun x => if x.1 = src then (src, mergeAck a w0, b) else x }
  | none => { o with acks := o.acks ++ [(src, w0, w1)] }

/-- The operation under collection that an acknowledgement belongs to: its OP_ID, the member expected. -/
def State.ackFor (s : State) (opId src : Nat) : Option OpRec :=
  s.cl.ops.find? fun o =>
    o.stage == 1 && o.opId == opId && o.expected.contains src && decide (s.now ≤ o.tAct + 6 * usU)

/-- An acknowledgement of a member: condition results, OK, LATE, a status, the device time of the action. -/
def State.sendAck (s : State) (o : OpRec) (conds : Nat) (ok late : Bool) (status : Nat) : State :=
  let w0 := w32 (conds + at' (b01 ok) 16 + at' (b01 late) 17)
  if s.isManager then
    if s.now ≤ o.tAct + 6 * usU then s.onOp o.initiator o.opId fun x => x.takeAck s.myId w0 (w32 status) else s
  else
    s.sendSkov 6 0 false (s.managerId.getD 0) (w32 o.opId) [w0, w32 status, w32 (tNs s.now), w32 (tSec s.now)]

/-! ### What a module does at T_act (R508, R515 to R518) -/

/-- The conditions of a barrier that hold (table "Barrier conditions"). -/
def State.barrier (s : State) (o : OpRec) : Nat :=
  let locked := (s.time.mode == 2 && s.net.ptp.st == 3) || (s.time.mode == 1 && !s.time.holdover)
  b01 locked + at' (b01 ((bitsOf o.arg2.toNat 16).all s.runs)) 1 + at' (b01 (s.flt.unack.all fun e => decide (e.sev < 3))) 2
    + at' (b01 (s.twin.role != 3)) 3 + at' (b01 (s.pw.st == 4)) 4

/-- A signed number in 32 bits, saturating. -/
def sat32 (i : Int) : Nat := (wInt (max (-0x80000000) (min 0x7FFFFFFF i))).toNat

/-- The row of a channel that has begun last in its present picture. -/
def State.rowNow (s : State) (c f : Nat) : Nat :=
  (((List.range (s.rowCount c)).filter fun r =>
    match s.predictStart c f r with | some b => decide (b ≤ s.now) | none => false).getLast?).getD 0

/-- The snapshot record of this clock (R517): MODE in bits 13:12 and HOLDOVER in bit 14 of word 0 (DEDUCED, log entry 58);
without a running channel words 6 and 7 are free. -/
def State.snapshot (s : State) : List Word :=
  let run := (List.range 16).filter s.runs
  let (f, r) := match run.head? with
    | some c => let f := (s.ch c).frame.getD 0; (f, s.rowNow c f)
    | none => (s.freeVal 517 0, s.freeVal 517 1)
  [at' s.twin.role 24 + at' s.pw.st 16 + at' (b01 s.time.holdover) 14 + at' s.time.mode 12 + s.myId,
   tNs s.now, tSec s.now, tSec s.now / 4294967296, sat32 (nsOf s.net.ptp.offset), maskOf run, f, r, s.flt.logCount.toNat,
   (s.flt.unack.map (·.sev)).foldl max 0, s.cl.packets.toNat, s.cl.guarded.toNat, s.cl.skipped.toNat, 0, 0, 0].map w32

/-- Words are written in GDDR6. -/
def State.store (s : State) (a : Nat) (l : List Word) : State :=
  s.onMem fun m => { m with gddr := Mem.writeWords m.gddr a l }

/-- The initiator takes a snapshot record. -/
def State.storeSnap (s : State) (o : OpRec) (r : List Word) : State :=
  let id := fld (r.getD 0 0) 11 0
  (s.store (snapBase + 64 * id) r).onOp o.initiator o.opId fun x => { x with entries := aset x.entries (4096 + id) r }

/-- Snapshot records on their way up: kept by the initiator while the operation is in progress, otherwise passed on to the
manager above, but not by a standby. -/
def State.snapUp (s : State) (o : Option OpRec) (opId : Nat) (recs : List (List Word)) (relayed : Bool) : State :=
  match o with
  | some o => recs.foldl (fun s r => s.storeSnap o r) s
  | none =>
    if relayed && s.isStandby then s
    else match s.managerId with
      | some m => s.sendSkov 8 1 false m (w32 opId) recs.flatten relayed
      | none => s

/-- The counters that IN_CLEAR, FEED_CLEAR, AUD_CLEAR and DS_CTRL.CLEAR clear, and those of the snapshot record. -/
def State.clearCounters (s : State) : State :=
  let s := s.onCap fun c => { c with ins := c.ins.map fun x =>
    { x with packets := 0, crcErrs := 0, aliveReps := 0, aliveGaps := 0, skipped := 0 } }
  let s := (List.range 8).foldl (fun s i => s.onFeed i fun f => { f with lost := 0, concealed := 0, subst := 0, output := 0 }) s
  let s := (List.range 4).foldl (fun s i => s.onAp i Aud.clear) s
  let s := outState s (execDsCtrlClear (w32 (1 + at' s.ds.window 4)) s)
  s.onCl fun c => { c with packets := 0, guarded := 0, skipped := 0 }

/-- The coordinated reset actions in bit order, with the acknowledgement before a restart (R516). -/
def State.resetAll (s : State) (o : OpRec) : State :=
  let s := if bit o.arg 0 then s.clearCounters else s
  let s := if bit o.arg 1 then
      ((List.range 16).filter s.runs).foldl (fun s c => (s.refreshFrom c false o.tAct).2) s
    else s
  let s := s.sendAck o 0 true false 0
  if bit o.arg 2 then s.restartMp 1 else s

/-- The status of a CH_STOP at T_act. -/
def State.stopStatus (s : State) (c : Nat) : Status :=
  if (s.ch c).st = 0 || (s.ch c).last.isSome then .badState else .accepted

/-- CH_START or CH_STOP of an operation: the channel, its status, and the state after it. -/
def State.opChan (s : State) (o : OpRec) : State × Nat :=
  let c := fld o.arg 3 0
  if o.status != Status.accepted.code then (s, o.status)
  else if o.kind = 6 then
    match s.settle.startAt c o.tAct with
    | .ok t => (t, Status.accepted.code)
    | .error st => (s, st.code)
  else
    let st := s.stopStatus c
    if st = .accepted then
      (s.onCh c fun h => { h with last := some (s.frameAfter c o.tAct 4096 h.nextFrame) }, st.code)
    else (s, st.code)

/-- The event of an operation has come: the module acts and acknowledges. -/
def State.performOp (s : State) (k : Nat × Nat) : State :=
  match s.op? k.1 k.2 with
  | none => s
  | some o =>
    let s := match o.kind with
      | 3 =>
        let m := fld o.arg 15 0
        let held := s.barrier o &&& m
        s.sendAck o held (held == m) false 0
      | 4 =>
        let r := s.snapshot
        let s := (s.onCl fun c => { c with snap := some r }).drawn
        (s.snapUp (if o.own then some o else none) o.opId [r] false).sendAck o 0 true false 0
      | 5 => s.resetAll o
      | 6 | 7 =>
        let (s, st) := s.opChan o
        s.sendAck o 0 (st == Status.accepted.code) false st
      | _ => s.sendAck o 0 true false 0
    if s.isManager then s else s.dropOp o

/-- Operations whose events fired in this clock are carried out, by initiator and number, after the commits of the clock
(R513). -/
def State.performOps (s : State) : State :=
  if s.time.opsDue.isEmpty then s
  else
    (sortBy (fun p => p.1 * 65536 + p.2) s.time.opsDue).foldl State.performOp
      ((s.onTime fun t => { t with opsDue := [] }).applyDue)

/-! ### Reception (R512, R518) -/

/-- The event of an operation on timeline 0: an EV pulse or unit trigger for ACTION, none of its own for the others. -/
def opEvent (o : OpRec) : Evt :=
  let act := o.kind == 2
  { tl := 0, policy := 0, onEdge := false, actEv := act && bit o.arg 8, actScript := false, actHost := false
    actTrigger := act && bit o.arg 11, pin := fld o.arg 13 12, trigger := fld o.arg 27 16, script := 0, user := 0
    tgt := o.tAct, cyc := 0, phase := 0, period := 0, left := some 1, placed := true, frozen := none, fper := 0
    byScript := false, op := some (o.initiator, o.opId) }

/-- What the carried command of an operation answers. Those that configure a pair are left to its active module (DEDUCED, log
entry 58). -/
def State.opCommand (s : State) (look : Nat → Option Handler) (o : OpRec) : State × Status :=
  let x := cmdOf o.slot
  if s.isStandby && pairOp x.op then (s, .ok)
  else
    let r := judge look .group x s
    ((r.left s).mirrored s.paired x r, r.status)

/-- The status with which a CH_START or CH_STOP will begin, as it stands at reception (R518). -/
def State.opStatus (s : State) (o : OpRec) : Nat :=
  let c := fld o.arg 3 0
  if o.kind = 6 then match s.settle.startStatus c with | some st => st.code | none => Status.accepted.code
  else if o.kind = 7 then (s.stopStatus c).code else 0

/-- A module takes part in an operation: a COMMAND at once; any other by an event, or too late (R512). -/
def State.takePart (s : State) (look : Nat → Option Handler) (o : OpRec) : State :=
  if o.kind = 1 then
    let (s, st) := s.opCommand look o
    let s := s.sendAck o 0 (st == .ok || st == .accepted) false st.code
    if s.isManager then s else s.dropOp o
  else
    match decide (s.now + 2 * usU ≤ o.tAct), lowestFree (s.time.evts.map (·.1)) 1024 with
    | true, some slot =>
      (s.onOp o.initiator o.opId fun x => { x with status := s.opStatus o }).onTime fun t =>
        { t with evts := aset t.evts slot (opEvent o) }
    | _, _ =>
      let s := (s.raise 0x0E 0x06 s.myId).sendAck o 0 false true 0
      if s.isManager then s else s.dropOp o

/-- Members of this manager's own cluster that are ADMITTED, and the manager itself. -/
def State.ownMembers (s : State) : List Nat :=
  s.myId :: (s.admitted.map (·.1)).filter fun i => i / 64 == s.myId / 64

/-- An operation frame arrives from the manager of a joined module: a cluster manager relays it to its cluster (R508, R511). -/
def State.opArrives (s : State) (look : Nat → Option Handler) (h : Hdr) (payload : List Word) : State :=
  let o := opRecOf payload
  let mine := o.scope == 0x041 || o.scope == s.myId / 64
  if some h.src != s.managerId || !s.cl.joined || !mine || o.kind = 0 || 7 < o.kind || opType o.kind != h.type
      || (s.op? o.initiator o.opId).isSome then s
  else
    let s := if s.isManager && !s.isStandby then s.sendSkov h.type 0 true (s.myId / 64) h.tag payload true else s
    let o := if s.isManager then { o with expected := s.ownMembers } else o
    (s.onCl fun c => { c with ops := c.ops ++ [o] }).takePart look o

/-! ### Results (R514, R515) -/

/-- Members below 64 as two words, members 31 to 0 first. -/
def memberWords (l : List Nat) : List Word :=
  let m := maskOf (l.map (· % 64)).eraseDups
  [w32 m, w32 (m / 4294967296)]

/-- The result entry of this manager's own cluster (table "Cluster result entry"). -/
def OpRec.entry (o : OpRec) (cluster : Nat) : List Word :=
  let exp := o.expected.filter fun i => i / 64 == cluster
  let ok := o.acks.filter fun a => bit a.2.1 16
  let bad := o.acks.filter fun a => !bit a.2.1 16
  let late := o.acks.filter fun a => bit a.2.1 17
  [w32 (at' ok.length 16 + at' o.acks.length 8 + exp.length), 0]
    ++ memberWords (exp.filter fun i => !o.acks.any (·.1 == i)) ++ memberWords (bad.map (·.1)) ++ memberWords (late.map (·.1))

/-- Members expected in a cluster that have not acknowledged. -/
def OpRec.silent (o : OpRec) (cluster : Nat) : List Nat :=
  o.expected.filter fun i => i / 64 == cluster && !o.acks.any (·.1 == i)

/-- Collection closes at a manager: the entry of its cluster, sent up in an aggregate unless it is the initiator's. -/
def State.closeOp (s : State) (o : OpRec) : State :=
  let c := s.myId / 64
  let e := o.entry c
  let s := (o.silent c).foldl (fun s i => s.raise 0x0E 0x07 i) s
  if o.own then s.onOp o.initiator o.opId fun x => { x with stage := 2, entries := aset x.entries c e }
  else (s.sendSkov 6 1 false 0 (w32 o.opId) e).dropOp o

/-- A bit of a pair of member words. -/
def memberBit (e : List Word) (k m : Nat) : Bool := bit (e.getD (k + m / 32) 0) (m % 32)

/-- The entry of a cluster at completion: that of its aggregate; without one its manager alone is known, and is missing. Of a
snapshot only members whose record has arrived count as OK (R517). -/
def OpRec.final (o : OpRec) (c : Nat) : List Word :=
  match alookup o.entries c with
  | none => if o.expected.contains (64 * c) then [1, 0, 1, 0, 0, 0, 0, 0] else List.replicate 8 0
  | some e =>
    if o.kind != 4 then e
    else
      let n := ((List.range 64).filter fun m =>
        (alookup o.entries (4096 + 64 * c + m)).isSome && !memberBit e 2 m && !memberBit e 4 m).length
      w32 (at' (min n (fld (e.getD 0 0) 22 16)) 16 + fld (e.getD 0 0) 14 0) :: e.drop 1

/-- The address of an operation's result area. -/
def areaOf (opId : Nat) : Nat := opBase + opId % 8 * 2048

/-- An operation completes at its initiator: the area, the faults, CL_OP_DONE, CMD_DONE. -/
def State.completeOp (s : State) (o : OpRec) : State :=
  let es := (List.range 64).map o.final
  let sum (hi lo : Nat) : Nat := sumNat (es.map fun e => fld (e.getD 0 0) hi lo)
  let (ok, acked, exp) := (sum 22 16, sum 14 8, sum 6 0)
  let s := s.store (areaOf o.opId) es.flatten
  let gone := (List.range 64).filter fun c => c != s.myId / 64 && o.expected.contains (64 * c) && (alookup o.entries c).isNone
  let s := gone.foldl (fun s c => s.raise 0x0E 0x07 (64 * c)) s
  let bad := (List.range 4096).find? fun i => memberBit (es.getD (i / 64) []) 4 (i % 64)
  let s := match bad with | some i => s.raise 0x0E 0x08 i | none => s
  let s := s.onOp o.initiator o.opId fun x => { x with stage := 3, ok := ok, acked := acked, expect := exp }
  (s.event 0x0E03 0xFF 6 [o.opId, at' o.kind 24 + ok, acked, exp]).complete 0x0E10 o.opId .ok [o.opId]

/-- The gather of this initiator (table "Operation costs"), 50 us more for a snapshot (R517). -/
def State.gather (s : State) (o : OpRec) : Nat :=
  ((if s.strapRole = 3 then 17 else 9) + (if o.kind = 4 then 50 else 0)) * usU

/-- The device time at which a manager goes on with an operation: collection closes at T_act + t_ack + t_hop, the initiator
completes at T_act + G. -/
def State.opDue (s : State) (o : OpRec) : Nat := o.tAct + (if o.stage < 2 then 6 * usU else s.gather o)

/-- OP_COLLECT_CLOSE: the clock runs on to the next such time. -/
def execOpCollectClose (s : State) : Host.Outcome State Fault Refusal :=
  if !s.isManager then .next s
  else match minBy s.opDue (s.cl.ops.filter fun o => decide (o.stage < 3)) with
  | none => .next s
  | some o =>
    let s := s.toTime (s.opDue o)
    .next (if o.stage < 2 then s.closeOp o else s.completeOp o)

/-! ### Rows of the acknowledgements and snapshots -/

/-- SKOV_BARRIER_ACK_RX: a member's acknowledgement, or at the array manager a cluster's aggregate until its collection closes
(R514). -/
def execSkovBarrierAckRx (f : SkovFrame) (s : State) : Host.Outcome State Fault Refusal :=
  let (s, h) := skovIn s f
  match h with
  | none => .next s
  | some h =>
    let id := h.tag.toNat % 65536
    if h.type != 6 || !s.isManager then .next s
    else if h.sub = 0 then
      match s.ackFor id h.src with
      | some o => .next (s.onOp o.initiator o.opId fun x => x.takeAck h.src (f.payload.getD 0 0) (f.payload.getD 1 0))
      | none => .next s
    else if h.sub = 1 && s.strapRole = 3 && h.src % 64 = 0 then
      match s.cl.ops.find? (fun o => o.own && decide (o.stage < 3) && o.opId == id && o.expected.contains h.src
          && decide (s.now ≤ o.tAct + 14 * usU)) with
      | some o =>
        .next (if (alookup o.entries (h.src / 64)).isSome then s
          else s.onOp o.initiator o.opId fun x =>
            { x with entries := aset x.entries (h.src / 64) ((List.range 8).map fun k => f.payload.getD k 0) })
      | none => .next s
    else .next s

/-- Records of sixteen words. -/
def recordsOf (l : List Word) : List (List Word) := (List.range (min 23 (l.length / 16))).map fun k => (l.drop (16 * k)).take 16

/-- SUBTYPE 1 of a SNAPSHOT frame: records on their way up (R517). -/
def State.snapRecords (s : State) (h : Hdr) (payload : List Word) : State :=
  if !s.isManager || some h.src == s.managerId then s
  else
    let id := h.tag.toNat % 65536
    let own := s.cl.ops.find? fun o => o.own && o.kind == 4 && decide (o.stage < 3) && o.opId == id
    s.snapUp own id (recordsOf payload) true

/-! ### Commands -/

/-- ARG of an operation names nothing that its kind does not have. -/
def opArgBad (kind : Nat) (arg : Word) : Bool :=
  let only (m : Nat) : Bool := arg.toNat &&& (0xFFFFFFFF ^^^ m) != 0
  match kind with
  | 2 => only (msk 27 16 + msk 13 11 + msk 8 8) || !(bit arg 8 || bit arg 11)
      || (bit arg 11 && !Config.triggerKnown (fld arg 27 16))
  | 3 => only (msk 4 0)
  | 5 => only (msk 2 0)
  | 6 | 7 => only (msk 3 0)
  | _ => false

/-- CL_OP (0x0E10; R508 to R512, R521), given the handlers that a carried command may use. -/
def hClOp (look : Nat → Option Handler) (c : Vx) (s : State) : Res :=
  let kind := fld (c.w 2) 31 24
  let scope := fld (c.w 3) 27 16
  let t := Vx.time c 4
  let lead := (if s.strapRole = 3 then 20 else 12) * usU
  refuse (badNs (c.w 4)) .badParam 4 <|
  refuse (!s.isManager || s.cl.id.isNone) .denied noWord <|
  refuseRsv c [(2, msk 31 24), (3, msk 27 16), (6, msk 15 0)] <|
  refuse (kind == 0 || decide (7 < kind)) .badParam 2 <|
  refuse (scope != (if s.strapRole = 3 then 0x041 else s.myId / 64)) .badParam 3 <|
  refuse (decide (t < s.now + 20 * usU + lead) || decide (s.now + 60 * secU < t)
    || ((kind == 6 || kind == 7) && decide (t < s.now + msU))) .badParam noWord <|
  refuse (opArgBad kind (c.w 7)) .badParam 7 <|
  match (if kind = 1 then (s.cl.slotLo, s.cl.slotHi) else (some [], some [])) with
  | (some lo, some hi) =>
    refuse (decide (8 ≤ (s.cl.ops.filter fun o => o.own && decide (o.stage < 3)).length)) .refusedFull noWord <|
    let id := s.cl.nextOp
    let base := opRecOf ([w32 (at' kind 24 + id), w32 (at' scope 16 + s.myId), c.w 4, c.w 5, c.w 6, c.w 7, c.w 8] ++ lo ++ hi)
    let heads := (s.admitted.map (·.1)).filter fun i => i / 64 != s.myId / 64
    let o : OpRec := { base with own := true, expected := s.ownMembers ++ heads }
    let s := s.onCl fun x =>
      { x with nextOp := (id + 1) % 65536
               ops := (x.ops.filter fun y => !(y.own && y.stage == 3 && y.opId % 8 == id % 8)) ++ [o]
               slotLo := if kind = 1 then none else x.slotLo, slotHi := if kind = 1 then none else x.slotHi }
    let ty := opType kind
    let s := if s.strapRole = 3 then s.sendSkov ty 0 true 0x040 (w32 id) o.words else s
    let s := s.sendSkov ty 0 true (s.myId / 64) (w32 id) o.words (s.strapRole == 3)
    .acc ((s.start 0x0E10 c.tag id).takePart look o) [id]
  | _ => .err .badState noWord

/-- Totals of an operation: at completion, and before it of what has been collected so far. -/
def OpRec.totals (o : OpRec) : List Nat :=
  if o.stage = 3 then [o.ok, o.acked, o.expect]
  else [(o.acks.filter fun a => bit a.2.1 16).length, o.acks.length, o.expected.length]

/-- CL_OP_QUERY (0x0E11). Of an unknown operation the totals are free. -/
def hClOpQuery (c : Vx) (s : State) : Res :=
  let id := fld (c.w 2) 15 0
  refuseRsv c [(2, msk 15 0)] <|
  match (s.cl.ops.filter fun o => o.own && o.opId == id).getLast? with
  | some o => .ok ([if o.stage = 3 then 2 else 1] ++ o.totals ++ lowHigh (areaOf id)) s
  | none => .ok ([0] ++ (List.range 3).map (s.freeVal 521) ++ lowHigh (areaOf id)) s.drawn

/-- The handler of an opcode as a carried command sees it: of CL_OP one whose own carried command is none, because the slot
is used up (R521). -/
def carriedHandler (op : Nat) : Option Handler :=
  if op = 0x0E10 then direct 7 (hClOp localHandler)
  else if op = 0x0E11 then direct 1 hClOpQuery else localHandler op

/-- The handler of every opcode of command set revision 3. -/
def handlerOf (op : Nat) : Option Handler :=
  if op = 0x0E10 then direct 7 (hClOp carriedHandler) else carriedHandler op

/-! ### Frames that start operations -/

/-- SKOV_BARRIER_ARM_RX. -/
def execSkovBarrierArmRx (f : SkovFrame) (s : State) : Host.Outcome State Fault Refusal :=
  let (s, h) := skovIn s f
  match h with
  | some h => .next (if h.type = 5 && h.sub = 0 then s.opArrives handlerOf h f.payload else s)
  | none => .next s

/-- SKOV_BROADCAST_RX. -/
def execSkovBroadcastRx (f : SkovFrame) (s : State) : Host.Outcome State Fault Refusal :=
  let (s, h) := skovIn s f
  match h with
  | some h => .next (if h.type = 7 && h.sub = 0 then s.opArrives handlerOf h f.payload else s)
  | none => .next s

/-- SKOV_SNAPSHOT_RX: the arm of a snapshot, or records. -/
def execSkovSnapshotRx (f : SkovFrame) (s : State) : Host.Outcome State Fault Refusal :=
  let (s, h) := skovIn s f
  match h with
  | some h =>
    .next (if h.type != 8 then s
      else if h.sub = 0 then s.opArrives handlerOf h f.payload
      else if h.sub = 1 then s.snapRecords h f.payload else s)
  | none => .next s

/-! ### Rows in which events fire -/

/-- EVENT_FIRE: the clock runs on to the earliest fire time; its events fire, and operations are carried out. -/
def execEventFire (s : State) : Host.Outcome State Fault Refusal := .next (fireEvents s).performOps

/-- PTP_SYNC_RX (R434, R436). -/
def execPtpSyncRx (m : PtpMsg) (s : State) : Host.Outcome State Fault Refusal := .next (s.ptpSync m).performOps

/-- PTP_FOLLOW_UP_RX (R434). -/
def execPtpFollowUpRx (m : PtpMsg) (s : State) : Host.Outcome State Fault Refusal := .next (s.ptpFollowUp m).performOps

/-- PTP_DELAY_RESP_RX (R436, R437). -/
def execPtpDelayRespRx (m : PtpMsg) (s : State) : Host.Outcome State Fault Refusal := .next (s.ptpDelayResp m).performOps

end Sys2Proof.Machine
end

