-- ==== Sys2Proof/Machine/Remote.lean ====
section
/-!
DEFINITION. COMMAND_CONSUME; commands of other modules and of the active module of a pair, and the answers to commands sent
to them (R53, R63, R467, R468, R503, R506, R507).
-/
namespace Sys2Proof.Machine

/-- COMMAND_CONSUME: after some clocks Vehitrix copies the next command slot and executes it. -/
def execCommandConsume (wait : Nat) (s : State) : Host.Outcome State Fault Refusal :=
  .next ((s.pass wait).consumeRing handlerOf).performOps

/-! ### CMD frames (R506, R507) -/

/-- The roster entry that a manager asks about an ID: of its own cluster the member's, of another the cluster manager's. -/
def State.routeEntry (s : State) (dst : Nat) : Nat := if dst / 64 = s.myId / 64 then dst else dst / 64 * 64

/-- A manager knows the way to an ID from its own roster. -/
def State.routes (s : State) (dst : Nat) : Bool := dst / 64 == s.myId / 64 || s.strapRole == 3

/-- A manager passes a CMD frame on, or answers for an ID that it knows nothing of or that is quarantined; a standby passes
none on (R494, R503, R506). -/
def State.relayCmd (s : State) (f : SkovFrame) (h : Hdr) : State :=
  let e := s.routeEntry h.dst
  let op := fld (f.payload.getD 0 0) 15 0
  let say (s : State) (st : Status) : State :=
    if h.sub = 0 then s.sendCmd 1 h.src h.tag (rspWords (f.payload.getD 1 0) op st.code [0xFFFFFFFF]) else s
  if !s.isManager || s.isStandby then s
  else if s.routes h.dst && !(s.entry e).enabled then say (s.raise 0x0E 0x0A h.dst) .badParam
  else if s.routes h.dst && (s.shownMember e).st = 3 then say s .denied
  else if !s.routes h.dst && s.managerId.isNone then say (s.raise 0x0E 0x0A h.dst) .badParam
  else s.forward f (s.cmdHop h.dst)

/-- The source of a command is ADMITTED: at a manager by its own record; what comes from above or was relayed, a manager has
let through. -/
def State.trusts (s : State) (h : Hdr) : Bool :=
  some h.src == s.managerId || h.relayed || (s.isManager && (s.member h.src h.twinB).st == 2)

/-- A command for this module: executed, or kept until its fence clears; a standby discards it. -/
def State.remoteCmd (s : State) (h : Hdr) (x : Cmd) : State :=
  if !s.trusts h || s.isStandby || !s.pw.on || !s.host.fwReady then s
  else
    let s := s.wake handlerOf
    if x.vx.fence && !s.quiet then s.onHost fun g => { g with waiting := g.waiting ++ [(h.src, h.tag, x)] }
    else s.serveRemote handlerOf h.src h.tag x

/-- The response to a forwarded command goes to the host (R63). -/
def State.remoteAnswer (s : State) (h : Hdr) (slot : List Word) : State :=
  match s.host.remotes.find? (fun r => r.dest == h.src && r.cmd.vx.tag == h.tag) with
  | some r =>
    (s.onHost fun g => { g with remotes := g.remotes.filter (·.id != r.id) }).finish (.remote r.id) (slot.take 16)
  | none => s

/-- SKOV_CMD_RX: a command (SUBTYPE 0) or response (1). -/
def execSkovCmdRx (f : SkovFrame) (s : State) : Host.Outcome State Fault Refusal :=
  let (s, h) := skovIn s f
  match h with
  | none => .next s
  | some h =>
    if h.type != 2 || 1 < h.sub || h.group then .next s
    else if h.dst != s.myId then .next (s.relayCmd f h)
    else if h.sub = 0 then .next (s.remoteCmd h (cmdOf f.payload)).performOps
    else .next (s.remoteAnswer h f.payload)

/-- REMOTE_TIMEOUT: the clock runs on to 5 ms after the oldest forwarded command without a response (R63). -/
def execRemoteTimeout (s : State) : Host.Outcome State Fault Refusal :=
  match minBy (·.since) s.host.remotes with
  | none => .next s
  | some r =>
    let s := s.toClk (r.since + 5 * msC)
    .next ((s.onHost fun g => { g with remotes := g.remotes.filter (·.id != r.id) }).finish (.remote r.id)
      (Res.slot r.cmd (.err .timeout noWord)))

/-! ### The mirror at the standby and its answer at the active module (R467, R468) -/

/-- The standby answers a MIRROR frame by its SEQ; a refusal ends its part in the pair. -/
def State.mirrorAnswer (s : State) (seq : Nat) (ok : Bool) : State :=
  let s := s.sendTwin tMirror 0 0 0 0 0 [seq, b01 ok]
  if ok then s else s.unpair

/-- A mirrored set is armed with the boundary of the active module. -/
def State.mirrorSet (s : State) (kind chan earliest due : Nat) (cmds : List Cmd) : State × Bool :=
  if 16 ≤ s.host.armed.length || (s.withArmed.setFails cmds).isSome then (s, false)
  else
    let id := s.host.freeId
    let (f, r) := if kind = 0 then s.rowFrom chan due else if kind = 1 then (s.frameFrom chan due, 0) else (0, 0)
    (s.onHost fun h =>
      { h with armed := h.armed ++ [⟨id, kind, chan, earliest, due, false, f, r, cmds⟩], nextId := id % 255 + 1
               ended := adel h.ended id }, true)

/-- A channel that runs at the active module starts at the standby at its first frame boundary at least 1 ms after the pair
formed, with the frame numbers of the active module, of which a frame and its start are known, and with the delay and the
failover reserve that the active module fixed at the channel's start: the delay of a running channel never changes (R239). -/
def State.mirrorStart (s : State) (chan frame start delay : Nat) (reserve : Bool) : State × Bool :=
  let kept := ((s.ch chan).delay, (s.ch chan).reserve)
  let s := s.onCh chan fun h => { h with delay := delay, reserve := if reserve then 2 else 1 }
  match s.settle.startAt chan (max s.now s.twin.startAt) with
  | .error _ => (s.onCh chan fun h => { h with delay := kept.1, reserve := kept.2 }, false)
  | .ok t =>
    let a := (t.predictStart chan 0 0).getD t.now
    let per := max 1 ((t.predictStart chan 1 0).getD (a + 1) - a)
    let n := frame + roundDiv (a - start * nsU) per
    let t := t.onCh chan fun h =>
      { h with delay := kept.1, reserve := kept.2, cycle0 := h.cycle0 - (n : Int), frame := if n = 0 then none else some (n - 1), needF := n }
    (if t.twin.role = 3 then
        t.onTwin fun w => { w with converge := w.converge.filter (·.1 != chan) ++ [(chan, t.convergeFrom chan)] }
      else t, true)

/-- TWIN_MIRROR_RX. -/
def execTwinMirrorRx (f : TwinFrame) (m : MirrorMsg) (s : State) : Host.Outcome State Fault Refusal :=
  let (s, ok) := twinIn s f tMirror
  let seq := f.h1.toNat
  if !ok || s.twin.role = 0 then .next s
  else match m with
  | .answer n good =>
    if s.twin.role != 1 then .next s
    else
      let s := s.onTwin fun t => { t with mirrors := t.mirrors.filter (·.seq != n) }
      .next (if good then s else ((s.raise 0x0D 0x08).unpair).sendBeat false)
  | .cmd x =>
    if !s.isStandby then .next s
    else
      let r := judge handlerOf (.mirror seq) x s
      .next ((r.left s).mirrorAnswer seq r.good).performOps
  | .set kind chan earliest due cmds =>
    if !s.isStandby then .next s
    else
      let (s, good) := s.mirrorSet kind chan (earliest * nsU) (due * nsU) cmds
      .next (s.mirrorAnswer seq good)
  | .running chan frame start delay reserve =>
    if !s.isStandby then .next s
    else
      let (s, good) := s.mirrorStart chan frame start delay reserve
      .next (s.mirrorAnswer seq good)

end Sys2Proof.Machine
end

