-- ==== Sys2Proof/Machine/Commands.lean ====
section
/-!
DEFINITION. The commands of Vehitrix: each row of the opcode tables is the host's command of that opcode, consumed now.
-/
namespace Sys2Proof.Machine

/-- A command of the host is consumed, checked, executed and answered (`judge`); what it does is its handler (`handlerOf`).
Where Vehitrix consumes none, nothing happens. Operations whose events it lets fire are carried out. -/
def runVx (op : Nat) (c : Vx) (s : State) : Host.Outcome State Fault Refusal :=
  .next (s.runCmd handlerOf ⟨op, c⟩).performOps

/-- NOP (0x0000; R65). -/
def execNop (c : Vx) (s : State) : Host.Outcome State Fault Refusal := runVx 0x0000 c s

/-- GET_INFO (0x0001; R65). -/
def execGetInfo (c : Vx) (s : State) : Host.Outcome State Fault Refusal := runVx 0x0001 c s

/-- SET_POWER_STATE (0x0002; R79). -/
def execSetPowerState (c : Vx) (s : State) : Host.Outcome State Fault Refusal := runVx 0x0002 c s

/-- GET_POWER_STATE (0x0003; R79). -/
def execGetPowerState (c : Vx) (s : State) : Host.Outcome State Fault Refusal := runVx 0x0003 c s

/-- COMMIT_OPEN (0x0010; R72). -/
def execCommitOpen (c : Vx) (s : State) : Host.Outcome State Fault Refusal := runVx 0x0010 c s

/-- COMMIT_ARM (0x0011; R80). -/
def execCommitArm (c : Vx) (s : State) : Host.Outcome State Fault Refusal := runVx 0x0011 c s

/-- COMMIT_ABORT (0x0012; R75). -/
def execCommitAbort (c : Vx) (s : State) : Host.Outcome State Fault Refusal := runVx 0x0012 c s

/-- COMMIT_STATUS (0x0013; R75). -/
def execCommitStatus (c : Vx) (s : State) : Host.Outcome State Fault Refusal := runVx 0x0013 c s

/-- SET_EVENT_FILTER (0x0020; R81). -/
def execSetEventFilter (c : Vx) (s : State) : Host.Outcome State Fault Refusal := runVx 0x0020 c s

/-- GET_RESTART_REPORT (0x0021; R78). -/
def execGetRestartReport (c : Vx) (s : State) : Host.Outcome State Fault Refusal := runVx 0x0021 c s

/-- TIME_GET (0x0100; R85). -/
def execTimeGet (c : Vx) (s : State) : Host.Outcome State Fault Refusal := runVx 0x0100 c s

/-- TIME_SOURCE (0x0101; R86). -/
def execTimeSource (c : Vx) (s : State) : Host.Outcome State Fault Refusal := runVx 0x0101 c s

/-- TIME_STEP (0x0102; R88). -/
def execTimeStep (c : Vx) (s : State) : Host.Outcome State Fault Refusal := runVx 0x0102 c s

/-- TIME_TRIM (0x0103; R86). -/
def execTimeTrim (c : Vx) (s : State) : Host.Outcome State Fault Refusal := runVx 0x0103 c s

/-- TL_CONFIG (0x0110; R119). -/
def execTlConfig (c : Vx) (s : State) : Host.Outcome State Fault Refusal := runVx 0x0110 c s

/-- TL_QUERY (0x0111; R119). -/
def execTlQuery (c : Vx) (s : State) : Host.Outcome State Fault Refusal := runVx 0x0111 c s

/-- EVT_ADD (0x0120; R107). -/
def execEvtAdd (c : Vx) (s : State) : Host.Outcome State Fault Refusal := runVx 0x0120 c s

/-- EVT_CANCEL (0x0121; R109). -/
def execEvtCancel (c : Vx) (s : State) : Host.Outcome State Fault Refusal := runVx 0x0121 c s

/-- EVT_QUERY (0x0122; R107). -/
def execEvtQuery (c : Vx) (s : State) : Host.Outcome State Fault Refusal := runVx 0x0122 c s

/-- EV_CONFIG (0x0130; R112). -/
def execEvConfig (c : Vx) (s : State) : Host.Outcome State Fault Refusal := runVx 0x0130 c s

/-- IN_CONFIG (0x0200; R121). -/
def execInConfig (c : Vx) (s : State) : Host.Outcome State Fault Refusal := runVx 0x0200 c s

/-- IN_QUERY (0x0201; R146). -/
def execInQuery (c : Vx) (s : State) : Host.Outcome State Fault Refusal := runVx 0x0201 c s

/-- IN_CLEAR (0x0202; R146). -/
def execInClear (c : Vx) (s : State) : Host.Outcome State Fault Refusal := runVx 0x0202 c s

/-- IP_CONFIG (0x0210; R147). -/
def execIpConfig (c : Vx) (s : State) : Host.Outcome State Fault Refusal := runVx 0x0210 c s

/-- IP_CSC (0x0211; R136). -/
def execIpCsc (c : Vx) (s : State) : Host.Outcome State Fault Refusal := runVx 0x0211 c s

/-- COMP_CONFIG (0x0300; R149). -/
def execCompConfig (c : Vx) (s : State) : Host.Outcome State Fault Refusal := runVx 0x0300 c s

/-- LAYER_CONFIG (0x0301; R164). -/
def execLayerConfig (c : Vx) (s : State) : Host.Outcome State Fault Refusal := runVx 0x0301 c s

/-- COMP_QUERY (0x0302; R169). -/
def execCompQuery (c : Vx) (s : State) : Host.Outcome State Fault Refusal := runVx 0x0302 c s

/-- SIG_CONFIG (0x0310; R175). -/
def execSigConfig (c : Vx) (s : State) : Host.Outcome State Fault Refusal := runVx 0x0310 c s

/-- SIG_QUERY (0x0311; R175). -/
def execSigQuery (c : Vx) (s : State) : Host.Outcome State Fault Refusal := runVx 0x0311 c s

/-- SURF_CONFIG (0x0340; R191). -/
def execSurfConfig (c : Vx) (s : State) : Host.Outcome State Fault Refusal := runVx 0x0340 c s

/-- SURF_PUBLISH (0x0341; R178). -/
def execSurfPublish (c : Vx) (s : State) : Host.Outcome State Fault Refusal := runVx 0x0341 c s

/-- SURF_QUERY (0x0342; R177). -/
def execSurfQuery (c : Vx) (s : State) : Host.Outcome State Fault Refusal := runVx 0x0342 c s

/-- BLIT_SUBMIT (0x0348; R186). -/
def execBlitSubmit (c : Vx) (s : State) : Host.Outcome State Fault Refusal := runVx 0x0348 c s

/-- BLIT_QUERY (0x0349; R187). -/
def execBlitQuery (c : Vx) (s : State) : Host.Outcome State Fault Refusal := runVx 0x0349 c s

/-- BLIT_BW (0x034C; R188). -/
def execBlitBw (c : Vx) (s : State) : Host.Outcome State Fault Refusal := runVx 0x034C c s

/-- CH_CONFIG (0x0400; R192). -/
def execChConfig (c : Vx) (s : State) : Host.Outcome State Fault Refusal := runVx 0x0400 c s

/-- CH_LAYOUT (0x0401; R202). -/
def execChLayout (c : Vx) (s : State) : Host.Outcome State Fault Refusal := runVx 0x0401 c s

/-- CH_DELAY (0x0402; R239). -/
def execChDelay (c : Vx) (s : State) : Host.Outcome State Fault Refusal := runVx 0x0402 c s

/-- CH_START (0x0403; R243). -/
def execChStart (c : Vx) (s : State) : Host.Outcome State Fault Refusal := runVx 0x0403 c s

/-- CH_STOP (0x0404; R243). -/
def execChStop (c : Vx) (s : State) : Host.Outcome State Fault Refusal := runVx 0x0404 c s

/-- CH_QUERY (0x0405; R241). -/
def execChQuery (c : Vx) (s : State) : Host.Outcome State Fault Refusal := runVx 0x0405 c s

/-- CH_REFRESH (0x0406; R222). -/
def execChRefresh (c : Vx) (s : State) : Host.Outcome State Fault Refusal := runVx 0x0406 c s

/-- LOSSLESS_CONFIG (0x0410; R226). -/
def execLosslessConfig (c : Vx) (s : State) : Host.Outcome State Fault Refusal := runVx 0x0410 c s

/-- SEI_CONFIG (0x0420; R229). -/
def execSeiConfig (c : Vx) (s : State) : Host.Outcome State Fault Refusal := runVx 0x0420 c s

/-- ENG_CONTROL (0x0430; R244). -/
def execEngControl (c : Vx) (s : State) : Host.Outcome State Fault Refusal := runVx 0x0430 c s

/-- RC_CONFIG (0x0500; R247). -/
def execRcConfig (c : Vx) (s : State) : Host.Outcome State Fault Refusal := runVx 0x0500 c s

/-- RC_QUERY (0x0501; R251). -/
def execRcQuery (c : Vx) (s : State) : Host.Outcome State Fault Refusal := runVx 0x0501 c s

/-- RC_BIND (0x0502; R269). -/
def execRcBind (c : Vx) (s : State) : Host.Outcome State Fault Refusal := runVx 0x0502 c s

/-- GROUP_CONFIG (0x0510; R265). -/
def execGroupConfig (c : Vx) (s : State) : Host.Outcome State Fault Refusal := runVx 0x0510 c s

/-- GROUP_MEMBER (0x0511; R265). -/
def execGroupMember (c : Vx) (s : State) : Host.Outcome State Fault Refusal := runVx 0x0511 c s

/-- CLRC_CONFIG (0x0520; R272). -/
def execClrcConfig (c : Vx) (s : State) : Host.Outcome State Fault Refusal := runVx 0x0520 c s

/-- DS_WELLS (0x0600; R290). -/
def execDsWells (c : Vx) (s : State) : Host.Outcome State Fault Refusal := runVx 0x0600 c s

/-- DS_FLOW_ALLOC (0x0601; R294). -/
def execDsFlowAlloc (c : Vx) (s : State) : Host.Outcome State Fault Refusal := runVx 0x0601 c s

/-- DS_FLOW_FREE (0x0602; R294). -/
def execDsFlowFree (c : Vx) (s : State) : Host.Outcome State Fault Refusal := runVx 0x0602 c s

/-- DS_FLOW_QUERY (0x0603; R296). -/
def execDsFlowQuery (c : Vx) (s : State) : Host.Outcome State Fault Refusal := runVx 0x0603 c s

/-- DS_DELAY_CONFIG (0x0608; R298). -/
def execDsDelayConfig (c : Vx) (s : State) : Host.Outcome State Fault Refusal := runVx 0x0608 c s

/-- DS_SUBMIT (0x0610; R309). -/
def execDsSubmit (c : Vx) (s : State) : Host.Outcome State Fault Refusal := runVx 0x0610 c s

/-- DS_CANCEL (0x0611; R301). -/
def execDsCancel (c : Vx) (s : State) : Host.Outcome State Fault Refusal := runVx 0x0611 c s

/-- DIP_IMAGE_WRITE (0x0700; R330). -/
def execDipImageWrite (c : Vx) (s : State) : Host.Outcome State Fault Refusal := runVx 0x0700 c s

/-- DIP_LOAD (0x0701; R331). -/
def execDipLoad (c : Vx) (s : State) : Host.Outcome State Fault Refusal := runVx 0x0701 c s

/-- DIP_UNLOAD (0x0702; R333). -/
def execDipUnload (c : Vx) (s : State) : Host.Outcome State Fault Refusal := runVx 0x0702 c s

/-- DIP_QUERY (0x0703; R333). -/
def execDipQuery (c : Vx) (s : State) : Host.Outcome State Fault Refusal := runVx 0x0703 c s

/-- DIP_PROG_QUERY (0x0704; R333). -/
def execDipProgQuery (c : Vx) (s : State) : Host.Outcome State Fault Refusal := runVx 0x0704 c s

/-- DIP_HOOK (0x0710; R333). -/
def execDipHook (c : Vx) (s : State) : Host.Outcome State Fault Refusal := runVx 0x0710 c s

/-- SELFCHECK_CONFIG (0x0800; R362). -/
def execSelfcheckConfig (c : Vx) (s : State) : Host.Outcome State Fault Refusal := runVx 0x0800 c s

/-- SELFCHECK_QUERY (0x0801; R362). -/
def execSelfcheckQuery (c : Vx) (s : State) : Host.Outcome State Fault Refusal := runVx 0x0801 c s

/-- FEED_CONFIG (0x0810; R362). -/
def execFeedConfig (c : Vx) (s : State) : Host.Outcome State Fault Refusal := runVx 0x0810 c s

/-- FEED_QUERY (0x0811; R362). -/
def execFeedQuery (c : Vx) (s : State) : Host.Outcome State Fault Refusal := runVx 0x0811 c s

/-- FEED_CLEAR (0x0812; R362). -/
def execFeedClear (c : Vx) (s : State) : Host.Outcome State Fault Refusal := runVx 0x0812 c s

/-- AUD_CONFIG (0x0900; R381). -/
def execAudConfig (c : Vx) (s : State) : Host.Outcome State Fault Refusal := runVx 0x0900 c s

/-- AUD_QUERY (0x0901; R381). -/
def execAudQuery (c : Vx) (s : State) : Host.Outcome State Fault Refusal := runVx 0x0901 c s

/-- AUD_CLEAR (0x0902; R381). -/
def execAudClear (c : Vx) (s : State) : Host.Outcome State Fault Refusal := runVx 0x0902 c s

/-- PKG_STREAM (0x0A00; R408). -/
def execPkgStream (c : Vx) (s : State) : Host.Outcome State Fault Refusal := runVx 0x0A00 c s

/-- PKG_TEMPLATE (0x0A01; R390). -/
def execPkgTemplate (c : Vx) (s : State) : Host.Outcome State Fault Refusal := runVx 0x0A01 c s

/-- PKG_AUDIO (0x0A02; R395). -/
def execPkgAudio (c : Vx) (s : State) : Host.Outcome State Fault Refusal := runVx 0x0A02 c s

/-- PKG_QUERY (0x0A03; R408). -/
def execPkgQuery (c : Vx) (s : State) : Host.Outcome State Fault Refusal := runVx 0x0A03 c s

/-- PORT_CONFIG (0x0B00; R445). -/
def execPortConfig (c : Vx) (s : State) : Host.Outcome State Fault Refusal := runVx 0x0B00 c s

/-- PORT_QUERY (0x0B01; R445). -/
def execPortQuery (c : Vx) (s : State) : Host.Outcome State Fault Refusal := runVx 0x0B01 c s

/-- QUEUE_CONFIG (0x0B10; R422). -/
def execQueueConfig (c : Vx) (s : State) : Host.Outcome State Fault Refusal := runVx 0x0B10 c s

/-- QUEUE_QUERY (0x0B11; R420). -/
def execQueueQuery (c : Vx) (s : State) : Host.Outcome State Fault Refusal := runVx 0x0B11 c s

/-- GATE_WRITE (0x0B20; R425). -/
def execGateWrite (c : Vx) (s : State) : Host.Outcome State Fault Refusal := runVx 0x0B20 c s

/-- GATE_SET (0x0B21; R427). -/
def execGateSet (c : Vx) (s : State) : Host.Outcome State Fault Refusal := runVx 0x0B21 c s

/-- GATE_QUERY (0x0B22; R428). -/
def execGateQuery (c : Vx) (s : State) : Host.Outcome State Fault Refusal := runVx 0x0B22 c s

/-- POLICER_CONFIG (0x0B30; R414). -/
def execPolicerConfig (c : Vx) (s : State) : Host.Outcome State Fault Refusal := runVx 0x0B30 c s

/-- PTP_CONFIG (0x0B40; R445). -/
def execPtpConfig (c : Vx) (s : State) : Host.Outcome State Fault Refusal := runVx 0x0B40 c s

/-- PTP_QUERY (0x0B41; R445). -/
def execPtpQuery (c : Vx) (s : State) : Host.Outcome State Fault Refusal := runVx 0x0B41 c s

/-- PTP_STEP_ANSWER (0x0B42; R443). -/
def execPtpStepAnswer (c : Vx) (s : State) : Host.Outcome State Fault Refusal := runVx 0x0B42 c s

/-- LANE_CONFIG (0x0C00; R464). -/
def execLaneConfig (c : Vx) (s : State) : Host.Outcome State Fault Refusal := runVx 0x0C00 c s

/-- LANE_TX (0x0C01; R448). -/
def execLaneTx (c : Vx) (s : State) : Host.Outcome State Fault Refusal := runVx 0x0C01 c s

/-- LANE_QUERY (0x0C02; R464). -/
def execLaneQuery (c : Vx) (s : State) : Host.Outcome State Fault Refusal := runVx 0x0C02 c s

/-- LANE_RETRAIN (0x0C03; R460). -/
def execLaneRetrain (c : Vx) (s : State) : Host.Outcome State Fault Refusal := runVx 0x0C03 c s

/-- LANE_IDLE (0x0C04; R458). -/
def execLaneIdle (c : Vx) (s : State) : Host.Outcome State Fault Refusal := runVx 0x0C04 c s

/-- TWIN_PAIR (0x0D00; R466). -/
def execTwinPair (c : Vx) (s : State) : Host.Outcome State Fault Refusal := runVx 0x0D00 c s

/-- TWIN_UNPAIR (0x0D01; R492). -/
def execTwinUnpair (c : Vx) (s : State) : Host.Outcome State Fault Refusal := runVx 0x0D01 c s

/-- TWIN_SWAP (0x0D02; R489). -/
def execTwinSwap (c : Vx) (s : State) : Host.Outcome State Fault Refusal := runVx 0x0D02 c s

/-- TWIN_QUERY (0x0D03; R492). -/
def execTwinQuery (c : Vx) (s : State) : Host.Outcome State Fault Refusal := runVx 0x0D03 c s

/-- CL_CONFIG (0x0E00; R493). -/
def execClConfig (c : Vx) (s : State) : Host.Outcome State Fault Refusal := runVx 0x0E00 c s

/-- CL_PIN (0x0E01; R504). -/
def execClPin (c : Vx) (s : State) : Host.Outcome State Fault Refusal := runVx 0x0E01 c s

/-- CL_ROSTER_WRITE (0x0E02; R500). -/
def execClRosterWrite (c : Vx) (s : State) : Host.Outcome State Fault Refusal := runVx 0x0E02 c s

/-- CL_ROSTER_QUERY (0x0E03; R500). -/
def execClRosterQuery (c : Vx) (s : State) : Host.Outcome State Fault Refusal := runVx 0x0E03 c s

/-- CL_ACCEPT (0x0E04; R503). -/
def execClAccept (c : Vx) (s : State) : Host.Outcome State Fault Refusal := runVx 0x0E04 c s

/-- CL_OP (0x0E10; R510). -/
def execClOp (c : Vx) (s : State) : Host.Outcome State Fault Refusal := runVx 0x0E10 c s

/-- CL_OP_SLOT (0x0E12; R521). -/
def execClOpSlot (c : Vx) (s : State) : Host.Outcome State Fault Refusal := runVx 0x0E12 c s

/-- CL_OP_QUERY (0x0E11; R515). -/
def execClOpQuery (c : Vx) (s : State) : Host.Outcome State Fault Refusal := runVx 0x0E11 c s

/-- CL_STATUS (0x0E20; R521). -/
def execClStatus (c : Vx) (s : State) : Host.Outcome State Fault Refusal := runVx 0x0E20 c s

/-- FLT_SEVERITY (0x0F00; R522). -/
def execFltSeverity (c : Vx) (s : State) : Host.Outcome State Fault Refusal := runVx 0x0F00 c s

/-- FLT_CLEAR_SAFE (0x0F01; R532). -/
def execFltClearSafe (c : Vx) (s : State) : Host.Outcome State Fault Refusal := runVx 0x0F01 c s

/-- FLT_INJECT (0x0F02; R545). -/
def execFltInject (c : Vx) (s : State) : Host.Outcome State Fault Refusal := runVx 0x0F02 c s

/-- CVU_ALLOC (0x0F10; R542). -/
def execCvuAlloc (c : Vx) (s : State) : Host.Outcome State Fault Refusal := runVx 0x0F10 c s

/-- CVU_FREE (0x0F11; R542). -/
def execCvuFree (c : Vx) (s : State) : Host.Outcome State Fault Refusal := runVx 0x0F11 c s

/-- CVU_CTX_READ (0x0F12; R542). -/
def execCvuCtxRead (c : Vx) (s : State) : Host.Outcome State Fault Refusal := runVx 0x0F12 c s

/-- CVU_CTX_WRITE (0x0F13; R543). -/
def execCvuCtxWrite (c : Vx) (s : State) : Host.Outcome State Fault Refusal := runVx 0x0F13 c s

/-- FW_QUERY (0x1000; R569). -/
def execFwQuery (c : Vx) (s : State) : Host.Outcome State Fault Refusal := runVx 0x1000 c s

/-- FW_BEGIN (0x1001; R565). -/
def execFwBegin (c : Vx) (s : State) : Host.Outcome State Fault Refusal := runVx 0x1001 c s

/-- FW_WRITE (0x1002; R565). -/
def execFwWrite (c : Vx) (s : State) : Host.Outcome State Fault Refusal := runVx 0x1002 c s

/-- FW_END (0x1003; R565). -/
def execFwEnd (c : Vx) (s : State) : Host.Outcome State Fault Refusal := runVx 0x1003 c s

/-- FW_ACTIVATE (0x1004; R566). -/
def execFwActivate (c : Vx) (s : State) : Host.Outcome State Fault Refusal := runVx 0x1004 c s

/-- FW_CONFIRM (0x1005; R567). -/
def execFwConfirm (c : Vx) (s : State) : Host.Outcome State Fault Refusal := runVx 0x1005 c s

/-- BOOT_TARGET (0x1006; R555). -/
def execBootTarget (c : Vx) (s : State) : Host.Outcome State Fault Refusal := runVx 0x1006 c s

/-- TRICKLE_CONFIG (0x1010; R569). -/
def execTrickleConfig (c : Vx) (s : State) : Host.Outcome State Fault Refusal := runVx 0x1010 c s

/-- TRICKLE_QUERY (0x1011; R569). -/
def execTrickleQuery (c : Vx) (s : State) : Host.Outcome State Fault Refusal := runVx 0x1011 c s

/-- HEALTH_QUERY (0x1020; R569). -/
def execHealthQuery (c : Vx) (s : State) : Host.Outcome State Fault Refusal := runVx 0x1020 c s

end Sys2Proof.Machine
end

