-- ==== Sys2Proof/Machine/Rows.lean ====
section
/-!
DEFINITION. What rows and tasks do by time and by their units: ROW_ISSUE, TASK_COMPLETE, ENGINE_ERROR, RESERVE_COMPLETE and
ROW_DEADLINE (R207 to R214, R225, R234 to R236, R305).
-/
namespace Sys2Proof.Machine

/-- ROW_ISSUE: the clock runs on to the earliest I_n that is still to come, and the tasks of its row become ready; the
module issues the row itself where its program has not (R207, R259). -/
def execRowIssue (s : State) : Host.Outcome State Fault Refusal :=
  match minBy (·.2) s.rowsToIssue with
  | none => .next s
  | some (r, t) => .next ((s.toTime t).readyRow r)

/-! ### Pumps (R305, R540, R544) -/

/-- A byte of Dispatch SRAM: of the sounder or task record that lies there, else as it was written last. Where records lie no rule
states (Config). -/
def State.sramByte (s : State) (a : Nat) : Byte :=
  let recs := s.enc.rows.map (fun r => (Config.sramBase 0 (sounderIdx r.chan r.frame r.row), s.sounderWords r))
    ++ s.enc.tasks.map fun t => (Config.sramBase 1 t.id, State.taskWords t)
  match recs.find? fun r => r.1 ≤ a && decide (a < r.1 + 4 * r.2.length) with
  | some r => (leBytes 4 (r.2.getD ((a - r.1) / 4) 0).toNat).getD ((a - r.1) % 4) 0
  | none => Mem.read s.mem.sram a

/-- A byte of a pump's source (table "Pump record"); one of a 64-byte block that could not be read is zero (R305). -/
def State.pumpByte (s : State) (p : PumpRec) (bad : List Nat) (a : Nat) : Byte :=
  if bad.contains (a / 64) then 0
  else if p.kind = 0 || p.kind = 1 then Mem.read s.mem.gddr a
  else s.sramByte a

/-- The 32-byte blocks of a pump task: source and destination address, in address order, line by line. -/
def pumpBlocks (p : PumpRec) : List (Nat × Nat) :=
  (List.range p.lines).flatMap fun y => (List.range (p.lineBytes / 32)).map fun b =>
    (p.src + y * p.srcPitch * 256 + 32 * b, p.dst + y * p.dstPitch * 256 + 32 * b)

/-- One block is read whole, then written whole; its bytes join the data that the pump has read. -/
def State.pumpBlock (p : PumpRec) (bad : List Nat) (x : State × List Byte) (b : Nat × Nat) : State × List Byte :=
  let l := (List.range 32).map fun i => x.1.pumpByte p bad (b.1 + i)
  (x.1.onMem fun m =>
    if p.kind = 0 || p.kind = 2 then { m with gddr := Mem.writeAll m.gddr b.2 l } else { m with sram := Mem.writeAll m.sram b.2 l },
   x.2 ++ l)

/-- A pump read the block of a number: some 32-byte block of its source lies in it. -/
def pumpReads (p : PumpRec) (n : Nat) : Bool := (pumpBlocks p).any fun b => b.1 / 64 == n || (b.1 + 31) / 64 == n

/-- The check value of a pump's data: a COMPUTE context keeps it; an unallocated one is reported (R540, R544). -/
def State.pumpCheck (s : State) (p : PumpRec) (data : List Byte) : State :=
  if !p.cvuEn then s
  else
    let key := 64 * p.cvu + p.ctx
    let x := s.cvu.ctx key
    if x.allocated then s.useCtx key (x.compute data) else s.raise 0x16 0x04 p.ctx p.cvu

/-- A MOVE task with a pump record completes; of the blocks named as bad those count that it read. -/
def State.pumpMove (s : State) (p : PumpRec) (bad : List Nat) : State :=
  let bad := bad.filter (pumpReads p)
  let (s, data) := (pumpBlocks p).foldl (State.pumpBlock p bad) (s, [])
  let s := s.pumpCheck p data
  if bad.isEmpty then s else s.raise 0x0F 0x06

/-! ### Units -/

/-- A coding engine completes its task, unless the row guard has passed the task's rest to its reserve path; what keeps no rule of
the engine is no result (R209, R235). -/
def State.codeDone (s : State) (u : Nat) (e : Ent) (r : Coded) : State :=
  match s.task? e.desc.payload with
  | some t =>
    if t.guarded || !s.codedOk t false r then s
    else
      let load := s.taskLoad t
      ((s.engineTime u (s.clk - e.start) load).finishEnt e).codeTask t.id u r
  | none => s

/-- TASK_COMPLETE of a unit: a tile-row task or a pump task. A dipper completes its task by YIELD or PACKAGE_ROW and a
decode engine by DECODE_COMPLETE. -/
def State.taskDone (s : State) (unit : Nat) (res : TaskResult) : State :=
  match (tab s.ds.units unit).holds.bind s.ent with
  | none => s
  | some e =>
    match e.desc.type, res with
    | 1, .coded r => s.codeDone unit e r
    | 8, .moved bad =>
      match e.desc.pump with
      | some p => (s.pumpMove p bad).finishEnt e
      | none => (if bad.isEmpty then s else s.raise 0x0F 0x06).finishEnt e
    | 9, .moved bad => (s.finishEnt e).bar2Done e.desc.payload bad
    | 10, .moved _ => s.finishEnt e
    | _, _ => s

/-- TASK_COMPLETE. -/
def execTaskComplete (wait unit : Nat) (res : TaskResult) (s : State) : Host.Outcome State Fault Refusal :=
  .next ((s.pass wait).taskDone unit res)

/-- ENGINE_ERROR: a coding or decode engine reports an internal error in the task that it holds (R211, R336). -/
def execEngineError (wait unit : Nat) (s : State) : Host.Outcome State Fault Refusal :=
  let s := s.pass wait
  match (tab s.ds.units unit).holds.bind s.ent with
  | none => .next s
  | some e =>
    if e.desc.type = 1 then .next (s.codingError unit e)
    else if e.desc.type = 3 || e.desc.type = 4 then .next (s.decodeError unit e)
    else .next s

/-! ### Reserve paths (R235, R236, R302) -/

/-- The withdrawn tasks of a task's flow that are not over, in their order, which is that of the flow's withdrawn entries. -/
def State.withdrawn (s : State) (t : TaskRec) : List TaskRec :=
  s.enc.tasks.filter fun x => x.stream == t.stream && x.col == t.col && (x.st == 2 || x.st == 5) && (s.entOf 1 x.id).isNone

/-- The flow of a task goes on after a withdrawn task (R302). -/
def State.flowPast (s : State) (t : TaskRec) : State :=
  match (s.strm t.stream).flows[t.col]?, (s.withdrawn t).idxOf? t with
  | some f, some k => match (alookup s.ds.flows f).bind (·.ghosts[k]?) with
    | some key => s.ghostDone f key
    | none => s
  | _, _ => s

/-- RESERVE_COMPLETE: the reserve path of an engine has coded the rest of its task, or all of it, within the floors (R236); the
path then takes a task that waits. -/
def State.reserveDone (s : State) (p : Nat) (r : Coded) : State :=
  match (tab s.enc.engines p).path.bind s.task? with
  | none => s
  | some t =>
    let run := s.entOf 1 t.id
    if !s.codedOk t run.isNone r then s
    else
      let s := match run with
        | some e => if e.st = 1 then s.finishEnt e else s
        | none => s.flowPast t
      ((s.clearPath p).codeTask t.id p r).servePaths

/-- RESERVE_COMPLETE. -/
def execReserveComplete (wait path : Nat) (res : TaskResult) (s : State) : Host.Outcome State Fault Refusal :=
  .next (match res with | .coded r => (s.pass wait).reserveDone path r | .moved _ => s.pass wait)

/-- ROW_DEADLINE: the clock runs on to the earliest row deadline of a task that is not over; every task without usable
output at it underruns (R225). -/
def execRowDeadline (s : State) : Host.Outcome State Fault Refusal :=
  match minBy (·.deadline) s.unfinished with
  | none => .next s
  | some t =>
    let s := s.toTime t.deadline
    .next ((s.unfinished.filter fun x => decide (x.deadline ≤ t.deadline)).foldl State.underrun s).servePaths

end Sys2Proof.Machine
end

