-- ==== Sys2Proof/Machine/Dispatch.lean ====
section
/-!
DEFINITION. One arm for each command: its meaning, or a refusal by name.
-/
namespace Sys2Proof.Machine

def exec (i : Instr) (s : State) : Host.Outcome State Fault Refusal :=
  match i with
  | .registerWrite offset size value => Sys2Proof.Machine.execRegisterWrite offset size value s
  | .dbCmdTailWrite value => Sys2Proof.Machine.execDbCmdTailWrite value s
  | .dbRspHeadWrite value => Sys2Proof.Machine.execDbRspHeadWrite value s
  | .dbEvtHeadWrite value => Sys2Proof.Machine.execDbEvtHeadWrite value s
  | .irqStatusWrite value => Sys2Proof.Machine.execIrqStatusWrite value s
  | .glbApertureWrite value => Sys2Proof.Machine.execGlbApertureWrite value s
  | .glbMpResetWrite value => Sys2Proof.Machine.execGlbMpResetWrite value s
  | .bar2Access write offset size value => Sys2Proof.Machine.execBar2Access write offset size value s
  | .dsCtrlClear value => Sys2Proof.Machine.execDsCtrlClear value s
  | .dsTraceRdWrite value => Sys2Proof.Machine.execDsTraceRdWrite value s
  | .fhFirstValidWrite value => Sys2Proof.Machine.execFhFirstValidWrite value s
  | .fhUnackWrite value => Sys2Proof.Machine.execFhUnackWrite value s
  | .fhStatusWrite value => Sys2Proof.Machine.execFhStatusWrite value s
  | .fhCtrlWrite value => Sys2Proof.Machine.execFhCtrlWrite value s
  | .commandConsume wait => Sys2Proof.Machine.execCommandConsume wait s
  | .nop c => Sys2Proof.Machine.execNop c s
  | .getInfo c => Sys2Proof.Machine.execGetInfo c s
  | .setPowerState c => Sys2Proof.Machine.execSetPowerState c s
  | .getPowerState c => Sys2Proof.Machine.execGetPowerState c s
  | .commitOpen c => Sys2Proof.Machine.execCommitOpen c s
  | .commitArm c => Sys2Proof.Machine.execCommitArm c s
  | .commitAbort c => Sys2Proof.Machine.execCommitAbort c s
  | .commitStatus c => Sys2Proof.Machine.execCommitStatus c s
  | .setEventFilter c => Sys2Proof.Machine.execSetEventFilter c s
  | .getRestartReport c => Sys2Proof.Machine.execGetRestartReport c s
  | .functionLevelReset wait => Sys2Proof.Machine.execFunctionLevelReset wait s
  | .pcieLinkDown wait => Sys2Proof.Machine.execPcieLinkDown wait s
  | .perstAssert wait => Sys2Proof.Machine.execPerstAssert wait s
  | .mpRestart wait => Sys2Proof.Machine.execMpRestart wait s
  | .mpWatchdog wait => Sys2Proof.Machine.execMpWatchdog wait s
  | .doeRequest wait span done head code params range => Sys2Proof.Machine.execDoeRequest wait span done head code params range s
  | .doeAbort wait => Sys2Proof.Machine.execDoeAbort wait s
  | .timeGet c => Sys2Proof.Machine.execTimeGet c s
  | .timeSource c => Sys2Proof.Machine.execTimeSource c s
  | .timeSourceDone wait lock => Sys2Proof.Machine.execTimeSourceDone wait lock s
  | .timeStep c => Sys2Proof.Machine.execTimeStep c s
  | .timeTrim c => Sys2Proof.Machine.execTimeTrim c s
  | .tlConfig c => Sys2Proof.Machine.execTlConfig c s
  | .tlQuery c => Sys2Proof.Machine.execTlQuery c s
  | .evtAdd c => Sys2Proof.Machine.execEvtAdd c s
  | .evtCancel c => Sys2Proof.Machine.execEvtCancel c s
  | .evtQuery c => Sys2Proof.Machine.execEvtQuery c s
  | .evConfig c => Sys2Proof.Machine.execEvConfig c s
  | .ref10mGate wait advance => Sys2Proof.Machine.execRef10mGate wait advance s
  | .ref10mLost wait => Sys2Proof.Machine.execRef10mLost wait s
  | .ref10mResume wait => Sys2Proof.Machine.execRef10mResume wait s
  | .phEdge eighths ph sig => Sys2Proof.Machine.execPhEdge eighths ph sig s
  | .wlAmBlock wait input lane since sync lo hi before => Sys2Proof.Machine.execWlAmBlock wait input lane since sync lo hi before s
  | .wlFormat p => Sys2Proof.Machine.execWlFormat p s
  | .wlFrameStart p => Sys2Proof.Machine.execWlFrameStart p s
  | .wlLine p => Sys2Proof.Machine.execWlLine p s
  | .wlBlank p => Sys2Proof.Machine.execWlBlank p s
  | .wlFrameEnd p => Sys2Proof.Machine.execWlFrameEnd p s
  | .wlAux p => Sys2Proof.Machine.execWlAux p s
  | .sdiLine d => Sys2Proof.Machine.execSdiLine d s
  | .inConfig c => Sys2Proof.Machine.execInConfig c s
  | .inQuery c => Sys2Proof.Machine.execInQuery c s
  | .inClear c => Sys2Proof.Machine.execInClear c s
  | .ipConfig c => Sys2Proof.Machine.execIpConfig c s
  | .ipCsc c => Sys2Proof.Machine.execIpCsc c s
  | .composeLine wait turn => Sys2Proof.Machine.execComposeLine wait turn s
  | .compConfig c => Sys2Proof.Machine.execCompConfig c s
  | .layerConfig c => Sys2Proof.Machine.execLayerConfig c s
  | .compQuery c => Sys2Proof.Machine.execCompQuery c s
  | .sigConfig c => Sys2Proof.Machine.execSigConfig c s
  | .sigQuery c => Sys2Proof.Machine.execSigQuery c s
  | .surfConfig c => Sys2Proof.Machine.execSurfConfig c s
  | .surfPublish c => Sys2Proof.Machine.execSurfPublish c s
  | .surfQuery c => Sys2Proof.Machine.execSurfQuery c s
  | .blitSubmit c => Sys2Proof.Machine.execBlitSubmit c s
  | .blitQuery c => Sys2Proof.Machine.execBlitQuery c s
  | .blitBw c => Sys2Proof.Machine.execBlitBw c s
  | .blitComplete wait bad => Sys2Proof.Machine.execBlitComplete wait bad s
  | .taskPull wait cls => Sys2Proof.Machine.execTaskPull wait cls s
  | .taskComplete wait unit res => Sys2Proof.Machine.execTaskComplete wait unit res s
  | .engineError wait unit => Sys2Proof.Machine.execEngineError wait unit s
  | .reserveComplete wait path res => Sys2Proof.Machine.execReserveComplete wait path res s
  | .sounderLine wait sounder blocks => Sys2Proof.Machine.execSounderLine wait sounder blocks s
  | .chConfig c => Sys2Proof.Machine.execChConfig c s
  | .chLayout c => Sys2Proof.Machine.execChLayout c s
  | .chDelay c => Sys2Proof.Machine.execChDelay c s
  | .chStart c => Sys2Proof.Machine.execChStart c s
  | .chStop c => Sys2Proof.Machine.execChStop c s
  | .chQuery c => Sys2Proof.Machine.execChQuery c s
  | .chRefresh c => Sys2Proof.Machine.execChRefresh c s
  | .losslessConfig c => Sys2Proof.Machine.execLosslessConfig c s
  | .seiConfig c => Sys2Proof.Machine.execSeiConfig c s
  | .engControl c => Sys2Proof.Machine.execEngControl c s
  | .rcConfig c => Sys2Proof.Machine.execRcConfig c s
  | .rcQuery c => Sys2Proof.Machine.execRcQuery c s
  | .rcBind c => Sys2Proof.Machine.execRcBind c s
  | .groupConfig c => Sys2Proof.Machine.execGroupConfig c s
  | .groupMember c => Sys2Proof.Machine.execGroupMember c s
  | .clrcConfig c => Sys2Proof.Machine.execClrcConfig c s
  | .dsWells c => Sys2Proof.Machine.execDsWells c s
  | .dsFlowAlloc c => Sys2Proof.Machine.execDsFlowAlloc c s
  | .dsFlowFree c => Sys2Proof.Machine.execDsFlowFree c s
  | .dsFlowQuery c => Sys2Proof.Machine.execDsFlowQuery c s
  | .dsDelayConfig c => Sys2Proof.Machine.execDsDelayConfig c s
  | .dsSubmit c => Sys2Proof.Machine.execDsSubmit c s
  | .dsCancel c => Sys2Proof.Machine.execDsCancel c s
  | .dipperRunStart d => Sys2Proof.Machine.execDipperRunStart d s
  | .dipperWatchdog d => Sys2Proof.Machine.execDipperWatchdog d s
  | .dipperMemError wait d kind => Sys2Proof.Machine.execDipperMemError wait d kind s
  | .programReload wait => Sys2Proof.Machine.execProgramReload wait s
  | .dipNop d => Sys2Proof.Machine.execDipNop d s
  | .dipAdd d => Sys2Proof.Machine.execDipAdd d s
  | .dipSub d => Sys2Proof.Machine.execDipSub d s
  | .dipAnd d => Sys2Proof.Machine.execDipAnd d s
  | .dipOr d => Sys2Proof.Machine.execDipOr d s
  | .dipXor d => Sys2Proof.Machine.execDipXor d s
  | .dipShl d => Sys2Proof.Machine.execDipShl d s
  | .dipShr d => Sys2Proof.Machine.execDipShr d s
  | .dipSra d => Sys2Proof.Machine.execDipSra d s
  | .dipMin d => Sys2Proof.Machine.execDipMin d s
  | .dipMax d => Sys2Proof.Machine.execDipMax d s
  | .dipMinu d => Sys2Proof.Machine.execDipMinu d s
  | .dipMaxu d => Sys2Proof.Machine.execDipMaxu d s
  | .dipSlt d => Sys2Proof.Machine.execDipSlt d s
  | .dipSltu d => Sys2Proof.Machine.execDipSltu d s
  | .dipMul d => Sys2Proof.Machine.execDipMul d s
  | .dipMul64 d => Sys2Proof.Machine.execDipMul64 d s
  | .dipMul64u d => Sys2Proof.Machine.execDipMul64u d s
  | .dipDivw d => Sys2Proof.Machine.execDipDivw d s
  | .dipDivu d => Sys2Proof.Machine.execDipDivu d s
  | .dipQmul d => Sys2Proof.Machine.execDipQmul d s
  | .dipQdiv d => Sys2Proof.Machine.execDipQdiv d s
  | .dipQlog2 d => Sys2Proof.Machine.execDipQlog2 d s
  | .dipQsqrt d => Sys2Proof.Machine.execDipQsqrt d s
  | .dipAddi d => Sys2Proof.Machine.execDipAddi d s
  | .dipAndi d => Sys2Proof.Machine.execDipAndi d s
  | .dipOri d => Sys2Proof.Machine.execDipOri d s
  | .dipXori d => Sys2Proof.Machine.execDipXori d s
  | .dipShli d => Sys2Proof.Machine.execDipShli d s
  | .dipShri d => Sys2Proof.Machine.execDipShri d s
  | .dipSrai d => Sys2Proof.Machine.execDipSrai d s
  | .dipLui d => Sys2Proof.Machine.execDipLui d s
  | .dipLd d => Sys2Proof.Machine.execDipLd d s
  | .dipSt d => Sys2Proof.Machine.execDipSt d s
  | .dipIn d => Sys2Proof.Machine.execDipIn d s
  | .dipOut d => Sys2Proof.Machine.execDipOut d s
  | .portIssue d => Sys2Proof.Machine.execPortIssue d s
  | .portEvtAdd d => Sys2Proof.Machine.execPortEvtAdd d s
  | .portEvtCancel d => Sys2Proof.Machine.execPortEvtCancel d s
  | .portUserEvt d => Sys2Proof.Machine.execPortUserEvt d s
  | .portUserFault d => Sys2Proof.Machine.execPortUserFault d s
  | .dipBcc d => Sys2Proof.Machine.execDipBcc d s
  | .dipLoop d => Sys2Proof.Machine.execDipLoop d s
  | .dipLoopr d => Sys2Proof.Machine.execDipLoopr d s
  | .dipBreak d => Sys2Proof.Machine.execDipBreak d s
  | .dipCall d => Sys2Proof.Machine.execDipCall d s
  | .dipRet d => Sys2Proof.Machine.execDipRet d s
  | .dipWait d => Sys2Proof.Machine.execDipWait d s
  | .waitReturn d => Sys2Proof.Machine.execWaitReturn d s
  | .dipYield d => Sys2Proof.Machine.execDipYield d s
  | .dipImageWrite c => Sys2Proof.Machine.execDipImageWrite c s
  | .dipLoad c => Sys2Proof.Machine.execDipLoad c s
  | .dipLoadDone wait => Sys2Proof.Machine.execDipLoadDone wait s
  | .dipUnload c => Sys2Proof.Machine.execDipUnload c s
  | .dipQuery c => Sys2Proof.Machine.execDipQuery c s
  | .dipProgQuery c => Sys2Proof.Machine.execDipProgQuery c s
  | .dipHook c => Sys2Proof.Machine.execDipHook c s
  | .decodeReady wait => Sys2Proof.Machine.execDecodeReady wait s
  | .decodeComplete wait unit res => Sys2Proof.Machine.execDecodeComplete wait unit res s
  | .feedPacket wait feed p => Sys2Proof.Machine.execFeedPacket wait feed p s
  | .selfcheckConfig c => Sys2Proof.Machine.execSelfcheckConfig c s
  | .selfcheckQuery c => Sys2Proof.Machine.execSelfcheckQuery c s
  | .feedConfig c => Sys2Proof.Machine.execFeedConfig c s
  | .feedQuery c => Sys2Proof.Machine.execFeedQuery c s
  | .feedClear c => Sys2Proof.Machine.execFeedClear c s
  | .audioFrame wait port bits samples => Sys2Proof.Machine.execAudioFrame wait port bits samples s
  | .audioLeaderFrame port samples => Sys2Proof.Machine.execAudioLeaderFrame port samples s
  | .audConfig c => Sys2Proof.Machine.execAudConfig c s
  | .audQuery c => Sys2Proof.Machine.execAudQuery c s
  | .audClear c => Sys2Proof.Machine.execAudClear c s
  | .packageRow wait dipper => Sys2Proof.Machine.execPackageRow wait dipper s
  | .audioPacketBuild wait stream => Sys2Proof.Machine.execAudioPacketBuild wait stream s
  | .pkgStream c => Sys2Proof.Machine.execPkgStream c s
  | .pkgTemplate c => Sys2Proof.Machine.execPkgTemplate c s
  | .pkgAudio c => Sys2Proof.Machine.execPkgAudio c s
  | .pkgQuery c => Sys2Proof.Machine.execPkgQuery c s
  | .txSelect port => Sys2Proof.Machine.execTxSelect port s
  | .txDiscard port => Sys2Proof.Machine.execTxDiscard port s
  | .portRxFrame wait port f => Sys2Proof.Machine.execPortRxFrame wait port f s
  | .mgmtRx wait port kind target len => Sys2Proof.Machine.execMgmtRx wait port kind target len s
  | .portLinkDown wait port => Sys2Proof.Machine.execPortLinkDown wait port s
  | .portLinkUp wait port => Sys2Proof.Machine.execPortLinkUp wait port s
  | .portConfig c => Sys2Proof.Machine.execPortConfig c s
  | .portQuery c => Sys2Proof.Machine.execPortQuery c s
  | .queueConfig c => Sys2Proof.Machine.execQueueConfig c s
  | .queueQuery c => Sys2Proof.Machine.execQueueQuery c s
  | .gateWrite c => Sys2Proof.Machine.execGateWrite c s
  | .gateSet c => Sys2Proof.Machine.execGateSet c s
  | .gateQuery c => Sys2Proof.Machine.execGateQuery c s
  | .policerConfig c => Sys2Proof.Machine.execPolicerConfig c s
  | .ptpConfig c => Sys2Proof.Machine.execPtpConfig c s
  | .ptpQuery c => Sys2Proof.Machine.execPtpQuery c s
  | .ptpStepAnswer c => Sys2Proof.Machine.execPtpStepAnswer c s
  | .laneConfig c => Sys2Proof.Machine.execLaneConfig c s
  | .laneTx c => Sys2Proof.Machine.execLaneTx c s
  | .laneQuery c => Sys2Proof.Machine.execLaneQuery c s
  | .laneRetrain c => Sys2Proof.Machine.execLaneRetrain c s
  | .laneIdle c => Sys2Proof.Machine.execLaneIdle c s
  | .takeoverComplete wait => Sys2Proof.Machine.execTakeoverComplete wait s
  | .twinPair c => Sys2Proof.Machine.execTwinPair c s
  | .twinUnpair c => Sys2Proof.Machine.execTwinUnpair c s
  | .twinSwap c => Sys2Proof.Machine.execTwinSwap c s
  | .twinQuery c => Sys2Proof.Machine.execTwinQuery c s
  | .clConfig c => Sys2Proof.Machine.execClConfig c s
  | .clPin c => Sys2Proof.Machine.execClPin c s
  | .clRosterWrite c => Sys2Proof.Machine.execClRosterWrite c s
  | .clRosterQuery c => Sys2Proof.Machine.execClRosterQuery c s
  | .clAccept c => Sys2Proof.Machine.execClAccept c s
  | .clOp c => Sys2Proof.Machine.execClOp c s
  | .clOpSlot c => Sys2Proof.Machine.execClOpSlot c s
  | .clOpQuery c => Sys2Proof.Machine.execClOpQuery c s
  | .clStatus c => Sys2Proof.Machine.execClStatus c s
  | .fltSeverity c => Sys2Proof.Machine.execFltSeverity c s
  | .fltClearSafe c => Sys2Proof.Machine.execFltClearSafe c s
  | .fltInject c => Sys2Proof.Machine.execFltInject c s
  | .cvuAlloc c => Sys2Proof.Machine.execCvuAlloc c s
  | .cvuFree c => Sys2Proof.Machine.execCvuFree c s
  | .cvuCtxRead c => Sys2Proof.Machine.execCvuCtxRead c s
  | .cvuCtxWrite c => Sys2Proof.Machine.execCvuCtxWrite c s
  | .fwQuery c => Sys2Proof.Machine.execFwQuery c s
  | .fwBegin c => Sys2Proof.Machine.execFwBegin c s
  | .fwWrite c => Sys2Proof.Machine.execFwWrite c s
  | .fwEnd c => Sys2Proof.Machine.execFwEnd c s
  | .fwActivate c => Sys2Proof.Machine.execFwActivate c s
  | .fwConfirm c => Sys2Proof.Machine.execFwConfirm c s
  | .bootTarget c => Sys2Proof.Machine.execBootTarget c s
  | .trickleConfig c => Sys2Proof.Machine.execTrickleConfig c s
  | .trickleQuery c => Sys2Proof.Machine.execTrickleQuery c s
  | .healthQuery c => Sys2Proof.Machine.execHealthQuery c s
  | .pcieLinkUp wait => Sys2Proof.Machine.execPcieLinkUp wait s
  | .perstRelease wait => Sys2Proof.Machine.execPerstRelease wait s
  | .pcieIdleEntry wait => Sys2Proof.Machine.execPcieIdleEntry wait s
  | .pcieIdleExit wait => Sys2Proof.Machine.execPcieIdleExit wait s
  | .twinLinkAmBlock wait lane since sync lo hi before => Sys2Proof.Machine.execTwinLinkAmBlock wait lane since sync lo hi before s
  | .dsTraceCtrlWrite value => Sys2Proof.Machine.execDsTraceCtrlWrite value s
  | .tbSnapNsRead => Sys2Proof.Machine.execTbSnapNsRead s
  | .irqHoldoffExpire => Sys2Proof.Machine.execIrqHoldoffExpire s
  | .remoteTimeout => Sys2Proof.Machine.execRemoteTimeout s
  | .commitLoad => Sys2Proof.Machine.execCommitLoad s
  | .commitApply => Sys2Proof.Machine.execCommitApply s
  | .tlLossExpire => Sys2Proof.Machine.execTlLossExpire s
  | .eventFire => Sys2Proof.Machine.execEventFire s
  | .eventMissed => Sys2Proof.Machine.execEventMissed s
  | .evPulseEnd => Sys2Proof.Machine.execEvPulseEnd s
  | .rowNeeded => Sys2Proof.Machine.execRowNeeded s
  | .composeDeadline => Sys2Proof.Machine.execComposeDeadline s
  | .chFrameBoundary => Sys2Proof.Machine.execChFrameBoundary s
  | .signatureCompare => Sys2Proof.Machine.execSignatureCompare s
  | .blitStart => Sys2Proof.Machine.execBlitStart s
  | .blitDeadline => Sys2Proof.Machine.execBlitDeadline s
  | .deadWindowOpen => Sys2Proof.Machine.execDeadWindowOpen s
  | .deadWindowClose => Sys2Proof.Machine.execDeadWindowClose s
  | .rowIssue => Sys2Proof.Machine.execRowIssue s
  | .producerRetry => Sys2Proof.Machine.execProducerRetry s
  | .rowGuard => Sys2Proof.Machine.execRowGuard s
  | .rowDeadline => Sys2Proof.Machine.execRowDeadline s
  | .soundingDeadline => Sys2Proof.Machine.execSoundingDeadline s
  | .chStopBoundary => Sys2Proof.Machine.execChStopBoundary s
  | .rcPhaseStart => Sys2Proof.Machine.execRcPhaseStart s
  | .rcFallbackPoint => Sys2Proof.Machine.execRcFallbackPoint s
  | .groupPeriod => Sys2Proof.Machine.execGroupPeriod s
  | .rcCollect => Sys2Proof.Machine.execRcCollect s
  | .arrayShare => Sys2Proof.Machine.execArrayShare s
  | .delayRelease => Sys2Proof.Machine.execDelayRelease s
  | .taskDeadline => Sys2Proof.Machine.execTaskDeadline s
  | .serviceTimeout => Sys2Proof.Machine.execServiceTimeout s
  | .checkDeadline => Sys2Proof.Machine.execCheckDeadline s
  | .feedReorderExpire => Sys2Proof.Machine.execFeedReorderExpire s
  | .feedTimeout => Sys2Proof.Machine.execFeedTimeout s
  | .feedRateMeasure => Sys2Proof.Machine.execFeedRateMeasure s
  | .feedErrorSecond => Sys2Proof.Machine.execFeedErrorSecond s
  | .audRateUpdate => Sys2Proof.Machine.execAudRateUpdate s
  | .audioClockLoss => Sys2Proof.Machine.execAudioClockLoss s
  | .audioWriteDeadline => Sys2Proof.Machine.execAudioWriteDeadline s
  | .fecSecond => Sys2Proof.Machine.execFecSecond s
  | .gateListStart => Sys2Proof.Machine.execGateListStart s
  | .gateEntryChange => Sys2Proof.Machine.execGateEntryChange s
  | .ptpAnnounceTimeout => Sys2Proof.Machine.execPtpAnnounceTimeout s
  | .ptpSyncTx => Sys2Proof.Machine.execPtpSyncTx s
  | .ptpAnnounceTx => Sys2Proof.Machine.execPtpAnnounceTx s
  | .ptpDelayReqTx => Sys2Proof.Machine.execPtpDelayReqTx s
  | .laneExitTimeout => Sys2Proof.Machine.execLaneExitTimeout s
  | .laneTrainTimeout => Sys2Proof.Machine.execLaneTrainTimeout s
  | .twinHeartbeatTx => Sys2Proof.Machine.execTwinHeartbeatTx s
  | .heartbeatPathLoss => Sys2Proof.Machine.execHeartbeatPathLoss s
  | .twinResendTimeout => Sys2Proof.Machine.execTwinResendTimeout s
  | .applyDeadline => Sys2Proof.Machine.execApplyDeadline s
  | .handoverTime => Sys2Proof.Machine.execHandoverTime s
  | .swapPropose => Sys2Proof.Machine.execSwapPropose s
  | .swapAnswerTimeout => Sys2Proof.Machine.execSwapAnswerTimeout s
  | .pairingTimeout => Sys2Proof.Machine.execPairingTimeout s
  | .joinTx => Sys2Proof.Machine.execJoinTx s
  | .clusterHeartbeatTx => Sys2Proof.Machine.execClusterHeartbeatTx s
  | .memberMissing => Sys2Proof.Machine.execMemberMissing s
  | .managerLost => Sys2Proof.Machine.execManagerLost s
  | .seqRecordExpire => Sys2Proof.Machine.execSeqRecordExpire s
  | .opCollectClose => Sys2Proof.Machine.execOpCollectClose s
  | .faultLog => Sys2Proof.Machine.execFaultLog s
  | .errPulseEnd => Sys2Proof.Machine.execErrPulseEnd s
  | .powerStepTimeout => Sys2Proof.Machine.execPowerStepTimeout s
  | .bootWatchdog => Sys2Proof.Machine.execBootWatchdog s
  | .fwRestart => Sys2Proof.Machine.execFwRestart s
  | .mirrorTimeout => Sys2Proof.Machine.execMirrorTimeout s
  | .ptpSyncRx m => Sys2Proof.Machine.execPtpSyncRx m s
  | .ptpFollowUpRx m => Sys2Proof.Machine.execPtpFollowUpRx m s
  | .ptpDelayReqRx m => Sys2Proof.Machine.execPtpDelayReqRx m s
  | .ptpDelayRespRx m => Sys2Proof.Machine.execPtpDelayRespRx m s
  | .ptpAnnounceRx m => Sys2Proof.Machine.execPtpAnnounceRx m s
  | .laneLowAmplitude wait lane => Sys2Proof.Machine.execLaneLowAmplitude wait lane s
  | .laneSignalPresent wait lane => Sys2Proof.Machine.execLaneSignalPresent wait lane s
  | .laneLol wait lane => Sys2Proof.Machine.execLaneLol wait lane s
  | .adaptFreeze wait lane => Sys2Proof.Machine.execAdaptFreeze wait lane s
  | .laneLock wait lane => Sys2Proof.Machine.execLaneLock wait lane s
  | .prbsSecond lane errs => Sys2Proof.Machine.execPrbsSecond lane errs s
  | .pcieEqRequest wait lane pre main post => Sys2Proof.Machine.execPcieEqRequest wait lane pre main post s
  | .twinHeartbeatRx f => Sys2Proof.Machine.execTwinHeartbeatRx f s
  | .twinIssueRx f => Sys2Proof.Machine.execTwinIssueRx f s
  | .twinSliceRx f => Sys2Proof.Machine.execTwinSliceRx f s
  | .twinRowStateRx f st => Sys2Proof.Machine.execTwinRowStateRx f st s
  | .twinRowEndRx f => Sys2Proof.Machine.execTwinRowEndRx f s
  | .twinMirrorRx f m => Sys2Proof.Machine.execTwinMirrorRx f m s
  | .twinSpdmRx f p => Sys2Proof.Machine.execTwinSpdmRx f p s
  | .skovJoinRx f => Sys2Proof.Machine.execSkovJoinRx f s
  | .skovSpdmReqRx f => Sys2Proof.Machine.execSkovSpdmReqRx f s
  | .skovSpdmRspRx f find => Sys2Proof.Machine.execSkovSpdmRspRx f find s
  | .skovAdmitRx f => Sys2Proof.Machine.execSkovAdmitRx f s
  | .skovCmdRx f => Sys2Proof.Machine.execSkovCmdRx f s
  | .skovRcReportRx f => Sys2Proof.Machine.execSkovRcReportRx f s
  | .skovRcBudgetRx f => Sys2Proof.Machine.execSkovRcBudgetRx f s
  | .skovBarrierArmRx f => Sys2Proof.Machine.execSkovBarrierArmRx f s
  | .skovBarrierAckRx f => Sys2Proof.Machine.execSkovBarrierAckRx f s
  | .skovBroadcastRx f => Sys2Proof.Machine.execSkovBroadcastRx f s
  | .skovSnapshotRx f => Sys2Proof.Machine.execSkovSnapshotRx f s
  | .skovHeartbeatRx f => Sys2Proof.Machine.execSkovHeartbeatRx f s
  | .memoryEdcError wait device write good => Sys2Proof.Machine.execMemoryEdcError wait device write good s
  | .memoryEccError wait device corrected => Sys2Proof.Machine.execMemoryEccError wait device corrected s
  | .powerGood wait role selB => Sys2Proof.Machine.execPowerGood wait role selB s
  | .vinDrop wait => Sys2Proof.Machine.execVinDrop wait s
  | .powerStepDone wait image test => Sys2Proof.Machine.execPowerStepDone wait image test s
  | .healthSample wait vin power temps rails => Sys2Proof.Machine.execHealthSample wait vin power temps rails s
  | .trickleRow wait nals => Sys2Proof.Machine.execTrickleRow wait nals s
  | .fwEraseDone wait => Sys2Proof.Machine.execFwEraseDone wait s
  | .fwVerifyDone wait good => Sys2Proof.Machine.execFwVerifyDone wait good s
  | .adaptResume wait lane => Sys2Proof.Machine.execAdaptResume wait lane s

end Sys2Proof.Machine
end

