-- ==== Sys2Proof/Safety.lean ====
section
/-!
DEFINITION. What holds of every state the block can be in: its memories are in canonical form (`Inv`), its rings hold what they
have room for (`Rings`). What a row may leave unchanged (`clocked`, `told`). When Vehitrix takes a command with nothing in its way
(`Plain`), and what it is to be answered (`Answers`); when packets and frames arrive whole.
-/
namespace Sys2Proof.Machine

/-- A state whose ring memory, GDDR6 and SRAM list addresses strictly rising, and no byte that an unlisted address reads as. -/
def State.Inv (s : State) : Prop := s.mem.ring.wf = true ∧ s.mem.gddr.wf = true ∧ s.mem.sram.wf = true

/-- A state in which no ring holds more than its slots and the backlog not more than 1,024 events (R50, R51, R54, R57). -/
def State.Rings (s : State) : Prop :=
  occupancy s.host.cmdTail s.host.cmdHead ≤ 64 ∧ occupancy s.host.rspTail s.host.rspHead ≤ 64
  ∧ occupancy s.host.evtTail s.host.evtHead ≤ 256 ∧ s.host.backlog.length ≤ 1024

/-- The state s after what t says of the clock, of the outputs and of the free values drawn; nothing else changes. -/
def State.clocked (s t : State) : State := { s with now := t.now, raw := t.raw, clk := t.clk, free := t.free, out := t.out }

/-- The same, and what t says of the host interface with its ring memory and of the fault hub, which answers, events and fault
reports change. -/
def State.told (s t : State) : State :=
  { s.clocked t with host := t.host, flt := t.flt, mem := { s.mem with ring := t.mem.ring } }

/-- A command with at least n payload words and no flag but FENCE, which Vehitrix takes and executes at once: it consumes
commands (R53, R54, R56), no fence holds this or another command back (R67), the slot's LEN and reserved bits are in order
(R62), and the module is not in recovery (R564). -/
structure Plain (c : Vx) (n : Nat) (s : State) : Prop where
  takes : s.consumes = true
  noWaiting : s.host.waiting = []
  fence : c.fence = true → s.quiet = true
  normal : s.pw.recovery = false
  lenLow : n ≤ c.len
  lenHigh : c.len ≤ 14
  rsv : c.rsv = 0
  noStage : c.stage = false
  noRemote : c.remote = false

/-- The same on a module that is not one of a pair (R468, R479). -/
structure Solo (c : Vx) (n : Nat) (s : State) : Prop extends Plain c n s where
  noPair : s.twin.role = 0

/-- The reserved bits of a command's payload words are zero: each pair names a slot word and the bits that are defined in it
(R10). -/
def Clear (c : Vx) (l : List (Nat × Nat)) : Prop := rsvWord c l = none

/-- The command i of opcode op in the slot c answers the state s with a status and result words, and leaves t but for the
response (R55, R62, R65) and for the operations whose events it has let fire, which are carried out (R512). -/
def Answers (i : Instr) (c : Vx) (op : Nat) (s : State) (st : Status) (ws : List Nat) (t : State) : Prop :=
  exec i s = .next (t.answer (.done (rspWords c.tag op st.code (ws.map w32)))).performOps

/-- A Wellhead packet `r` arrives whole at an input that takes one: a Wellhead Link input, aligned, no lane of it under test, no
block of another type in the packet, and the check of the input's context leaves it at `ctx` and finds `found` (R124, R126 to
R128, R463). -/
structure Arrives (p : WlPkt) (r : WlRx) (ctx : Ctx) (found : Found) (s : State) : Prop where
  input : p.input < 8
  kind : (s.inp p.input).kind = 1
  aligned : (s.inp p.input).aligned = true
  packet : received (s.inp p.input).lanes p = r
  blocks : r.bad = 0
  whole : r.whole = true
  untested : s.inputTested p.input = false
  check : (s.cvu.ctx p.input).check r.cover r.crc = (ctx, found)

/-- The run r of dipper d is at an instruction w of opcode op: no built-in program, no WAIT in progress (R313, R326). -/
structure At (d op : Nat) (r : Run) (w : Word) (s : State) : Prop where
  dipper : d < s.dip.dips.length
  fetched : s.fetch d = some (r, w)
  opcode : opOf w = op

/-- The instruction i of dipper d, of opcode op and cyc cycles of two core clocks each: the clock runs on to its end, and of the
rest only the dipper's run changes, as f says and by its cycles (R313, R315). -/
def Performs (i : Instr) (d op cyc : Nat) (f : Run → Word → Run) : Prop := ∀ (s : State) (r : Run) (w : Word), At d op r w s →
  exec i s = .next ((s.toClk (max r.next s.clk + 2 * cyc)).onDp d fun x =>
    { x with run := some { f r w with next := max r.next s.clk + 2 * cyc, cycles := r.cycles + cyc } })

/-- What the context of the twin link does with the frame f: it judges its CRC, and one whose LENGTH is not that of its payload
fails it (R128, R469; log entry 73). -/
def State.twinCheck (s : State) (f : TwinFrame) : Ctx × Found :=
  (s.cvu.ctx 9).check (twinBytes f) (if fld f.h0 31 16 == f.payload.length then f.crc.toNat else 4294967296)

/-- A frame of type `ty` arrives whole on the twin link of a module that takes one: aligned, paired or pairing, passed by its
context, and in sequence but for a heartbeat (R128, R469, R470). -/
structure Twinned (f : TwinFrame) (ty : Nat) (s : State) : Prop where
  aligned : s.twin.aligned = true
  kind : fld f.h0 7 0 = ty
  paired : s.twin.role ≠ 0 ∨ s.twin.pairing.isSome = true
  whole : (s.twinCheck f).2 ≠ .crcFail
  fresh : (s.twinCheck f).2 ≠ .again
  inSeq : ty ≠ 1 → f.h1.toNat = s.twin.rxSeq

/-- The state in which such a frame, but for a heartbeat, is acted on: its SEQ is acknowledged by the next heartbeat (R470). -/
def State.twinTook (s : State) (f : TwinFrame) : State :=
  ((s.pass f.wait).useCtx 9 (s.twinCheck f).1).onTwin fun t =>
    { t with rxSeq := (t.rxSeq + 1) % 4294967296, nack := false }

/-- A Skovlink frame arrives whole at a module that takes it: of version 1, not its own, on a port where it listens, addressed to
it, passed by the port's context without a gap, newer than the last of its sender to this address, and at a manager from a module
that it lets through (R494 to R498, R502, R503). -/
structure Skovved (f : SkovFrame) (s : State) : Prop where
  version : (hdrOf f).version = 1
  other : ¬((hdrOf f).src = s.myId ∧ (hdrOf f).twinB = s.selB)
  hears : s.hears f.port = true
  on : s.hearsOn f.port (hdrOf f) = true
  addressed : s.addressed (hdrOf f) = true
  whole : (s.skovCheck f).2 = .pass
  fresh : (hdrOf f).seq = 1 ∨ ∀ n, alookup (s.skovSender f).seqs (hdrOf f).addr = some n → seqAfter (hdrOf f).seq n = true
  known : s.isManager = false ∨ (hdrOf f).relayed = true ∨ some (hdrOf f).src = s.managerId ∨ (hdrOf f).src = s.myId ∨
    ((s.entry (hdrOf f).src).enabled = true ∧ ((s.member (hdrOf f).src (hdrOf f).twinB).st ≠ 3
      ∨ ((hdrOf f).type ≠ 2 ∧ (hdrOf f).type ≠ 3 ∧ (hdrOf f).type ≠ 6 ∧ (hdrOf f).type ≠ 8)))

/-- The state in which such a frame is acted on: counted, its context and the record of its sender renewed. -/
def State.skovTook (s : State) (f : SkovFrame) : State :=
  ((((s.pass f.wait).onCl fun c => { c with received := c.received + 1 }).useCtx (10 + 2 * f.port) (s.skovCheck f).1).setSender
    { s.skovSender f with
      alive := some (hdrOf f).alive, seqs := aset (s.skovSender f).seqs (hdrOf f).addr (hdrOf f).seq
      heard := s.clk + f.wait })

/-- The command of each opcode, in the slot c. -/
def commandsOf (c : Vx) : List (Nat × Instr) :=
  [(0x0000, Instr.nop c), (0x0001, Instr.getInfo c), (0x0002, Instr.setPowerState c),
    (0x0003, Instr.getPowerState c), (0x0010, Instr.commitOpen c), (0x0011, Instr.commitArm c),
    (0x0012, Instr.commitAbort c), (0x0013, Instr.commitStatus c), (0x0020, Instr.setEventFilter c),
    (0x0021, Instr.getRestartReport c)]
  ++ [(0x0100, Instr.timeGet c), (0x0101, Instr.timeSource c), (0x0102, Instr.timeStep c),
    (0x0103, Instr.timeTrim c), (0x0110, Instr.tlConfig c), (0x0111, Instr.tlQuery c), (0x0120, Instr.evtAdd c),
    (0x0121, Instr.evtCancel c), (0x0122, Instr.evtQuery c), (0x0130, Instr.evConfig c)]
  ++ [(0x0200, Instr.inConfig c), (0x0201, Instr.inQuery c), (0x0202, Instr.inClear c), (0x0210, Instr.ipConfig c),
    (0x0211, Instr.ipCsc c)]
  ++ [(0x0300, Instr.compConfig c), (0x0301, Instr.layerConfig c), (0x0302, Instr.compQuery c),
    (0x0310, Instr.sigConfig c), (0x0311, Instr.sigQuery c), (0x0340, Instr.surfConfig c),
    (0x0341, Instr.surfPublish c), (0x0342, Instr.surfQuery c), (0x0348, Instr.blitSubmit c),
    (0x0349, Instr.blitQuery c), (0x034C, Instr.blitBw c)]
  ++ [(0x0400, Instr.chConfig c), (0x0401, Instr.chLayout c), (0x0402, Instr.chDelay c), (0x0403, Instr.chStart c),
    (0x0404, Instr.chStop c), (0x0405, Instr.chQuery c), (0x0406, Instr.chRefresh c),
    (0x0410, Instr.losslessConfig c), (0x0420, Instr.seiConfig c), (0x0430, Instr.engControl c)]
  ++ [(0x0500, Instr.rcConfig c), (0x0501, Instr.rcQuery c), (0x0502, Instr.rcBind c),
    (0x0510, Instr.groupConfig c), (0x0511, Instr.groupMember c), (0x0520, Instr.clrcConfig c)]
  ++ [(0x0600, Instr.dsWells c), (0x0601, Instr.dsFlowAlloc c), (0x0602, Instr.dsFlowFree c),
    (0x0603, Instr.dsFlowQuery c), (0x0608, Instr.dsDelayConfig c), (0x0610, Instr.dsSubmit c),
    (0x0611, Instr.dsCancel c)]
  ++ [(0x0700, Instr.dipImageWrite c), (0x0701, Instr.dipLoad c), (0x0702, Instr.dipUnload c),
    (0x0703, Instr.dipQuery c), (0x0704, Instr.dipProgQuery c), (0x0710, Instr.dipHook c)]
  ++ [(0x0800, Instr.selfcheckConfig c), (0x0801, Instr.selfcheckQuery c), (0x0810, Instr.feedConfig c),
    (0x0811, Instr.feedQuery c), (0x0812, Instr.feedClear c)]
  ++ [(0x0900, Instr.audConfig c), (0x0901, Instr.audQuery c), (0x0902, Instr.audClear c)]
  ++ [(0x0A00, Instr.pkgStream c), (0x0A01, Instr.pkgTemplate c), (0x0A02, Instr.pkgAudio c),
    (0x0A03, Instr.pkgQuery c)]
  ++ [(0x0B00, Instr.portConfig c), (0x0B01, Instr.portQuery c), (0x0B10, Instr.queueConfig c),
    (0x0B11, Instr.queueQuery c), (0x0B20, Instr.gateWrite c), (0x0B21, Instr.gateSet c),
    (0x0B22, Instr.gateQuery c), (0x0B30, Instr.policerConfig c), (0x0B40, Instr.ptpConfig c),
    (0x0B41, Instr.ptpQuery c), (0x0B42, Instr.ptpStepAnswer c)]
  ++ [(0x0C00, Instr.laneConfig c), (0x0C01, Instr.laneTx c), (0x0C02, Instr.laneQuery c),
    (0x0C03, Instr.laneRetrain c), (0x0C04, Instr.laneIdle c)]
  ++ [(0x0D00, Instr.twinPair c), (0x0D01, Instr.twinUnpair c), (0x0D02, Instr.twinSwap c),
    (0x0D03, Instr.twinQuery c)]
  ++ [(0x0E00, Instr.clConfig c), (0x0E01, Instr.clPin c), (0x0E02, Instr.clRosterWrite c),
    (0x0E03, Instr.clRosterQuery c), (0x0E04, Instr.clAccept c), (0x0E10, Instr.clOp c),
    (0x0E11, Instr.clOpQuery c), (0x0E12, Instr.clOpSlot c), (0x0E20, Instr.clStatus c)]
  ++ [(0x0F00, Instr.fltSeverity c), (0x0F01, Instr.fltClearSafe c), (0x0F02, Instr.fltInject c),
    (0x0F10, Instr.cvuAlloc c), (0x0F11, Instr.cvuFree c), (0x0F12, Instr.cvuCtxRead c),
    (0x0F13, Instr.cvuCtxWrite c)]
  ++ [(0x1000, Instr.fwQuery c), (0x1001, Instr.fwBegin c), (0x1002, Instr.fwWrite c), (0x1003, Instr.fwEnd c),
    (0x1004, Instr.fwActivate c), (0x1005, Instr.fwConfirm c), (0x1006, Instr.bootTarget c),
    (0x1010, Instr.trickleConfig c), (0x1011, Instr.trickleQuery c), (0x1020, Instr.healthQuery c)]

end Sys2Proof.Machine
end

