-- ==== Sys2Proof/Certificates/Slice0/Obligations.lean ====
section
/-!
DEFINITION. What is to be proved of the block. A statement says for each command when it completes and what it then leaves, or
states a rule of the manual over all states. `Plain` and `Answers` stand in Safety.lean.
-/

open Sys2Proof Sys2Proof.Machine

/-- Group 0x00, in a state in which nothing holds the command back. NOP answers device time; GET_INFO firmware, serial
number, security version and capacity (R79); SET_POWER_STATE of a module that is not paired starts one step towards its target
where neither running channels nor a safe state nor the masks forbid it, and completes at once, with POWER_STATE, where the state
is the target (R79, R549, R550; log entry 53);
GET_POWER_STATE answers state and masks; COMMIT_OPEN opens the set of the next free ID (R72); COMMIT_ARM arms the open set, of
which all commands are allowed and valid, at its time or before the next start of a row or frame (R72, R73, R74); COMMIT_ABORT
discards the open set, or withdraws an armed one that is not loaded (R75); COMMIT_STATUS answers the state of an ID and its
boundary (log entry 56); SET_EVENT_FILTER sets the filter (R81); GET_RESTART_REPORT answers the IDs discarded, four to a word,
low byte first (log entry 54). -/
def Obligations.SystemCommandsComplete : Prop := ∀ (c : Vx) (s : State),
  (Plain c 0 s → Answers (.nop c) c 0x0000 s .ok (timeNats s.now) s)
  ∧ (Plain c 0 s → Answers (.getInfo c) c 0x0001 s .ok
      [s.fwWord, serialLo, serialHi, 0xFFFF + s.pw.counter * 65536, 14000, s.capacityFree] s)
  ∧ (∀ target ce other, Solo c 3 s → Clear c [(2, msk 2 0), (3, msk 15 0), (4, msk 15 8 + msk 5 0)] →
      fld (c.w 2) 2 0 = target → fld (c.w 3) 15 0 = ce → fld (c.w 4) 15 0 = other → 1 ≤ target → target ≤ 4 →
      s.pw.step = none → s.flt.safe = none →
      ((target < 4 → s.anyRuns = false) → (target = 4 → s.masksOk ce other = true) → (target = 4 ∨ target ≠ s.pw.st) →
        Answers (.setPowerState c) c 0x0002 s .accepted []
          ((s.start 0x0002 c.tag 0).onPw fun p =>
            { p with step := some ⟨target, nextState s.pw.st target, true, false, s.clk, ce, other, false⟩ }))
      ∧ (target < 4 → s.anyRuns = false → s.pw.st = target →
        Answers (.setPowerState c) c 0x0002 s .accepted [] (((s.start 0x0002 c.tag 0).powerEvt target target).complete 0x0002 0 .ok [])))
  ∧ (Plain c 0 s → Answers (.getPowerState c) c 0x0003 s .ok [s.pw.st, s.pw.ce, s.pw.other] s)
  ∧ (Plain c 0 s → s.host.openId = none →
      Answers (.commitOpen c) c 0x0010 s .ok [s.host.freeId]
        (s.onHost fun h => { h with
          openId := some s.host.freeId, openCmds := [], nextId := s.host.freeId % 255 + 1
          ended := adel h.ended s.host.freeId }))
  ∧ (∀ kind ch, Solo c 4 s → Clear c [(2, msk 15 12 + msk 9 0), (5, msk 15 0)] → fld (c.w 2) 9 8 = kind →
      fld (c.w 2) 15 12 = ch → s.host.openId = some (fld (c.w 2) 7 0) → kind < 3 → (kind < 2 → s.runs ch = true) →
      (kind = 2 → (c.w 3).toNat < 1000000000 ∧ s.now + 100 * usU ≤ Vx.time c 3 ∧ Vx.time c 3 ≤ s.now + 60 * secU) →
      s.host.armed.length < 16 → s.withArmed.firstBadKind kind ch s.host.openCmds 0 = none →
      s.withArmed.setFails s.host.openCmds = none →
      ∃ x : CommitSet, Answers (.commitArm c) c 0x0011 s .ok (timeNats x.due)
          (s.onHost fun h => { h with openId := none, openCmds := [], armed := h.armed ++ [x] })
        ∧ x.id = fld (c.w 2) 7 0 ∧ x.kind = kind ∧ x.chan = ch ∧ x.loaded = false ∧ x.cmds = s.host.openCmds
        ∧ (kind = 2 → x.due = Vx.time c 3)
        ∧ (kind = 0 → (x.frame, x.row) = s.rowFrom ch (s.now + 30 * usU))
        ∧ (kind = 1 → x.frame = s.frameFrom ch (s.now + 30 * usU) ∧ x.row = 0)
        ∧ (kind < 2 → ∀ b, s.predictStart ch x.frame x.row = some b → x.due = b))
  ∧ (∀ id, Plain c 1 s → Clear c [(2, msk 7 0)] → fld (c.w 2) 7 0 = id →
      (s.host.openId = some id → Answers (.commitAbort c) c 0x0012 s .ok []
        (s.onHost fun h => { h with openId := none, openCmds := [], ended := aset h.ended id ⟨0, 0⟩ }))
      ∧ (∀ x, s.host.openId ≠ some id → s.host.armed.find? (fun y => y.id == id) = some x → x.loaded = false →
        Answers (.commitAbort c) c 0x0012 s .ok []
          (s.onHost fun h => { h with
            armed := h.armed.filter (fun y => y.id != id), ended := aset h.ended id ⟨0, x.due⟩ })))
  ∧ (∀ id, Plain c 1 s → Clear c [(2, msk 7 0)] → fld (c.w 2) 7 0 = id →
      (s.host.openId = some id → Answers (.commitStatus c) c 0x0013 s .ok [1, 0, 0, 0] s)
      ∧ (∀ x, s.host.openId ≠ some id → s.host.armed.find? (fun y => y.id == id) = some x →
        Answers (.commitStatus c) c 0x0013 s .ok
          (if x.loaded then 3 :: timeNats x.due else if x.kind = 2 then 2 :: timeNats x.due else [2, 0, 0, 0]) s)
      ∧ (∀ e, s.host.openId ≠ some id → s.host.armed.find? (fun y => y.id == id) = none → alookup s.host.ended id = some e →
        Answers (.commitStatus c) c 0x0013 s .ok (e.st :: (if e.st = 0 then [0, 0, 0] else timeNats e.due)) s))
  ∧ (Plain c 1 s → Clear c [(2, msk 16 0)] →
      Answers (.setEventFilter c) c 0x0020 s .ok []
        (s.onHost fun h => { h with filter := BitVec.ofNat 17 (fld (c.w 2) 16 0) }))
  ∧ (Plain c 0 s → ∃ ws : List Nat, Answers (.getRestartReport c) c 0x0021 s .ok ws s ∧ ws.length = 13 ∧
      ∀ k < 13, ws.getD k 0 = s.host.report.getD (4 * k) 0 + s.host.report.getD (4 * k + 1) 0 * 256
        + s.host.report.getD (4 * k + 2) 0 * 65536 + s.host.report.getD (4 * k + 3) 0 * 16777216)

/-- Group 0x01, in a state in which nothing holds the command back. TIME_GET answers device time, addend and source (R85);
TIME_SOURCE with MODE 0 applies the trimmed addend and completes at once, with MODE 1 or 2 waits for its source up to 100 ms
(R86, log entry 41); TIME_STEP moves device time (R88); TIME_TRIM sets trim and addend in MODE 0 (R86); TL_CONFIG configures a
tracker, which starts anew (R119); TL_QUERY answers its state, period, position and glitches, where a period of its own is known;
EVT_ADD puts an event that its checks accept into the lowest free slot (log entry 21); EVT_CANCEL removes one; EVT_QUERY
shows one, with its time where that is known (log entry 11); EV_CONFIG configures a pin (R113). -/
def Obligations.TimeCommandsComplete : Prop := ∀ (c : Vx) (s : State),
  (Plain c 0 s → Answers (.timeGet c) c 0x0100 s .ok (timeNats s.now ++ [s.time.addend, s.time.sourceWord]) s)
  ∧ (∀ m, Plain c 1 s → Clear c [(2, msk 1 0)] → fld (c.w 2) 1 0 = m → m < 3 → (m = 2 → s.net.ptp.cfg.on = true) →
      s.time.pending = none → s.time.holdover = false →
      (m = 0 → Answers (.timeSource c) c 0x0101 s .accepted []
        (((s.start 0x0101 c.tag 0).onTime fun t => { t with mode := 0, addend := trimAddend t.trim }).complete 0x0101 0 .ok []))
      ∧ (m ≠ 0 → Answers (.timeSource c) c 0x0101 s .accepted []
        ((s.start 0x0101 c.tag 0).onTime fun t => { t with mode := m, pending := some (m, s.clk + 100 * msC) })))
  ∧ (∀ d : Int, Plain c 2 s → sgn64 ((c.w 2).toNat + (c.w 3).toNat * 4294967296) = d → s.time.mode ≠ 2 →
      0 ≤ (s.now : Int) + d * nsU → (s.now : Int) + d * nsU < timeLimit →
      ∃ t, Answers (.timeStep c) c 0x0102 s .ok [] t ∧ (t.now : Int) = s.now + d * nsU ∧ t.raw = s.raw ∧ t.clk = s.clk
        ∧ t.pw = s.pw ∧ t.lane = s.lane ∧ t.cl = s.cl)
  ∧ (∀ v : Int, Plain c 1 s → sgn32 (c.w 2).toNat = v → -1000000 ≤ v → v ≤ 1000000 → s.time.mode = 0 →
      Answers (.timeTrim c) c 0x0103 s .ok [] (s.onTime fun t => { t with trim := v, addend := trimAddend v }))
  ∧ (∀ tl mode gain edges loss slew, Plain c 4 s → Clear c [(2, msk 15 12 + msk 10 0), (4, msk 15 0), (5, msk 13 0)] →
      fld (c.w 2) 3 0 = tl → fld (c.w 2) 7 4 = mode → fld (c.w 2) 15 12 = gain → fld (c.w 4) 15 0 = edges →
      fld (c.w 5) 13 8 = loss → fld (c.w 5) 7 0 = slew → 1 ≤ tl → tl ≤ 12 → (tl ≤ 4 → mode ≤ 4) →
      (5 ≤ tl → mode = 0 ∨ mode = 5) → (gain ≤ 8 ∨ gain = 15) → (1 ≤ mode → mode ≤ 4 → 48 ≤ (c.w 3).toNat) →
      (mode = 2 ∨ mode = 3 → edges ≠ 0) → (loss = 0 ∨ 5 ≤ loss ∧ loss ≤ 32) → slew ≤ 250 →
      Answers (.tlConfig c) c 0x0110 s .ok []
        (configureTl s tl
          { mode := mode, polarity := bit (c.w 2) 8, elec := bit (c.w 2) 9, zEn := bit (c.w 2) 10
            gain := if gain = 15 then defaultGain mode else gain, loss := if loss = 0 then 8 else loss
            slew := if slew = 0 then 20 else slew
            nominal := if mode = 5 then tab s.time.inNominal (tl - 5) else (c.w 3).toNat * nsU
            e := if mode = 2 then 4 * edges else if mode = 3 then edges
              else if mode = 5 then max 1 (tab s.time.inE (tl - 5)) else 1 }))
  ∧ (∀ tl, Plain c 1 s → Clear c [(2, msk 3 0)] → fld (c.w 2) 3 0 = tl → tl ≤ 12 →
      ∃ period, Answers (.tlQuery c) c 0x0111 s .ok
          [if tl = 0 then 2 else (s.trk tl).st, period / nsU, period % nsU, (s.position tl).1, (s.position tl).2,
            s.time.glitchWord tl] s.drawn
        ∧ (tl ≠ 0 → (s.trk tl).tpred ≠ 0 → period = (s.trk tl).tpred))
  ∧ (∀ slot t, Plain c 8 s → addEvt s c.w (s.scriptUsable (fld (c.w 8) 5 0)) false = .ok (slot, t) →
      Answers (.evtAdd c) c 0x0120 s .ok [slot] t ∧ lowestFree (s.time.evts.map (·.1)) 1024 = some slot
        ∧ (fld (c.w 2) 3 0 = 0 → t = s.onTime fun x => { x with evts := aset x.evts slot (evtOf c.w false) }))
  ∧ (Plain c 8 s → fld (c.w 2) 3 0 = 0 → (c.w 2).toNat = 0x400 → (c.w 3).toNat < 1000000000 → c.w 6 = 0 → c.w 7 = 0 →
      c.w 8 = 0 → s.now + 2 * usU ≤ (evtOf c.w false).tgt → tSec (evtOf c.w false).tgt ≤ tSec s.now + 2147483648 →
      ∀ slot, lowestFree (s.time.evts.map (·.1)) 1024 = some slot →
      Answers (.evtAdd c) c 0x0120 s .ok [slot] (s.onTime fun x => { x with evts := aset x.evts slot (evtOf c.w false) }))
  ∧ (∀ slot, Plain c 1 s → Clear c [(2, msk 9 0)] → fld (c.w 2) 9 0 = slot → (alookup s.time.evts slot).isSome = true →
      Answers (.evtCancel c) c 0x0121 s .ok [] (s.onTime fun t => { t with evts := adel t.evts slot }))
  ∧ (∀ slot, Plain c 1 s → Clear c [(2, msk 9 0)] → fld (c.w 2) 9 0 = slot →
      (alookup s.time.evts slot = none → Answers (.evtQuery c) c 0x0122 s .ok [0, 0, 0, 0, 0] s)
      ∧ (∀ e, alookup s.time.evts slot = some e →
        Answers (.evtQuery c) c 0x0122 s .ok
          ([if e.frozen.isSome then 2 else 1] ++ ((s.evtTime e).map timeNats).getD [0, 0, 0]
            ++ [e.left.getD 0xFFFFFFFF]) s))
  ∧ (∀ pin (x : EvPin) (u : State), Plain c 2 s → Clear c [(2, msk 3 0)] → fld (c.w 2) 1 0 = pin → 8 ≤ (c.w 3).toNat →
      (c.w 3).toNat ≤ 1000000000 →
      x = { activeLow := bit (c.w 2) 2, safeRun := bit (c.w 2) 3, width := (c.w 3).toNat,
            ends := if s.flt.safe.isSome && !bit (c.w 2) 3 then none else (tab s.time.pins pin).ends } →
      u = s.onTime (fun t => { t with pins := upd t.pins pin fun _ => x }) →
      Answers (.evConfig c) c 0x0130 s .ok []
        (if x.level = (tab s.time.pins pin).level then u else u.emit .ev [pin, b01 x.level]))

/-- Group 0x02, in a state in which nothing holds the command back and no running channel asks for STAGE (R64). IN_CONFIG
releases an input, or gives it its lanes, link and format where no other input holds a lane and the configuration is admitted
(R121 to R126); IN_QUERY answers alignment, verdict and counters, IN_CLEAR clears the counters (R146); IP_CONFIG sets a
processor whose geometry, tracker and depth are in order, and answers its depth (R136, R141); IP_CSC sets its matrix (R136). -/
def Obligations.CaptureCommandsComplete : Prop := ∀ (c : Vx) (s : State),
  (∀ i, Solo c 3 s → Clear c [(2, msk 25 16 + msk 10 8 + msk 5 0)] → fld (c.w 2) 3 0 = i → i < 8 → s.inputRuns i = false →
      (fld (c.w 2) 5 4 = 0 →
        Answers (.inConfig c) c 0x0200 s .ok [] ((s.relink i fun _ => {}).onCvu fun v => { v with ctxs := adel v.ctxs i }).setLanes)
      ∧ (∀ n rate first pixels lines pack, fld (c.w 2) 5 4 = 1 → n = 2 ^ fld (c.w 2) 10 8 → n ≤ 16 → fld (c.w 2) 23 20 = rate →
        rate ≤ 2 → fld (c.w 2) 25 24 = 0 → fld (c.w 2) 19 16 = first → first % n = 0 → first + n ≤ 16 →
        (∀ j < 8, j ≠ i → (s.inp j).kind ≠ 0 → first + n ≤ (s.inp j).first ∨ (s.inp j).first + (s.inp j).lanes ≤ first) →
        fld (c.w 3) 15 0 = pixels → fld (c.w 3) 31 16 = lines → 1 ≤ pixels → pixels ≤ 16384 → 1 ≤ lines → lines ≤ 16384 →
        fld (c.w 4) 23 16 = pack → (packing? pack).isSome = true → s.host.lenient = false →
        ∀ u, u = s.onIn i (fun _ =>
          { kind := 1, rate := rate, sdiMode := 0, first := first, lanes := n, linkId := fld (c.w 4) 31 24, packing := pack
            pixels := pixels, lines := lines, total := fld (c.w 4) 15 0, good := List.replicate n 0
            bad := List.replicate n 0, marks := List.replicate n none }) →
        u.settle.host.lenient = false → u.settle.admission false (s.chansOf i) = none →
        Answers (.inConfig c) c 0x0200 s .ok []
          (((List.range 16).filter fun l => s.laneInput l == some i).foldl State.laneOff
            (((u.settle.setCtx i (Ctx.own 2)).inLink i).onPw fun p => { p with in0 := p.in0 || i == 0 })).setLanes))
  ∧ (∀ i, Solo c 1 s → Clear c [(2, msk 2 0)] → fld (c.w 2) 2 0 = i →
      Answers (.inQuery c) c 0x0201 s .ok
        [b01 (s.inp i).aligned + 2 * b01 (s.inp i).formatOk, (s.inp i).packets.toNat, (s.inp i).crcErrs.toNat,
          (s.inp i).aliveReps.toNat, (s.inp i).aliveGaps.toNat, (s.inp i).skipped.toNat, (s.inp i).frame.getD 0] s)
  ∧ (∀ i, Solo c 1 s → Clear c [(2, msk 2 0)] → fld (c.w 2) 2 0 = i →
      Answers (.inClear c) c 0x0202 s .ok []
        (s.onIn i fun x => { x with packets := 0, crcErrs := 0, aliveReps := 0, aliveGaps := 0, skipped := 0 }))
  ∧ (∀ (k inp ch : Nat) (p : IpSt), Solo c 6 s → 3 ≤ s.pw.st →
      Clear c [(2, msk 31 18 + msk 15 8 + msk 5 0), (6, msk 5 0), (7, 0)] → fld (c.w 2) 2 0 = k → fld (c.w 2) 5 3 = inp →
      fld (c.w 2) 31 28 = ch → ipNeedStage c s = false →
      p = { s.ip k with
        used := true, input := inp, chan := ch, desqueeze := fld (c.w 2) 27 25, depth := fld (c.w 2) 24 23
        chroma := fld (c.w 2) 22 21, rotate := fld (c.w 2) 20 19, mirror := bit (c.w 2) 18, cropX := fld (c.w 3) 15 0
        cropY := fld (c.w 3) 31 16, cropW := fld (c.w 4) 15 0, cropH := fld (c.w 4) 31 16, outW := fld (c.w 5) 15 0
        outH := fld (c.w 5) 31 16, margin := fld (c.w 6) 5 0 } →
      p.desqueeze ≤ 5 → p.depth ≠ 3 → p.rotate ≠ 2 → p.margin ≤ 32 → p.cropX % 2 = 0 → p.cropY % 2 = 0 → p.cropW % 2 = 0 →
      p.cropH % 2 = 0 → (p.cropW = 0 ∨ 64 ≤ p.cropW) → (p.cropH = 0 ∨ 64 ≤ p.cropH) → 8 ≤ p.outW → p.outW % 8 = 0 →
      8 ≤ p.outH → p.outH % 8 = 0 →
      ((s.inp inp).kind ≠ 0 → ipGeometryBad p (s.inp inp) = false ∧ ipChromaBad p (s.inp inp) = false) →
      (s.trk (5 + inp)).mode = 5 → ((s.ip k).used = true → (s.ip k).chan = ch) → (∀ j, s.ipOf ch = some j → j = k) →
      ((s.ipsOf inp).filter (fun j => j != k)).length < 2 →
      ∀ d u, (fld (c.w 2) 15 8 = 0 → d = (s.onIp k fun _ => p).minDepth ch) →
        (fld (c.w 2) 15 8 ≠ 0 → d = fld (c.w 2) 15 8 ∧ (s.onIp k fun _ => p).minDepth ch ≤ d) → d ≤ 64 →
        u = s.onIp k (fun _ => { p with
          slots := d, least := fld (c.w 2) 15 8 == 0, nextSlot := (s.ip k).nextSlot % max 1 d }) →
        u.settle.host.lenient = false → u.settle.admission false [ch] = none →
        Answers (.ipConfig c) c 0x0210 s .ok [(u.settle.ip k).slots] u.settle)
  ∧ (∀ k, Solo c 8 s → Clear c [(2, msk 2 0), (7, msk 15 0), (9, msk 15 0)] → fld (c.w 2) 2 0 = k → cscNeedStage c s = false →
      Answers (.ipCsc c) c 0x0211 s .ok []
        (s.onIp k fun p => { p with csc := some (
          [half c 3 false, half c 3 true, half c 4 false, half c 4 true, half c 5 false, half c 5 true, half c 6 false,
            half c 6 true, half c 7 false, half c 8 false, half c 8 true, half c 9 false]) }))

/-- Group 0x03, in a state in which nothing holds the command back and no running channel asks for STAGE. COMP_CONFIG
enables composition where line buffers and admission allow (R154, R164); LAYER_CONFIG disables or sets a fill layer (R148 to
R158); COMP_QUERY answers layers and clears the count of abandoned rows (R175); SIG_CONFIG and SIG_QUERY (R171 to R174);
SURF_CONFIG removes or creates a surface that nothing reads or writes (R177); SURF_PUBLISH publishes a buffer (R180);
SURF_QUERY; BLIT_SUBMIT queues a fill or copy of surfaces that its rectangle fits (R183); BLIT_QUERY; BLIT_BW sets the rates
(R189, R190). -/
def Obligations.CompositionCommandsComplete : Prop := ∀ (c : Vx) (s : State),
  (∀ (ch mask : Nat) (u v : State), Solo c 1 s → Clear c [(2, msk 16 16 + msk 11 8 + msk 3 0)] → fld (c.w 2) 3 0 = ch →
      fld (c.w 2) 11 8 = mask → (bit (c.w 2) 16 = true → mask ≠ 0) → s.runs ch = false →
      u = s.onCc ch (fun x => { x with
        on := bit (c.w 2) 16, mask := mask, since := if bit (c.w 2) 16 && !x.on then s.now else x.since }) →
      v = u.reserveLines ch →
      v.buffersOk = true → v.settle.host.lenient = false → v.settle.admission false [ch] = none →
      ∃ ws : List Nat, Answers (.compConfig c) c 0x0300 s .ok ws v.settle ∧ ws.length = 2)
  ∧ (∀ (ch i : Nat) (l : Layer) (u : State), Solo c 8 s →
      Clear c [(2, msk 31 8 + msk 6 0), (3, msk 9 0), (4, msk 31 16), (9, msk 29 0)] → fld (c.w 2) 3 0 = ch →
      fld (c.w 2) 6 4 = i → 1 ≤ i → fld (c.w 2) 10 9 = 2 → fld (c.w 2) 16 15 ≠ 3 → 1 ≤ fld (c.w 8) 15 0 →
      fld (c.w 8) 15 0 ≤ 16384 → 1 ≤ fld (c.w 8) 31 16 → fld (c.w 8) 31 16 ≤ 16384 → s.runs ch = false →
      l = { tab (s.cc ch).layers i with
        on := bit (c.w 2) 8, hold := fld (c.w 2) 31 24, expect := fld (c.w 2) 23 20, vPoint := bit (c.w 2) 19
        bt2020 := bit (c.w 2) 18, premul := bit (c.w 2) 17, blend := fld (c.w 2) 16 15, format := fld (c.w 2) 14 11
        source := 2, galpha := fld (c.w 3) 9 0, srcId := fld (c.w 4) 31 16
        src := ⟨fld (c.w 5) 15 0, fld (c.w 5) 31 16, fld (c.w 6) 15 0, fld (c.w 6) 31 16⟩, dstX := half c 7 false
        dstY := half c 7 true, dstW := fld (c.w 8) 15 0, dstH := fld (c.w 8) 31 16, fill := fld (c.w 9) 29 0, point := false
        latched := none, notReady := 0, transparent := false } →
      (tab (s.cc ch).layers i).source ≠ 2 →
      u = ((s.onLayer ch i fun _ => { l with lb := s.lineBuffers ch l (s.stagedSize l).1 (s.stagedSize l).2 }).causeOff
        0x03 0x03 i ch).causeOff 0x03 0x02 i ch →
      u.buffersOk = true → u.settle.host.lenient = false → u.settle.admission false [ch] = none →
      ∃ n, Answers (.layerConfig c) c 0x0301 s .ok [n] u.settle)
  ∧ (∀ ch, Solo c 1 s → Clear c [(2, msk 3 0)] → fld (c.w 2) 3 0 = ch →
      ∃ ws : List Nat, Answers (.compQuery c) c 0x0302 s .ok ws (s.onCc ch fun x => { x with abandoned := 0 }) ∧ ws.length = 8
        ∧ ws.getD 7 0 = (s.cc ch).abandoned.toNat)
  ∧ (∀ ch i, Solo c 4 s → Clear c [(2, msk 14 8 + msk 6 0)] → fld (c.w 2) 3 0 = ch → fld (c.w 2) 6 4 = i →
      fld (c.w 2) 9 8 < 3 → s.runs ch = false →
      (fld (c.w 2) 9 8 ≠ 0 → fld (c.w 3) 15 0 % 2 = 0 ∧ fld (c.w 3) 31 16 % 2 = 0 ∧ fld (c.w 4) 15 0 % 2 = 0 ∧
        fld (c.w 4) 31 16 % 2 = 0 ∧ 2 ≤ fld (c.w 4) 15 0 ∧ 2 ≤ fld (c.w 4) 31 16 ∧
        ∀ g, (s.ch ch).cfg = some g →
          fld (c.w 3) 15 0 + fld (c.w 4) 15 0 ≤ g.width ∧ fld (c.w 3) 31 16 + fld (c.w 4) 31 16 ≤ g.height) →
      Answers (.sigConfig c) c 0x0310 s .ok []
        (s.onRegion ch i fun _ =>
          { kind := fld (c.w 2) 9 8, mode := fld (c.w 2) 11 10, layer := fld (c.w 2) 14 12
            since := (s.enc.rows.filter fun x => x.chan == ch && (!x.composed.isEmpty || !x.blocksDone.isEmpty)).foldl
              (fun n x => max n (x.frame + 1)) 0
            rect := ⟨fld (c.w 3) 15 0, fld (c.w 3) 31 16, fld (c.w 4) 15 0, fld (c.w 4) 31 16⟩
            ref := if fld (c.w 2) 11 10 = 1 then c.w 5 else 0, refHeld := fld (c.w 2) 11 10 == 1 }))
  ∧ (∀ r, Solo c 1 s → Clear c [(2, msk 6 0)] → r = tab (s.cc (fld (c.w 2) 3 0)).regions (fld (c.w 2) 6 4) →
      Answers (.sigQuery c) c 0x0311 s .ok [r.last.toNat, r.ref.toNat, r.lastFrame, r.mismatches.toNat] s)
  ∧ (∀ i w h, Solo c 2 s → Clear c [(2, msk 12 0)] → fld (c.w 2) 7 0 = i → fld (c.w 3) 15 0 = w → fld (c.w 3) 31 16 = h →
      s.surfRead i = false → (∀ d ∈ s.blit.all, d.dstSurf ≠ i ∧ (d.isFill = false → d.srcSurf ≠ i)) →
      (w = 0 → h = 0 →
        Answers (.surfConfig c) c 0x0340 s .ok [0, 0, 0, 0, 0] (s.onBlit fun b => { b with surfs := adel b.surfs i }))
      ∧ (∀ f u, 3 ≤ s.pw.st → 1 ≤ w → w ≤ 8192 → 1 ≤ h → h ≤ 8192 → 1 ≤ fld (c.w 2) 11 8 → fld (c.w 2) 11 8 ≤ 6 →
        f = { format := fld (c.w 2) 11 8, two := bit (c.w 2) 12, w := w, h := h } →
        u = (s.onBlit fun b => { b with surfs := aset b.surfs i f }).letGo i → u.memoryOk = true →
        Answers (.surfConfig c) c 0x0340 s .ok
          (lowHigh (bufAddr i 0) ++ (if f.two then lowHigh (bufAddr i 1) else [0, 0]) ++ [f.pitch]) u))
  ∧ (∀ i f, Solo c 1 s → Clear c [(2, msk 8 0)] → fld (c.w 2) 7 0 = i → s.surf? i = some f →
      (fld (c.w 2) 8 8 = 1 → f.two = true) → s.bufPending i (fld (c.w 2) 8 8) = false →
      Answers (.surfPublish c) c 0x0341 s .ok []
        ((s.publish i (fld (c.w 2) 8 8)).onSurf i fun g => { g with hostClk := some s.clk }))
  ∧ (∀ i, Solo c 1 s → Clear c [(2, msk 7 0)] → fld (c.w 2) 7 0 = i →
      (s.surf? i = none → Answers (.surfQuery c) c 0x0342 s .ok [0, 0] s)
      ∧ (∀ f, s.surf? i = some f → ∃ w, Answers (.surfQuery c) c 0x0342 s .ok [w, f.count.toNat] s
          ∧ (f.two = false → w = f.p + 2 * b01 f.published + 4 * b01 (s.bufLatched i 0) + 16 * b01 (s.bufWritable i 0)
            + 64 * b01 (s.bufPending i 0))))
  ∧ (∀ (b : Blit) df sf, Solo c 8 s → Clear c [(2, msk 31 7 + msk 1 0)] →
      b = { key := s.blit.next, tag := c.tag, w0 := c.w 2, w1 := c.w 3, w2 := c.w 4, w3 := c.w 5
            fill := (c.w 6).toNat + (c.w 7).toNat * 4294967296, dl := s.deadlineOf (c.w 8) (c.w 9), missed := false } →
      (c.w 8).toNat < 1000000000 → fld (c.w 2) 1 0 ≤ 1 → (b.isFill = true → fld (c.w 2) 9 7 = 0) → 1 ≤ b.dstW → b.dstW ≤ 8192 →
      1 ≤ b.dstH → b.dstH ≤ 8192 → s.surf? b.dstSurf = some df →
      (if b.isFill then s.surf? b.dstSurf else s.surf? b.srcSurf) = some sf → b.fits df sf = true →
      (∀ t, b.dl = some t → t ≤ s.now + 60 * secU) → (df.published = true → df.p ≠ b.dstBuf) → s.blit.queue.length < 64 →
      Answers (.blitSubmit c) c 0x0348 s .accepted []
        ((s.onBlit fun x => { x with queue := x.queue ++ [b], next := x.next + 1 }).start 0x0348 c.tag b.key))
  ∧ (Solo c 0 s → Answers (.blitQuery c) c 0x0349 s .ok
      [s.blit.queue.length, (s.blit.running.map fun r => r.1.tag.toNat).getD 0, s.blitMoved] s)
  ∧ (∀ u, Solo c 1 s → Clear c [(2, msk 20 0)] → 1 ≤ fld (c.w 2) 7 0 → fld (c.w 2) 7 0 ≤ 96 → 1 ≤ fld (c.w 2) 15 8 →
      fld (c.w 2) 15 8 ≤ fld (c.w 2) 7 0 → bit (c.w 2) 20 = false →
      u = s.reRate (fun b => { b with active := fld (c.w 2) 7 0, dead := fld (c.w 2) 15 8, deadCh := none }) →
      u.decodeOk = true → u.gddrOk = true → Answers (.blitBw c) c 0x034C s .ok [] u)

/-- Group 0x04, in a state in which nothing holds the command back and the channel does not run. CH_CONFIG, CH_LAYOUT and CH_DELAY
configure a channel where the configuration is admitted (R192 to R203, R239, R240, R595); CH_START of a channel that may start
begins it, 100 us ahead (R243); CH_STOP of a running channel chooses its last frame (R244); CH_QUERY; CH_REFRESH sets the next
refresh of a running channel whose structure has one (R222); LOSSLESS_CONFIG (R226); SEI_CONFIG (R229); ENG_CONTROL takes engines
out of service or returns them (R211; log entry 31). The layout and the lossless regions a channel has bind a new CH_CONFIG of it (log entry 77). -/
def Obligations.ChannelCommandsComplete : Prop := ∀ (c : Vx) (s : State) (ch : Nat), fld (c.w 2) 3 0 = ch →
  (∀ (g : ChCfg) (u : State), Solo c 5 s → Clear c [(2, msk 19 6 + msk 4 0), (6, msk 10 0)] → s.runs ch = false →
      g = { codec := fld (c.w 2) 4 4, chroma := fld (c.w 2) 7 6, depth := fld (c.w 2) 9 8, small := bit (c.w 2) 10
            struct := fld (c.w 2) 12 11, refs := fld (c.w 2) 15 13, tier := fld (c.w 2) 16 16, prio := fld (c.w 2) 19 17
            width := fld (c.w 3) 15 0, height := fld (c.w 3) 31 16, fnum := (c.w 4).toNat, fden := (c.w 5).toNat
            gdr := fld (c.w 6) 10 0 } →
      g.prio ≤ 5 → g.struct ≠ 3 → g.depth ≠ 3 → (g.struct ≠ 2 → 1 ≤ g.refs ∧ g.refs ≤ 4) → (g.codec = 1 → g.depth ≠ 2) →
      8 ≤ g.width → g.width ≤ 16384 → g.width % 8 = 0 → 8 ≤ g.height → g.height ≤ 16384 → g.height % 8 = 0 → g.fnum ≠ 0 →
      g.fden ≠ 0 → g.gdr ≠ 1 → g.gdr ≤ 1024 →
      (∀ l, (s.ch ch).lay = some l → l.mx ≤ g.ctuCols ∧ l.my ≤ g.ctuRows ∧
        ∃ k < 20, (l.cols = 0 ∨ l.cols = k + 1) ∧ levelOk g l (k + 1) = true) →
      (∀ r ∈ (s.ch ch).regions, r.x + r.w ≤ g.width ∧ r.y + r.h ≤ g.height) →
      u = ((s.onCh ch fun h => { h with cfg := some g }).setStreams ch).reserveLines ch → u.buffersOk = true →
      u.settle.host.lenient = false → u.settle.admission false [ch] = none →
      Answers (.chConfig c) c 0x0400 s .ok
        [Config.profileIdc (profileIndex g), mUnits (u.settle.ch ch).load] u.settle.capacityCheck)
  ∧ (∀ mx my m want g first (l : Layout) (u : State), Solo c 1 s → 3 ≤ s.pw.st → Clear c [(2, msk 15 0)] → s.runs ch = false →
      mx = fld (c.w 2) 5 4 + 1 → my = fld (c.w 2) 7 6 + 1 → m = fld (c.w 2) 10 8 + 1 → want = fld (c.w 2) 15 11 → want ≤ 20 →
      mx * my * m ≤ 32 → (s.ch ch).cfg = some g →
      (s.enc.streams.filter fun t => t.used && t.chan != ch).length + mx * my * m ≤ 32 →
      s.freeRun ch (mx * my * m) = some first → mx ≤ g.ctuCols → my ≤ g.ctuRows → l = ⟨mx, my, m, want, want, first⟩ →
      (want = 0 → ∃ k < 20, levelOk g l (k + 1) = true) → (want ≠ 0 → levelOk g l want = true) →
      u = (s.onCh ch fun h => { h with lay := some l }).setStreams ch → u.settle.host.lenient = false →
      u.settle.admission true [ch] = none →
      ∃ ws : List Nat, Answers (.chLayout c) c 0x0401 s .ok ws
          (if (u.settle.maxTaskTime ch).isNone then u.settle.drawn else u.settle) ∧ ws.length = 6
        ∧ ws.getD 0 0 = first + mx * my * m * 256 ∧ (want ≠ 0 → ws.getD 1 0 = (u.settle.ch ch).tileCols))
  ∧ (∀ (u : State), Solo c 2 s → Clear c [(2, msk 5 0)] → s.runs ch = false → fld (c.w 2) 5 4 ≠ 3 →
      u = s.onCh ch (fun h => { h with delay := (c.w 3).toNat, reserve := fld (c.w 2) 5 4 }) → u.settle.host.lenient = false →
      u.settle.admission false [ch] = none →
      ∃ d, Answers (.chDelay c) c 0x0402 s .ok [d]
          (if (c.w 3).toNat = 0 ∧ (u.settle.minDelay ch ((u.settle.ch ch).wantsX (s.twin.role != 0))).isNone then u.settle.drawn
            else u.settle)
        ∧ ((c.w 3).toNat ≠ 0 → d = (c.w 3).toNat)
        ∧ (∀ m, u.settle.minDelay ch ((u.settle.ch ch).wantsX (s.twin.role != 0)) = some m → (c.w 3).toNat = 0 → d = nsUp m))
  ∧ (∀ u, Solo c 1 s → 3 ≤ s.pw.st → Clear c [(2, msk 3 0)] → s.settle.startAt ch (s.now + 100 * usU) = .ok u →
      Answers (.chStart c) c 0x0403 s .accepted [] (u.start 0x0403 c.tag ch))
  ∧ (Solo c 1 s → Clear c [(2, msk 3 0)] → (s.ch ch).st ≠ 0 → (s.ch ch).last = none →
      Answers (.chStop c) c 0x0404 s .accepted []
        ((s.onCh ch fun h => { h with
          last := some (s.frameAfter ch (s.now + 30 * usU) 4096 (s.ch ch).nextFrame) }).start 0x0404 c.tag ch))
  ∧ (Solo c 1 s → Clear c [(2, msk 3 0)] →
      Answers (.chQuery c) c 0x0405 s .ok
        [if (s.ch ch).cfg = none then 0 else if (s.ch ch).st = 0 then 1 else 2, (s.ch ch).coded % 4294967296, (s.ch ch).guarded,
          (s.ch ch).underrun, nsUp (s.ch ch).d, ((s.ch ch).frame.map (s.ch ch).gdrPos).getD 0] s)
  ∧ (∀ g f, Solo c 1 s → Clear c [(2, msk 4 0)] → s.runs ch = true → (s.ch ch).cfg = some g →
      (bit (c.w 2) 4 = true → g.codec ≠ 1) → f = s.frameAfter ch (s.now + 30 * usU) 4096 (s.ch ch).nextFrame →
      (g.struct ≠ 2 → Answers (.chRefresh c) c 0x0406 s .ok [f]
        (s.onCh ch fun h => { h with refreshes := h.refreshes ++ [(f, bit (c.w 2) 4)] }))
      ∧ (g.struct = 2 → Answers (.chRefresh c) c 0x0406 s .ok [f] s))
  ∧ (∀ (r : Rect) (u : State), Solo c 3 s → Clear c [(2, msk 8 8 + msk 5 0)] → s.runs ch = false →
      r = ⟨fld (c.w 3) 15 0, fld (c.w 3) 31 16, fld (c.w 4) 15 0, fld (c.w 4) 31 16⟩ →
      (bit (c.w 2) 8 = true → r.x % 8 = 0 ∧ r.y % 8 = 0 ∧ r.w % 8 = 0 ∧ r.h % 8 = 0 ∧ r.w ≠ 0 ∧ r.h ≠ 0 ∧
        ∀ g, (s.ch ch).cfg = some g → r.x + r.w ≤ g.width ∧ r.y + r.h ≤ g.height) →
      u = s.onCh ch (fun h => { h with
        lossless := upd h.lossless (fld (c.w 2) 5 4) fun _ => if bit (c.w 2) 8 then some r else none }) →
      u.settle.host.lenient = false → u.settle.admission false [ch] = none →
      Answers (.losslessConfig c) c 0x0410 s .ok [mUnits (u.settle.ch ch).load] u.settle.capacityCheck)
  ∧ (Solo c 8 s → Clear c [(2, msk 13 8 + msk 3 0)] → s.runs ch = false →
      Answers (.seiConfig c) c 0x0420 s .ok []
        (s.onCh ch fun h => { h with
          sei := { hash := bit (c.w 2) 8, timecode := bit (c.w 2) 9, camera := bit (c.w 2) 10, mdcv := bit (c.w 2) 11
                   cll := bit (c.w 2) 12, record := bit (c.w 2) 13
                   words := [c.w 3, c.w 4, c.w 5, c.w 6, c.w 7, c.w 8, c.w 9] } }))
  ∧ (Solo c 1 s → Clear c [(2, msk 16 0)] → s.enc.engines.length = 16 →
      (bit (c.w 2) 16 = true → ∃ t, Answers (.engControl c) c 0x0430 s .ok [t.serviceMask] t
        ∧ ∀ e < 16, bit (c.w 2) e = true → (tab t.enc.engines e).service = true)
      ∧ (bit (c.w 2) 16 = false →
        s.totalLoad.le ⟨((bitsOf s.serviceMask 16).filter fun i => !nbit (fld (c.w 2) 15 0) i).length * 1000000000, 1⟩ = true →
        ∃ t, Answers (.engControl c) c 0x0430 s .ok [t.serviceMask] t
          ∧ ∀ e < 16, bit (c.w 2) e = true → (tab t.enc.engines e).service = false))

/-- Group 0x05, in a state in which nothing holds the command back and no running channel or group asks for STAGE. RC_CONFIG of a
channel with a layout sets its rate control and answers R_h, M and the floor (R247, R249); RC_QUERY answers a stream of it, QP a
free value; RC_BIND binds a dipper whose cycles suffice (R269, R281); CLRC_CONFIG sets the exchange (R272); GROUP_CONFIG sets a
sharing group, GROUP_MEMBER takes a stream out of one or into one (R265). -/
def Obligations.RateCommandsComplete : Prop := ∀ (c : Vx) (s : State),
  (∀ ch (r : RcCfg) g tr m (h' : Ch), Solo c 5 s → Clear c [(2, msk 25 16 + msk 5 0), (5, msk 23 0), (6, msk 13 0)] →
      fld (c.w 2) 3 0 = ch → s.runs ch = false →
      r = { mode := fld (c.w 2) 5 4, headroom := fld (c.w 2) 25 16, rate := (c.w 3).toNat, rateMax := (c.w 4).toNat
            qpCq := fld (c.w 5) 23 16, qpMax := fld (c.w 5) 15 8, qpMin := fld (c.w 5) 7 0, window := fld (c.w 6) 13 0 } →
      (s.ch ch).cfg = some g → (s.ch ch).lay.isSome = true → s.tRow ch = some tr → r.mode ≠ 3 → r.headroom ≤ 250 →
      m = (if r.qpMax = 0 then defaultQpMax g.codec else r.qpMax) → (if g.codec = 0 then 40 else 50) ≤ m →
      m ≤ defaultQpMax g.codec → r.qpMin ≤ m → r.qpCq ≤ m → (r.window = 0 ∨ 100 ≤ r.window ∧ r.window ≤ 10000) →
      h' = { s.ch ch with rc := some r } →
      ((s.chStreams ch).map fun p => h'.rhK g r p.2 tr).foldl max 0 ≤ Config.levelMaxRate g.codec g.tier (profileIndex g) →
      h'.maxSize g r ≤ Config.levelMaxCpb g.codec g.tier (profileIndex g) → (∀ p ∈ s.chStreams ch, h'.floorOver g r p.2 = false) →
      ∃ floor, Answers (.rcConfig c) c 0x0500 s .ok
        [((s.chStreams ch).map fun p => h'.rhK g r p.2 tr).foldl max 0, h'.maxSize g r, floor]
        (s.setRc ch fun h => { h with rcNext := some r }))
  ∧ (∀ ch i g r l, Solo c 1 s → Clear c [(2, msk 8 0)] → fld (c.w 2) 3 0 = ch → fld (c.w 2) 8 4 = i →
      (s.ch ch).cfg = some g → (s.ch ch).rc = some r → (s.ch ch).lay = some l → i < l.count →
      ∃ k q f, Answers (.rcQuery c) c 0x0501 s .ok
        [r.mode, (s.strm (l.first + i)).lastSize, k, (s.strm (l.first + i)).reservePics, (s.strm (l.first + i)).fallbacks, f, q,
          if (s.strm (l.first + i)).rate = 0 then r.rate else (s.strm (l.first + i)).rate] s.drawn
        ∧ (r.mode = 0 → k = (wInt (s.strm (l.first + i)).carry).toNat))
  ∧ (∀ ch (b : RcBind) (u : State), Solo c 1 s → Clear c [(2, msk 21 16 + msk 8 8 + msk 5 0)] → fld (c.w 2) 3 0 = ch →
      s.runs ch = false → b = ⟨fld (c.w 2) 5 4, bit (c.w 2) 8, fld (c.w 2) 21 16⟩ →
      (b.user = true → ((s.dp b.dipper).progs.any fun p => p.num == b.program && p.kind == 0) = true
        ∧ (s.dp b.dipper).windowFits ch b.program = true) →
      u = s.onCh ch (fun h => { h with bind := some b }) →
      u.dipperFits (ch :: (s.servedBy b.dipper).filter fun k => k != ch) = true →
      ∃ load, Answers (.rcBind c) c 0x0502 s .ok [load] (s.setRc ch fun h => { h with bindNext := some b }))
  ∧ (∀ ch, Solo c 2 s → Clear c [(2, msk 27 16 + msk 5 0), (3, msk 7 0)] → fld (c.w 2) 3 0 = ch → s.runs ch = false →
      fld (c.w 2) 5 4 ≠ 3 → (fld (c.w 2) 5 4 = 1 → ∀ t, s.tRow ch = some t → t.lt ⟨50 * usU, 1⟩ = false) →
      Answers (.clrcConfig c) c 0x0520 s .ok []
        (s.setRc ch fun h => { h with clrcNext := some (fld (c.w 2) 5 4, fld (c.w 2) 27 16, fld (c.w 3) 7 0) }))
  ∧ (∀ i (n : Group), Solo c 2 s → Clear c [(2, msk 8 0)] → fld (c.w 2) 2 0 = i →
      (tab s.enc.groups i).seen.affects s = false → 1 ≤ fld (c.w 2) 8 4 → fld (c.w 2) 8 4 ≤ 20 →
      n = { (tab s.enc.groups i).seen with on := bit (c.w 2) 3, period := fld (c.w 2) 8 4, rate := (c.w 3).toNat } →
      sumNat (n.members.map fun m => m.2.2.1) ≤ n.rate →
      Answers (.groupConfig c) c 0x0510 s .ok []
        (s.onEnc fun e => { e with groups := upd e.groups i fun g => g.put n false }))
  ∧ (∀ i st (old : Group) rest, Solo c 3 s → Clear c [(2, msk 15 12 + msk 8 0)] → fld (c.w 2) 2 0 = i → fld (c.w 2) 7 3 = st →
      old = (tab s.enc.groups i).seen → rest = old.members.filter (fun m => m.1 != st) → old.affects s = false →
      s.streamRuns st = false →
      (bit (c.w 2) 8 = false → rest.length ≠ old.members.length →
        Answers (.groupMember c) c 0x0511 s .ok [rest.length]
          (s.onEnc fun e => { e with groups := upd e.groups i fun g => g.put { old with members := rest } false }))
      ∧ (∀ r (n : Group), bit (c.w 2) 8 = true → 1 ≤ fld (c.w 2) 15 12 → (s.strm st).used = true →
        (s.ch (s.strm st).chan).rc = some r → r.mode = 1 → (c.w 4).toNat ≤ r.rateMax → (c.w 3).toNat ≤ (c.w 4).toNat →
        (∀ k < 8, k ≠ i → ∀ m ∈ (tab s.enc.groups k).seen.members, m.1 ≠ st) →
        n = { old with members := rest ++ [(st, fld (c.w 2) 15 12, (c.w 3).toNat, (c.w 4).toNat)] } →
        sumNat (n.members.map fun m => m.2.2.1) ≤ n.rate →
        Answers (.groupMember c) c 0x0511 s .ok [n.members.length]
          (s.onEnc fun e => { e with groups := upd e.groups i fun g => g.put n (n.affects s) })))

/-- Groups 0x06 and 0x07, in a state in which nothing holds the command back and no running channel asks for STAGE (R64, R309).
DS_WELLS sets the capacities of a class that fit the pool (R285, R307); DS_FLOW_ALLOC allocates the lowest free flow (log entry 21),
DS_FLOW_FREE frees one of the host that holds no task, DS_FLOW_QUERY shows one (R293 to R298); DS_DELAY_CONFIG sets a list's tick
(R299); DS_SUBMIT accepts a pump task of the host into Dispatch or a delay list (R287, R300, R305); DS_CANCEL cancels it or all of
a flow (R303). -/
def Obligations.DispatchCommandsComplete : Prop := ∀ (c : Vx) (s : State),
  (∀ (cls : Nat) (caps : List Nat) (u : State), Solo c 5 s →
      Clear c [(2, msk 1 0), (3, msk 28 16 + msk 12 0), (4, msk 28 16 + msk 12 0), (5, msk 28 16 + msk 12 0),
        (6, msk 28 16 + msk 12 0)] → s.anyRuns = false → fld (c.w 2) 1 0 = cls →
      caps = [fld (c.w 3) 12 0, fld (c.w 3) 28 16, fld (c.w 4) 12 0, fld (c.w 4) 28 16, fld (c.w 5) 12 0, fld (c.w 5) 28 16,
        fld (c.w 6) 12 0, fld (c.w 6) 28 16] → fld (c.w 6) 28 16 ≠ 0 →
      u = s.onDs (fun d => { d with
        caps := (List.range 32).map fun i => if i / 8 = cls then caps.getD (i % 8) 0 else tab d.caps i }) →
      u.ds.assigned ≤ 4096 → (cls = 0 → u.codingWellsOk = true) →
      (cls = 1 → u.decodeWellsOk = true) →
      Answers (.dsWells c) c 0x0600 s .ok [u.ds.assigned] ((List.range 8).foldl (fun s p => s.thresholds (8 * cls + p)) u))
  ∧ (∀ i win, Solo c 1 s → Clear c [(2, msk 14 8 + msk 4 4 + msk 1 0)] → fld (c.w 2) 14 8 = win →
      (bit (c.w 2) 4 = true → 1 ≤ win ∧ win ≤ 64) → lowestFree (s.ds.flows.map (·.1)) 1024 = some i →
      Answers (.dsFlowAlloc c) c 0x0601 s .ok [i]
        (s.onDs fun d => { d with
          flows := d.flows ++
            [(i, ⟨fld (c.w 2) 1 0, bit (c.w 2) 4, if bit (c.w 2) 4 then win else 1, true, 0, s.clk + 1, []⟩)] }))
  ∧ (∀ i f, Solo c 1 s → Clear c [(2, msk 9 0)] → fld (c.w 2) 9 0 = i → alookup s.ds.flows i = some f → f.host = true →
      s.ds.flowEnts i = [] → s.ds.flowDelays i = [] →
      Answers (.dsFlowFree c) c 0x0602 s .ok [] (s.onDs fun d => { d with flows := adel d.flows i }))
  ∧ (∀ i, Solo c 1 s → Clear c [(2, msk 9 0)] → fld (c.w 2) 9 0 = i →
      (alookup s.ds.flows i = none → Answers (.dsFlowQuery c) c 0x0603 s .ok [0, 0, 0, 0, 0] s)
      ∧ (∀ f, alookup s.ds.flows i = some f →
        Answers (.dsFlowQuery c) c 0x0603 s .ok
          [1 + 2 * b01 f.ordered + 256 * f.window, ((s.ds.flowEnts i).filter fun e => e.st == 0).length,
            ((s.ds.flowEnts i).filter fun e => e.st == 1).length, ((s.ds.flowEnts i).filter fun e => e.st == 2).length,
            f.done.toNat] s))
  ∧ (∀ l tick, Solo c 1 s → Clear c [(2, msk 25 16 + msk 1 0)] → fld (c.w 2) 1 0 = l → l ≠ 0 → fld (c.w 2) 25 16 = tick →
      1 ≤ tick → tick ≤ 1000 → delayNeedStage c s = false →
      Answers (.dsDelayConfig c) c 0x0608 s .ok []
        (s.onDs fun d => { d with
          delays := d.delays.map fun e => if e.list = l && !e.gone then
            { e with r := ceilDiv (d.dueTime s.now e) (tick * 100 * nsU) % 4294967296 } else e
          ticks := upd d.ticks l fun _ => tick }))
  ∧ (∀ (d : Desc) (p : PumpRec), Solo c 14 s → p = pumpOf c 8 → d = descOf c 2 s.now p → d.type = 8 → d.cls = 3 → d.prio ≤ 6 →
      Clear c [(2, 0xFFFFFFFF - msk 5 0), (3, 0), (6, msk 31 31 + msk 1 0), (8, msk 31 20), (10, msk 7 0), (12, msk 7 0),
        (13, msk 23 0), (14, msk 15 0)] → (c.w 4).toNat < 1000000000 → (d.pin = true → d.unit < 12) →
      (d.flowed = true → ∃ f, alookup s.ds.flows d.flow = some f ∧ f.cls = 3) → 32 ≤ p.lineBytes → p.lineBytes % 32 = 0 →
      p.lines ≠ 0 → s.pumpCtxOk p = true →
      (bit (c.w 6) 31 = false → s.ds.hasCredit d = true →
        ∃ w, Answers (.dsSubmit c) c 0x0610 s .accepted [w]
          ((s.accept 12 d (some s.ds.next) none).start 0x0610 c.tag s.ds.next))
      ∧ (∀ l i g (e : DelayEnt), bit (c.w 6) 31 = true → fld (c.w 6) 1 0 = l →
        lowestFree ((s.ds.delays.filter fun x => x.list == l).map (·.idx)) 1024 = some i →
        g = ((alookup s.ds.delayGens (1024 * l + i)).map fun x => x + 1).getD 0 % 8 →
        e = ⟨l, i, g, s.ds.next, (c.w 7).toNat, d, some s.ds.next, false, false⟩ →
        Answers (.dsSubmit c) c 0x0610 s .accepted [32768 + g * 4096 + 1024 * l + i]
          (((s.onDs fun x => { x with
            delays := x.delays ++ [e], delayGens := aset x.delayGens (1024 * l + i) g, next := x.next + 1 }).trace 7 12 d).start
              0x0610 c.tag s.ds.next)))
  ∧ (Solo c 1 s → Clear c [(2, msk 31 31 + msk 25 16 + msk 15 0)] →
      (∀ f i l m, bit (c.w 2) 31 = true → fld (c.w 2) 25 16 = i → alookup s.ds.flows i = some f → f.host = true →
        l = (s.ds.flowEnts i).filter (fun e => e.cancellable s.clk) → m = s.ds.flowDelays i →
        Answers (.dsCancel c) c 0x0611 s .ok [l.length + m.length] (m.foldl State.cancelDelay (l.foldl State.cancelEnt s)))
      ∧ (∀ e : DelayEnt, bit (c.w 2) 31 = false →
        s.ds.delays.find? (fun x => x.handle == fld (c.w 2) 15 0 && !x.gone) = some e → e.host.isSome = true →
        Answers (.dsCancel c) c 0x0611 s .ok [1]
          (((s.onDs fun d => { d with delays := d.delays.filter fun x => x.key != e.key }).trace 5 0x3F e.desc).hostDone e.host
            .cancelled))
      ∧ (∀ e : Ent, bit (c.w 2) 31 = false →
        s.ds.delays.find? (fun x => x.handle == fld (c.w 2) 15 0 && !x.gone) = none →
        (match s.ds.delays.find? (fun x => x.handle == fld (c.w 2) 15 0 && x.gone) with
          | none => s.ds.pool.find? (fun (x : Ent) => x.handle == fld (c.w 2) 15 0)
          | some d => s.ds.pool.find? (fun (x : Ent) => x.delayIdx == some (1024 * d.list + d.idx))) = some e →
        e.host.isSome = true → e.cancellable s.clk = true → Answers (.dsCancel c) c 0x0611 s .ok [1] (s.cancelEnt e)))

/-- Group 0x07, in a state in which nothing holds the command back. DIP_IMAGE_WRITE puts words into the staging buffer while no
load runs (R330); DIP_LOAD starts the load of a program of the host's (R331); DIP_UNLOAD removes one that nothing binds
(R332); DIP_QUERY and DIP_PROG_QUERY answer, of the module's own programs with free values; DIP_HOOK binds a packaging program to a
stream from its next picture (R323). -/
def Obligations.DipperCommandsComplete : Prop := ∀ (c : Vx) (s : State),
  (∀ first n, Solo c 1 s → Clear c [(2, msk 10 0)] → fld (c.w 2) 10 0 = first → n = min 13 (c.len - 1) → first + n ≤ 1542 →
      s.dip.load = none →
      Answers (.dipImageWrite c) c 0x0700 s .ok []
        (s.onDip fun x => { x with staging := (List.range n).foldl (fun l k => aset l (first + k) (c.w (3 + k))) x.staging }))
  ∧ (∀ d num words, Solo c 1 s → Clear c [(2, msk 26 16 + msk 13 8 + msk 2 0)] → fld (c.w 2) 2 0 = d → d ≠ 7 →
      fld (c.w 2) 13 8 = num → (d < 6 → 16 ≤ num) → fld (c.w 2) 26 16 = words → words ≤ 1542 → s.dip.load = none →
      (∀ p ∈ (s.dp d).progs, p.num ≠ num) →
      Answers (.dipLoad c) c 0x0701 s .accepted []
        ((s.onDip fun x => { x with load := some ⟨d, num, words, s.clk⟩ }).start 0x0701 c.tag 0))
  ∧ (∀ d num, Solo c 1 s → Clear c [(2, msk 13 8 + msk 2 0)] → fld (c.w 2) 2 0 = d → fld (c.w 2) 13 8 = num →
      (∃ p ∈ (s.dp d).progs, p.num = num) → s.bindings d num = 0 → d < 8 → s.dip.dips.length = 8 →
      ∃ n t, Answers (.dipUnload c) c 0x0702 s .ok [n] t
        ∧ (d ≠ 6 → (t.dp d).progs = (s.dp d).progs.filter (fun p => p.num != num))
        ∧ (∀ k < 8, k ≠ d → (t.dp k).progs = (s.dp k).progs))
  ∧ (∀ d, Solo c 1 s → Clear c [(2, msk 2 0)] → fld (c.w 2) 2 0 = d →
      (d ≠ 7 → ∃ load, Answers (.dipQuery c) c 0x0703 s .ok
        [(s.dp d).freeWords d, (s.dp d).freeData, (s.dp d).runs.toNat, (s.dp d).watchdogs, load] s)
      ∧ (d = 7 → ∃ runs load, Answers (.dipQuery c) c 0x0703 s .ok
        [(s.dp d).freeWords d, (s.dp d).freeData, runs, (s.dp d).watchdogs, load] s.drawn))
  ∧ (∀ d num, Solo c 1 s → Clear c [(2, msk 13 8 + msk 2 0)] → fld (c.w 2) 2 0 = d → fld (c.w 2) 13 8 = num →
      (d < 6 → num < 16 → ∃ ws : List Nat, Answers (.dipProgQuery c) c 0x0704 s .ok ws s.drawn ∧ ws.length = 6 ∧ ws.getD 0 0 < 2)
      ∧ (∀ p, (d < 6 → 16 ≤ num) → (s.dp d).progs.find? (fun p => p.num == num) = some p →
        Answers (.dipProgQuery c) c 0x0704 s .ok ([if p.disabled then 2 else 1] ++ p.bounds ++ [s.bindings d num]) s)
      ∧ ((d < 6 → 16 ≤ num) → (s.dp d).progs.find? (fun p => p.num == num) = none →
        Answers (.dipProgQuery c) c 0x0704 s .ok [0, 0, 0, 0, 0, 0] s))
  ∧ (∀ i num d, Solo c 1 s → Clear c [(2, msk 16 16 + msk 13 8 + msk 4 0)] → fld (c.w 2) 4 0 = i → fld (c.w 2) 13 8 = num →
      s.dip.dips.length = 8 → s.streamRuns i = false → (s.pv i).dipper = some d → (∃ p ∈ (s.dp d).progs, p.num = num ∧ p.kind = 1) →
      (bit (c.w 2) 16 = true → (s.dp d).windowFits i num = true) →
      Answers (.dipHook c) c 0x0710 s .ok []
        ((if bit (c.w 2) 16 then s.openWindow d i num else s.closeWindow d i num).onDip fun x => { x with
          hooks := (i, 0, if bit (c.w 2) 16 then some num else none) :: x.hooks.filter fun h => h.1 != i }))

/-- Group 0x08, in a state in which nothing holds the command back. SELFCHECK_CONFIG switches a stopped channel's self-check
where the decode engines carry it (R335, R362); SELFCHECK_QUERY; FEED_CONFIG disables a feed that no layer shows, or
enables one within the limits, which then waits (R349, R352); FEED_QUERY; FEED_CLEAR clears the counters. -/
def Obligations.DecoderCommandsComplete : Prop := ∀ (c : Vx) (s : State),
  (∀ ch (u : State), Solo c 1 s → Clear c [(2, msk 9 8 + msk 3 0)] → fld (c.w 2) 3 0 = ch → s.runs ch = false →
      u = s.onDec (fun d => { d with
        checks := upd d.checks ch fun x => { x with on := bit (c.w 2) 8, refresh := bit (c.w 2) 9, next := none } }) →
      u.decodeOk = true → u.decodeWellsOk = true → ∃ left, Answers (.selfcheckConfig c) c 0x0800 s .ok [left] u)
  ∧ (∀ i l x, Solo c 1 s → Clear c [(2, msk 8 0)] → fld (c.w 2) 8 4 = i → (s.ch (fld (c.w 2) 3 0)).lay = some l → i < l.count →
      x = s.chk (l.first + i) →
      Answers (.selfcheckQuery c) c 0x0801 s .ok
        [x.st, x.compared.toNat, x.mismatches.toNat, x.cancelled.toNat, x.lastFrame % 4294967296] s)
  ∧ (∀ i, Solo c 9 s → Clear c [(2, msk 19 11 + msk 3 0), (10, msk 7 0)] → fld (c.w 2) 2 0 = i → s.feedLayers i = [] →
      (∀ n, bit (c.w 2) 3 = false → (s.rf i).st ≠ 0 → (s.rf i).flow = some n →
        Answers (.feedConfig c) c 0x0810 s .ok [0]
          ((((s.onDs fun d => { d with flows := adel d.flows n }).setFeed i 0).causeOff 0x08 0x09 i).onFeed i fun _ => {}))
      ∧ (∀ n (f : Feed), bit (c.w 2) 3 = true → 3 ≤ s.pw.st → i < 8 → s.dec.feeds.length = 8 → 1 ≤ fld (c.w 2) 19 17 →
        fld (c.w 2) 19 17 ≤ 5 → fld (c.w 2) 15 14 ≠ 3 →
        (fld (c.w 3) 31 16 = 0 ∨ 10 ≤ fld (c.w 3) 31 16 ∧ fld (c.w 3) 31 16 ≤ 10000) →
        64 ≤ fld (c.w 8) 31 16 → fld (c.w 8) 31 16 ≤ 8192 → 64 ≤ fld (c.w 8) 15 0 → fld (c.w 8) 15 0 ≤ 8192 →
        1 ≤ (c.w 9).toNat → (c.w 9).toNat ≤ 1500 → 2 ≤ fld (c.w 10) 7 4 → 3 ≤ fld (c.w 10) 3 0 → fld (c.w 10) 3 0 ≤ 8 →
        f = { st := 1, prio := fld (c.w 2) 19 17, earlyOut := bit (c.w 2) 16, encap := fld (c.w 2) 15 14
              port := fld (c.w 2) 13 12, ipv6 := bit (c.w 2) 11
              addr := if bit (c.w 2) 11 then [c.w 4, c.w 5, c.w 6, c.w 7] else [c.w 7], udp := fld (c.w 3) 15 0
              timeout := if fld (c.w 3) 31 16 = 0 then 100 else fld (c.w 3) 31 16, maxW := fld (c.w 8) 15 0
              maxH := fld (c.w 8) 31 16, rate := (c.w 9).toNat, dpb := fld (c.w 10) 7 4, frames := fld (c.w 10) 3 0
              flow := (s.rf i).flow, heard := s.clk, bufs := List.replicate (fld (c.w 10) 3 0) {} } →
        (s.onFeed i fun _ => f).decodeOk = true → (s.rf i).flow = none → (s.rf i).st = 0 →
        lowestFree (s.ds.flows.map (·.1)) 1024 = some n →
        ∃ w t, Answers (.feedConfig c) c 0x0810 s .ok [w] t ∧ t.rf i = { f with flow := some n } ∧ t.now = s.now
          ∧ t.enc = s.enc ∧ t.net = s.net))
  ∧ (∀ f, Solo c 1 s → Clear c [(2, msk 2 0)] → f = s.rf (fld (c.w 2) 2 0) →
      ∃ m, Answers (.feedQuery c) c 0x0811 s .ok
        [f.st, f.h * 65536 + f.w, f.profile, f.lost.toNat, f.concealed.toNat, f.subst.toNat, f.output.toNat, m] s)
  ∧ (Solo c 1 s → Clear c [(2, msk 2 0)] →
      Answers (.feedClear c) c 0x0812 s .ok []
        (s.onFeed (fld (c.w 2) 2 0) fun f => { f with lost := 0, concealed := 0, subst := 0, output := 0 }))

/-- Groups 0x09 and 0x0A, in a state in which nothing holds the command back. AUD_CONFIG releases a port that no stream carries, or
configures one within the limits of R364 and R376; AUD_QUERY answers it, unmeasured values free; AUD_CLEAR (R381); PKG_STREAM sets a
video stream's packaging where the configuration is admitted (R383 to R388); PKG_TEMPLATE sets a template that no other path
shares (R384); PKG_AUDIO ends or starts an audio stream (R389 to R394); PKG_QUERY (R408). -/
def Obligations.AudioAndPackagingCommandsComplete : Prop := ∀ (c : Vx) (s : State),
  (∀ p, Solo c 3 s → Clear c [(2, msk 26 8 + msk 2 0), (4, msk 12 0)] → fld (c.w 2) 1 0 = p → s.audioCarried p = false →
      (bit (c.w 2) 2 = false → Answers (.audConfig c) c 0x0900 s .ok [0, 0, 0, 0] ((s.audioOff p).onAp p fun _ => {}))
      ∧ (∀ (g g' : AudCfg) (n : Nat) (u : State), bit (c.w 2) 2 = true → 3 ≤ s.pw.st →
        g = { leader := bit (c.w 2) 8, tdm := bit (c.w 2) 9, slots := fld (c.w 2) 11 10, slotBits := fld (c.w 2) 13 12
              bits24 := bit (c.w 2) 14, delay1 := bit (c.w 2) 15, edge := bit (c.w 2) 16, fsPol := bit (c.w 2) 17
              channels := fld (c.w 2) 21 18, mediaFs := fld (c.w 2) 23 22, portFs := fld (c.w 2) 25 24, mclk := bit (c.w 2) 26
              trim := (c.w 3).toNat, blocks := fld (c.w 4) 12 0 } →
        g.mediaFs ≠ 3 → (g.leader = true → g.portFs ≠ 3) → g.slotBits ≠ 3 →
        (g.tdm = false → g.slotBits = 2 ∧ g.slots = 0) → g.nChan ≤ g.nSlots → (g.bits24 = true → 24 ≤ g.nBits) →
        g.frameBits * g.nominal ≤ 24576000 → g.trim ≤ 10000000 → g.blocks ≤ 4096 → (g.blocks = 0 ∨ g.minBlocks ≤ g.blocks) →
        g' = { g with blocks := if g.blocks = 0 then g.minBlocks else g.blocks } → (s.ap p).st = 0 →
        n = mediaIndex g'.fs s.now →
        u = (s.onAp p (fun _ => { cfg := g', st := if g'.leader then 3 else 1, last := s.raw, update := s.clk + 100 * msC, next := n
                                  drive := mediaIndex (fsOf g'.portFs) s.now })).onPkg (fun k =>
          { k with audio := k.audio.map fun x => if x.port = p then { x with next := none } else x }) →
        u.memoryOk = true →
        Answers (.audConfig c) c 0x0900 s .ok ([g'.blocks] ++ lowHigh (audioBase p) ++ [g'.blockBytes]) (u.audioOff p)))
  ∧ (∀ p, Solo c 1 s → Clear c [(2, msk 1 0)] → fld (c.w 2) 1 0 = p →
      ∃ rate q i, Answers (.audQuery c) c 0x0901 s .ok
          [(s.ap p).st, rate, q, (s.ap p).received.toNat, (s.ap p).discarded.toNat, (s.ap p).silent.toNat, i] s.drawn
        ∧ (∀ r, (s.ap p).rate = some r → rate = r) ∧ ((s.ap p).wrote = true → i = ((s.ap p).next - 1) % 4294967296))
  ∧ (Solo c 1 s → Clear c [(2, msk 1 0)] →
      Answers (.audClear c) c 0x0902 s .ok [] (s.onAp (fld (c.w 2) 1 0) Aud.clear))
  ∧ (∀ (i f udp pts : Nat) (auds : List (Nat × Nat)) (u : State), Solo c 8 s →
      Clear c [(2, 0xFFFFFFFF - msk 11 5), (7, msk 31 16)] → fld (c.w 2) 4 0 = i → s.streamRuns i = false →
      fld (c.w 2) 13 12 = f → f ≠ 3 → fld (c.w 2) 31 28 ≠ 15 → fld (c.w 2) 27 24 ≠ 15 → (f ≠ 2 → 96 ≤ fld (c.w 2) 23 17) →
      udp = (if fld (c.w 4) 15 0 = 0 then 1460 else fld (c.w 4) 15 0) → 512 ≤ udp → udp ≤ 8960 →
      (f = 1 → bit (c.w 2) 15 = false → udp ≤ 1460) →
      auds = [(fld (c.w 9) 15 13, fld (c.w 9) 12 0), (fld (c.w 9) 31 29, fld (c.w 9) 28 16)].filter (fun a => a.2 != 0) →
      (f = 2 → 0x20 ≤ fld (c.w 6) 31 16 ∧ fld (c.w 6) 31 16 ≤ 0x1FFE ∧ 0x20 ≤ fld (c.w 6) 15 0 ∧ fld (c.w 6) 15 0 ≤ 0x1FFE
        ∧ ∀ a ∈ auds, 0x20 ≤ a.2 ∧ a.2 ≤ 0x1FFE) → (c.w 8).toNat = pts →
      (f = 2 → pts = 0 ∨ s.minPts i auds ≤ pts) → sameDest (bit (c.w 2) 14) (s.pv i).tmpl = false →
      u = s.onPv i (fun v => { v with
        set := true, tcId := fld (c.w 2) 31 28, hookId := fld (c.w 2) 27 24, pt := if f = 2 then 33 else fld (c.w 2) 23 17
        csum := bit (c.w 2) 16, extended := bit (c.w 2) 15, dual := bit (c.w 2) 14, format := f, ssrc := c.w 3
        seq0 := fld (c.w 4) 31 16, maxUdp := udp, tcOffset := sgn32 (c.w 5).toNat, pmtPid := fld (c.w 6) 31 16
        videoPid := fld (c.w 6) 15 0, program := fld (c.w 7) 31 16
        ptsOffset := if pts = 0 then ceilDiv (s.minPts i auds) 1000000 * 1000000 else pts
        ptsAuto := pts == 0
        audio := if f = 2 then auds else [] }) →
      u.settle.host.lenient = false →
      u.settle.admission false (if (s.strm i).used then [(s.strm i).chan] else []) = none →
      Answers (.pkgStream c) c 0x0A00 s .ok [((u.settle.pv i).dipper).getD 0] u.settle)
  ∧ (∀ (i path : Nat) (t : Template), Solo c 14 s → Clear c [(2, 0xFFFFFFFF - msk 19 6), (3, 0xFFFFFFFF - msk 23 12)] →
      fld (c.w 2) 5 0 = i → i < 40 → fld (c.w 2) 20 20 = path → s.streamRuns i = false →
      t = ⟨(List.range 14).map fun k => c.w (2 + k)⟩ →
      (i < 32 → sameDest (s.pv i).dual ((s.pv i).tmpl.set path (some t)) = false →
        Answers (.pkgTemplate c) c 0x0A01 s .ok [] (s.onPv i fun v => { v with tmpl := v.tmpl.set path (some t) }))
      ∧ (32 ≤ i → sameDest (s.pa (i - 32)).dual ((s.pa (i - 32)).tmpl.set path (some t)) = false →
        Answers (.pkgTemplate c) c 0x0A01 s .ok [] (s.onPa (i - 32) fun v => { v with tmpl := v.tmpl.set path (some t) })))
  ∧ (∀ (a p ch pt udp least delay : Nat) (g : AudCfg) (u : State), Solo c 4 s → Clear c [(2, 0xFFFFFFFF - msk 4 3)] →
      fld (c.w 2) 2 0 = a → (s.pa a).on = false → fld (c.w 2) 7 6 = p → (s.ap p).cfg = g → least = g.trim + 2500000 →
      (bit (c.w 2) 5 = false →
        Answers (.pkgAudio c) c 0x0A02 s .ok [least] (s.onPa a fun x => { x with on := false, dipper := none }))
      ∧ (bit (c.w 2) 5 = true → ch = fld (c.w 2) 15 12 + 1 → pt = fld (c.w 2) 17 16 →
        (bit (c.w 2) 20 = true → g.mediaFs = 0 ∧ (ch = 2 ∨ ch = 4 ∨ ch = 6 ∨ ch = 8) ∧ bit (c.w 2) 18 = true ∧ pt = 3) →
        (s.ap p).st ≠ 0 → 96 ≤ fld (c.w 2) 31 25 → fld (c.w 2) 24 21 ≠ 15 → ptimeOk g.fs pt = true →
        fld (c.w 2) 11 8 + ch ≤ g.nChan → udp = (if fld (c.w 5) 15 0 = 0 then 1460 else fld (c.w 5) 15 0) → 512 ≤ udp →
        udp ≤ 8960 →
        (bit (c.w 2) 20 = false →
          ptimeFrames g.fs pt * ch * (if bit (c.w 2) 18 then 3 else 2) + 12 + (if fld (c.w 2) 24 21 = 0 then 0 else 8) ≤ udp) →
        delay = (if (c.w 4).toNat = 0 then least else (c.w 4).toNat) → least ≤ delay →
        delay * g.fs ≤ (g.blocks - 2) * 16 * 1000000000 → sameDest (bit (c.w 2) 19) (s.pa a).tmpl = false →
        u = (s.onPa a fun x => { x with
          on := true, pt := fld (c.w 2) 31 25, statusId := fld (c.w 2) 24 21, ts := bit (c.w 2) 20, dual := bit (c.w 2) 19
          l24 := bit (c.w 2) 18, ptime := pt, channels := ch, first := fld (c.w 2) 11 8, port := p, ssrc := c.w 3
          delay := delay, seq0 := fld (c.w 5) 31 16, maxUdp := udp, seq := if x.on then x.seq else fld (c.w 5) 31 16
          next := if x.on then x.next else none }).onPa a (fun x =>
            { x with dipper := some ((s.onPa a fun x => { x with on := false }).lowerDipper) }) →
        (∀ i, s.programOf a = some i → u.ptsOk i = true) → u.dippersOk = true →
        Answers (.pkgAudio c) c 0x0A02 s .ok [least] u))
  ∧ (∀ i bits, Solo c 1 s → Clear c [(2, msk 5 0)] → fld (c.w 2) 5 0 = i → i < 40 →
      bits = b01 (s.streamRuns i && s.onPath i 0 && (s.port 0).sends)
        + 2 * b01 (s.streamRuns i && s.onPath i 1 && (s.port 1).sends) →
      (i < 32 → Answers (.pkgQuery c) c 0x0A03 s .ok
        [(s.pv i).seq, (s.pv i).sent.toNat, (s.pv i).late.toNat, (s.pv i).resent.toNat, bits] s)
      ∧ (32 ≤ i → Answers (.pkgQuery c) c 0x0A03 s .ok
        [(s.pa (i - 32)).seq, (s.pa (i - 32)).sent.toNat, (s.pa (i - 32)).late.toNat, (s.pa (i - 32)).resent.toNat, bits] s))

/-- Groups 0x0B and 0x0C, in a state in which nothing holds the command back and no running stream, feed or lane in service asks
for STAGE. PORT_CONFIG of a port that carries nothing (R410, R418); PORT_QUERY; QUEUE_CONFIG sets a queue whose bursts carry its
largest frame, levels free (R419, R422; log entries 35, 43); QUEUE_QUERY; GATE_WRITE, GATE_SET and GATE_QUERY (R423 to R425);
POLICER_CONFIG, its level free (R416); PTP_CONFIG starts the clock anew (R431); PTP_QUERY; PTP_STEP_ANSWER to a step request
(R441); LANE_CONFIG, LANE_TX, LANE_QUERY, LANE_RETRAIN, LANE_IDLE of a lane that is not PCIe's (R448, R450, R458, R464). -/
def Obligations.NetworkAndLaneCommandsComplete : Prop := ∀ (c : Vx) (s : State),
  (∀ (p mac : Nat) (u : State), Solo c 8 s → Clear c [(2, msk 23 8 + msk 3 0 - msk 15 14), (4, msk 15 0)] →
      fld (c.w 2) 1 0 = p → s.portCarries p = false →
      (s.net.ptp.cfg.on = true → s.net.ptp.cfg.port = p → s.time.mode ≠ 2) →
      mac = (c.w 3).toNat + fld (c.w 4) 15 0 * 4294967296 →
      u = s.onPort p (fun x => { x with
        enable := bit (c.w 2) 2, fec := bit (c.w 2) 3, overhead := if fld (c.w 2) 13 8 = 0 then 20 else fld (c.w 2) 13 8
        slip := if fld (c.w 2) 23 16 = 0 then 1 else fld (c.w 2) 23 16, mac := if mac = 0 then none else some mac
        ipv4 := c.w 5, ipv6 := [c.w 6, c.w 7, c.w 8, c.w 9] }) →
      Answers (.portConfig c) c 0x0B00 s .ok [u.macOf p % 4294967296] u)
  ∧ (∀ p : Port, Solo c 1 s → Clear c [(2, msk 1 0)] → s.port (fld (c.w 2) 1 0) = p →
      Answers (.portQuery c) c 0x0B01 s .ok
        [b01 p.sends, p.sent.toNat, p.received.toNat, p.corrected.toNat, p.uncorrectable.toNat, p.unclassified.toNat,
          p.discarded.toNat, p.slips.toNat] s)
  ∧ (∀ q n, Solo c 5 s → Clear c [(2, msk 11 0)] → fld (c.w 2) 7 0 = q → queueNeedStage c s = false →
      n = s.counted (q / 64) (s.maxFrame q) → ((c.w 3).toNat = 0 ∨ n ≤ (c.w 4).toNat) →
      ((c.w 5).toNat = 0 ∨ n ≤ (c.w 6).toNat ∧ (c.w 3).toNat ≤ (c.w 5).toNat) →
      ∃ cl pl : Nat, cl ≤ (c.w 4).toNat * byteU ∧ pl ≤ (c.w 6).toNat * byteU ∧
        Answers (.queueConfig c) c 0x0B10 s .ok []
          (s.onQueue q fun x => { x with
            tc := fld (c.w 2) 10 8, virt := bit (c.w 2) 11, cir := (c.w 3).toNat, cbs := (c.w 4).toNat, pir := (c.w 5).toNat
            pbs := (c.w 6).toNat, since := s.clk, cLevel := cl, pLevel := pl }).drawn)
  ∧ (∀ q : Queue, Solo c 1 s → Clear c [(2, msk 7 0)] → (s.queue (fld (c.w 2) 7 0)).fill s.clk = q →
      ∃ a b, Answers (.queueQuery c) c 0x0B11 s .ok [q.bytes, q.sent.toNat, a, b] s)
  ∧ (∀ p first n, Solo c 2 s → Clear c [(2, msk 15 8 + msk 1 0)] → fld (c.w 2) 1 0 = p → fld (c.w 2) 15 8 = first →
      n = min (c.len - 1) 12 → first + n ≤ 256 → (∀ k < n, 13 ≤ fld (c.w (3 + k)) 22 0) →
      Answers (.gateWrite c) c 0x0B20 s .ok []
        (s.onPort p fun x => { x with
          pending := x.pending.take first ++ (List.range n).map (fun k => c.w (3 + k)) ++ x.pending.drop (first + n) }))
  ∧ (∀ p l cyc, Solo c 5 s → Clear c [(2, msk 15 8 + msk 2 0), (5, msk 15 0)] → fld (c.w 2) 1 0 = p →
      l = (s.port p).pending.take (fld (c.w 2) 15 8 + 1) → (c.w 3).toNat < 1000000000 → (c.w 6).toNat = cyc → 1000 ≤ cyc →
      cyc ≤ 1000000000 → (bit (c.w 2) 2 = true → l.foldl (fun n e => n + fld e 22 0 * 8) 0 = cyc) →
      (s.now + usU ≤ Vx.time c 3 →
        Answers (.gateSet c) c 0x0B21 s .ok (timeNats (Vx.time c 3))
          (s.onPort p fun x => { x with nextGates := some ⟨if bit (c.w 2) 2 then l else [], Vx.time c 3, cyc⟩ }))
      ∧ (∀ k start, Vx.time c 3 < s.now + usU → start = Vx.time c 3 + k * (cyc * nsU) → s.now + usU ≤ start →
        start < s.now + usU + cyc * nsU →
        Answers (.gateSet c) c 0x0B21 s .ok (timeNats start)
          ((s.raise 0x0B 0x07 p).onPort p fun x => { x with nextGates := some ⟨if bit (c.w 2) 2 then l else [], start, cyc⟩ })))
  ∧ (∀ p : Port, Solo c 1 s → Clear c [(2, msk 1 0)] → s.port (fld (c.w 2) 1 0) = p →
      (p.gates = none → Answers (.gateQuery c) c 0x0B22 s .ok [0, 0, 0, 0, p.held.toNat] s)
      ∧ (∀ g, p.gates = some g → ∃ k, Answers (.gateQuery c) c 0x0B22 s .ok ([1 + k * 256] ++ timeNats g.start ++ [p.held.toNat]) s))
  ∧ (∀ p k, Solo c 3 s → Clear c [(2, msk 3 0)] → fld (c.w 2) 1 0 = p → fld (c.w 2) 3 2 = k → policerNeedStage c s = false →
      9279 ≤ (c.w 4).toNat → ∃ level, level ≤ (c.w 4).toNat * byteU ∧
      Answers (.policerConfig c) c 0x0B30 s .ok []
        (s.onPort p fun x => { x with
          policers := upd x.policers k fun y =>
            { y with rate := (c.w 3).toNat, burst := (c.w 4).toNat, since := s.clk, level := level } }).drawn)
  ∧ (∀ g : PtpCfg, Solo c 6 s → Clear c [(2, msk 23 16 + msk 9 0)] → (s.time.mode = 2 → s.anyRuns = false) →
      g = { on := bit (c.w 2) 2, port := fld (c.w 2) 1 0, profile := fld (c.w 2) 3 3, followerOnly := bit (c.w 2) 4
            twoStep := bit (c.w 2) 5, ipv6 := bit (c.w 2) 6, autoFirst := bit (c.w 2) 7, servo := fld (c.w 2) 9 8
            domain := fld (c.w 2) 23 16, prio1 := fld (c.w 3) 31 24, prio2 := fld (c.w 3) 23 16
            utc := if fld (c.w 3) 15 0 = 0 then 37 else fld (c.w 3) 15 0
            thresh := if (c.w 4).toNat = 0 then 1000 else (c.w 4).toNat, kp := if (c.w 5).toNat = 0 then 32768 else (c.w 5).toNat
            ki := if (c.w 6).toNat = 0 then 4096 else (c.w 6).toNat, asym := sgn32 (c.w 7).toNat } →
      g.domain ≤ 127 → g.servo ≠ 3 → 100 ≤ g.thresh → g.thresh ≤ 1000000000 →
      ∃ t, Answers (.ptpConfig c) c 0x0B40 s .ok [] t ∧ t.net.ptp.cfg = g ∧ t.net.ptp.leader = none
        ∧ t.net.ptp.st = (if g.on then 1 else 0) ∧ t.net.ptp.sync = none ∧ t.net.ptp.delays = [])
  ∧ (Solo c 0 s → ∃ (ws : List Nat), Answers (.ptpQuery c) c 0x0B41 s .ok ws s.drawn ∧ ws.length = 8
      ∧ ws.getD 0 0 = s.net.ptp.st ∧ ws.getD 3 0 = (wInt (nsOf s.net.ptp.meanDelay)).toNat)
  ∧ (Solo c 1 s → Clear c [(2, msk 0 0)] → s.net.ptp.request = true →
      (bit (c.w 2) 0 = false →
        Answers (.ptpStepAnswer c) c 0x0B42 s .ok [0, 0]
          (((s.ptpGo 5).onPtp fun p =>
            { p with request := false, acquisition := false, rejected := true, within := 0 }).raiseOn 0x01 0x12))
      ∧ (bit (c.w 2) 0 = true → 0 ≤ (s.now : Int) - s.net.ptp.offset → (s.now : Int) - s.net.ptp.offset < timeLimit →
        Answers (.ptpStepAnswer c) c 0x0B42 s .ok (lowHigh (low64 (nsOf (-s.net.ptp.offset))))
          (((deviceStep s (-s.net.ptp.offset)).ptpGo 3).onPtp fun p =>
            { p with request := false, acquisition := false, within := 0 })))
  ∧ (∀ l, fld (c.w 2) 5 0 = l → l ≤ 33 → pcieLane l = false →
      (Solo c 1 s → Clear c [(2, msk 13 12 + msk 10 8 + msk 5 0)] → s.laneServes l = false →
        fld (c.w 2) 13 12 ≠ 3 →
        (bit (c.w 2) 9 = true → 16 ≤ l) →
        Answers (.laneConfig c) c 0x0C00 s .ok []
          (s.onLan l fun x =>
            { x with test := fld (c.w 2) 13 12, idleOk := bit (c.w 2) 10, txInvert := bit (c.w 2) 9, rxInvert := bit (c.w 2) 8 }))
      ∧ (∀ pre post, Solo c 1 s → Clear c [(2, msk 27 24 + msk 20 16 + msk 11 8 + msk 5 0)] → 16 ≤ l → s.laneServes l = false →
        (fld (c.w 2) 27 24 = 15 ∧ pre = fld (c.w 2) 11 8 ∧ post = fld (c.w 2) 20 16
          ∨ fld (c.w 2) 27 24 ≤ 10 ∧ (pre, post) = preset (fld (c.w 2) 27 24)) → tapsOk pre post = true →
        Answers (.laneTx c) c 0x0C01 s .ok [mainTap pre post] (s.onLan l fun x => { x with pre := pre, post := post }))
      ∧ (Solo c 1 s → Clear c [(2, msk 5 0)] → (s.lan l).st ≠ 0 →
        Answers (.laneRetrain c) c 0x0C03 s .accepted []
          (((s.onLan l fun x => { x with failed := false }).train l).start 0x0C03 c.tag l))
      ∧ (Solo c 1 s → Clear c [(2, msk 8 8 + msk 5 0)] → 16 ≤ l → (bit (c.w 2) 8 = true → s.laneServes l = false) →
        Answers (.laneIdle c) c 0x0C04 s .ok []
          ((if (s.lan l).txIdle = true ∧ bit (c.w 2) 8 = false then s.burst l else s).onLan l fun x =>
            { x with txIdle := bit (c.w 2) 8 })))
  ∧ (∀ l, Solo c 1 s → Clear c [(2, msk 5 0)] → fld (c.w 2) 5 0 = l → l ≤ 33 →
      ∃ (ws : List Nat), Answers (.laneQuery c) c 0x0C02 s .ok ws s.drawn ∧ ws.length = 9 ∧ ws.getD 0 0 = (s.lan l).st
        ∧ ws.getD 6 0 = (s.lan l).los.toNat ∧ ws.getD 7 0 = (s.lan l).lol.toNat ∧ ws.getD 8 0 = (s.lan l).prbs
        ∧ ws.getD 2 0 = (s.lan l).pre + (s.lan l).post * 256 + mainTap (s.lan l).pre (s.lan l).post * 65536)

/-- Group 0x0D, in a state in which nothing holds the command back. TWIN_PAIR of a module without a pair starts pairing (R465,
R466); TWIN_UNPAIR leaves the pair and tells the partner (R492); TWIN_SWAP of an active module asks for a switch-over, or proposes a
swap to a fit partner (R485 to R488); TWIN_QUERY (R491). -/
def Obligations.TwinCommandsComplete : Prop := ∀ (c : Vx) (s : State),
  (Plain c 14 s → Clear c [(2, msk 0 0)] → s.twin.role = 0 → s.twin.pairing = none →
      ((c.w 3).toNat ≤ 1440 ∨ (c.w 3).toNat = 0xFFFFFFFF) →
      Answers (.twinPair c) c 0x0D00 s .accepted []
        (((s.onTwin fun t => { t with
          pairing := some s.clk, hbM1 := bit (c.w 2) 0
          swapPeriod := if (c.w 3).toNat = 0xFFFFFFFF then 60 else (c.w 3).toNat
          pin := [c.w 4, c.w 5, c.w 6, c.w 7, c.w 8, c.w 9, c.w 10, c.w 11, c.w 12, c.w 13, c.w 14, c.w 15]
          rxSeq := 0, txSeq := 0, sent := [] }).start 0x0D00 c.tag 0).sendTwin tSpdm 0 0 0 0 0 []))
  ∧ (Plain c 0 s → s.twin.role ≠ 0 → Answers (.twinUnpair c) c 0x0D01 s .ok [] (s.unpair.sendBeat false))
  ∧ (Plain c 1 s → Clear c [(2, msk 0 0)] → s.twin.role = 1 → s.isRunning 0x0D02 0 = false →
      (bit (c.w 2) 0 = true → Answers (.twinSwap c) c 0x0D02 s .accepted [] ((s.start 0x0D02 c.tag 0).requestSwitch 3))
      ∧ (bit (c.w 2) 0 = false → s.twin.partnerFit = true →
        Answers (.twinSwap c) c 0x0D02 s .accepted [] ((s.start 0x0D02 c.tag 0).proposeSwap true)))
  ∧ (Plain c 0 s → ∃ ws : List Nat, Answers (.twinQuery c) c 0x0D03 s .ok ws s ∧ ws.length = 8
      ∧ ws.getD 0 0 = s.twin.role ∧ ws.getD 2 0 = s.twin.applied.toNat ∧ ws.getD 3 0 = s.twin.discarded.toNat
      ∧ ws.getD 4 0 = s.twin.switches.toNat ∧ ws.getD 5 0 = s.twin.swaps.toNat ∧ ws.getD 7 0 = s.twin.partnerSerial.toNat
      ∧ (s.twin.nextSwap = none → ws.getD 6 0 = 0)
      ∧ (s.twin.role < 2 →
        ws.getD 1 0 = b01 s.twin.link.isSome + 2 * b01 s.twin.path.isSome + 4 * b01 s.twin.partnerFit))

/-- Group 0x0E, in a state in which nothing holds the command back. CL_CONFIG sets the module's place in the cluster, which its
strap role allows, and starts membership anew (R493, R494); CL_PIN sets or clears the pin (R502); CL_ROSTER_WRITE of a manager
writes an entry of its own (R505); CL_ROSTER_QUERY; CL_ACCEPT takes a quarantined member's digest and lets it in (R503);
CL_OP starts a global operation within its own subtree (R508 to R511), CL_OP_QUERY shows one, CL_OP_SLOT holds half of a slot for
one (R510); CL_STATUS. -/
def Obligations.ClusterCommandsComplete : Prop := ∀ (c : Vx) (s : State),
  (∀ id, Plain c 3 s → Clear c [(2, msk 14 0), (3, msk 15 0), (4, msk 15 0)] → fld (c.w 2) 11 0 = id → s.boundRuns = false →
      s.idFits id = true →
      Answers (.clConfig c) c 0x0E00 s .ok []
        ((s.onFlt fun f => { f with causes := f.causes.filter fun q => q.cls != 0x0E && q.cls != 0x15 }).onCl fun x => { x with
          id := some id, portM1 := bit (c.w 2) 12, sameFw := bit (c.w 2) 13, on := bit (c.w 2) 14, vid := fld (c.w 3) 11 0
          vlan := bit (c.w 3) 12, pcp := fld (c.w 3) 15 13
          etherType := if fld (c.w 4) 15 0 = 0 then 0x88B5 else fld (c.w 4) 15 0, joined := false, refused := false
          heard := s.clk, nextJoin := s.clk, nextBeat := s.clk, spdm := 0, members := [], seqs := [] }))
  ∧ (∀ d : List Word, Plain c 12 s →
      d = [c.w 2, c.w 3, c.w 4, c.w 5, c.w 6, c.w 7, c.w 8, c.w 9, c.w 10, c.w 11, c.w 12, c.w 13] →
      Answers (.clPin c) c 0x0E01 s .ok []
        (s.onCl fun x => { x with pin := if d = List.replicate 12 0 then none else some d }))
  ∧ (∀ id (d : List Word) (e : Roster) (u : State), Plain c 13 s → Clear c [(2, msk 15 0)] → fld (c.w 2) 11 0 = id → s.isManager = true →
      s.inRoster id = true →
      d = [c.w 3, c.w 4, c.w 5, c.w 6, c.w 7, c.w 8, c.w 9, c.w 10, c.w 11, c.w 12, c.w 13, c.w 14] →
      e = { s.entry id with
        role := fld (c.w 2) 13 12, enabled := bit (c.w 2) 15
        digestA := if bit (c.w 2) 14 then (s.entry id).digestA else d
        digestB := if bit (c.w 2) 14 then d else (s.entry id).digestB } →
      u = s.onCl (fun x => { x with roster := x.roster.filter (fun r => r.id != id) ++ [e] }) →
      (e = s.entry id → Answers (.clRosterWrite c) c 0x0E02 s .ok [] u)
      ∧ (e ≠ s.entry id →
        Answers (.clRosterWrite c) c 0x0E02 s .ok []
          ((u.cl.members.filter fun m => m.id == id && decide (1 ≤ m.st ∧ m.st ≤ 4)).foldl
            (fun s m => if e.enabled then s.letIn m else s.setMember { m with st := 0 }) u)))
  ∧ (∀ id m, Plain c 1 s → Clear c [(2, msk 11 0)] → fld (c.w 2) 11 0 = id → s.shownMember id = m →
      Answers (.clRosterQuery c) c 0x0E03 s .ok
        ([m.st + 256 * b01 (s.entry id).enabled, (m.serial.getD 0 0).toNat, (m.serial.getD 1 0).toNat, m.fw.toNat]
          ++ m.digest.map BitVec.toNat) s)
  ∧ (∀ id m (e : Roster), Plain c 1 s → Clear c [(2, msk 11 0 + msk 14 14)] → fld (c.w 2) 11 0 = id → s.isManager = true →
      s.member id (bit (c.w 2) 14) = m → m.st = 3 →
      e = (if bit (c.w 2) 14 then { s.entry id with digestB := m.digest } else { s.entry id with digestA := m.digest }) →
      Answers (.clAccept c) c 0x0E04 s .ok []
        ((s.onCl fun x => { x with roster := x.roster.filter (fun r => r.id != id) ++ [e] }).letIn m))
  ∧ (∀ (kind scope t id : Nat) (lo hi : List Word) (o : OpRec) (u v : State), Plain c 7 s → Clear c [(2, msk 31 24), (3, msk 27 16), (6, msk 15 0)] →
      fld (c.w 2) 31 24 = kind → 1 ≤ kind → kind ≤ 7 → s.isManager = true → s.cl.id.isSome = true →
      scope = (if s.strapRole = 3 then 0x041 else s.myId / 64) → fld (c.w 3) 27 16 = scope → (c.w 4).toNat < 1000000000 →
      Vx.time c 4 = t → s.now + (if s.strapRole = 3 then 40 else 32) * usU ≤ t → t ≤ s.now + 60 * secU →
      (6 ≤ kind → s.now + msU ≤ t) → opArgBad kind (c.w 7) = false →
      (kind = 1 → s.cl.slotLo = some lo ∧ s.cl.slotHi = some hi) → (kind ≠ 1 → lo = [] ∧ hi = []) →
      (s.cl.ops.filter fun x => x.own && decide (x.stage < 3)).length < 8 → id = s.cl.nextOp →
      o = { opRecOf ([w32 (kind * 16777216 + id), w32 (scope * 65536 + s.myId), c.w 4, c.w 5, c.w 6, c.w 7, c.w 8] ++ lo ++ hi) with
        own := true
        expected := s.ownMembers ++ (s.admitted.map (·.1)).filter fun i => i / 64 != s.myId / 64 } →
      u = s.onCl (fun x => { x with
        nextOp := (id + 1) % 65536
        ops := (x.ops.filter fun y => !(y.own && y.stage == 3 && y.opId % 8 == id % 8)) ++ [o]
        slotLo := if kind = 1 then none else x.slotLo, slotHi := if kind = 1 then none else x.slotHi }) →
      v = (if s.strapRole = 3 then u.sendSkov (opType kind) 0 true 0x040 (w32 id) o.words else u).sendSkov (opType kind) 0 true
        (s.myId / 64) (w32 id) o.words (s.strapRole == 3) →
      Answers (.clOp c) c 0x0E10 s .accepted [id] ((v.start 0x0E10 c.tag id).takePart carriedHandler o))
  ∧ (∀ id, Plain c 1 s → Clear c [(2, msk 15 0)] → fld (c.w 2) 15 0 = id →
      (∀ o, (s.cl.ops.filter fun o => o.own && o.opId == id).getLast? = some o →
        Answers (.clOpQuery c) c 0x0E11 s .ok ([if o.stage = 3 then 2 else 1] ++ o.totals ++ lowHigh (areaOf id)) s)
      ∧ ((s.cl.ops.filter fun o => o.own && o.opId == id) = [] →
        ∃ ws : List Nat, Answers (.clOpQuery c) c 0x0E11 s .ok ws s.drawn ∧ ws.getD 0 1 = 0))
  ∧ (∀ ws, Plain c 9 s → Clear c [(2, msk 0 0)] → s.isManager = true →
      ws = [c.w 3, c.w 4, c.w 5, c.w 6, c.w 7, c.w 8, c.w 9, c.w 10] →
      Answers (.clOpSlot c) c 0x0E12 s .ok []
        (s.onCl fun x => if bit (c.w 2) 0 then { x with slotHi := some ws } else { x with slotLo := some ws }))
  ∧ (Plain c 0 s → ∃ n q, Answers (.clStatus c) c 0x0E20 s .ok
      [s.myId + 65536 * b01 s.cl.joined, n, q, s.cl.sent.toNat, s.cl.received.toNat] s
      ∧ n = (((s.cl.members.filter fun m => m.st == 2).map (·.id)).eraseDups).length)

/-- Group 0x0F, in a state in which nothing holds the command back. FLT_SEVERITY shows and sets the severity of a fault whose
default is not CRITICAL (R522); FLT_CLEAR_SAFE ends a safe state whose cause has ended (R532); CVU_ALLOC allocates the first free
context outside the module's own (R542; log entry 6), CVU_FREE frees one of the host's, CVU_CTX_READ reads one, CVU_CTX_WRITE
writes the parts it names.
FLT_INJECT of a fault that the tables define reports it at once with the injected mark, and its answer waits in the order of
answers until the entry is logged (R545). -/
def Obligations.FaultAndCheckCommandsComplete : Prop :=
  (∀ (c : Vx) (s : State),
    (∀ cls code d, Plain c 1 s → Clear c [(2, msk 23 8 + msk 3 0)] → fld (c.w 2) 23 16 = cls → fld (c.w 2) 15 8 = code →
        defaultSev cls code = some d →
        (bit (c.w 2) 3 = false → Answers (.fltSeverity c) c 0x0F00 s .ok [s.confSev cls code, d] s)
        ∧ (∀ u, bit (c.w 2) 3 = true → fld (c.w 2) 2 0 ≤ 4 → d ≠ 4 →
          u = s.onFlt (fun f => { f with sevs := aset f.sevs (cls * 256 + code) (fld (c.w 2) 2 0) }) →
          Answers (.fltSeverity c) c 0x0F00 s .ok [u.confSev cls code, d] u))
    ∧ (Plain c 1 s → Clear c [(2, msk 8 8 + msk 3 0)] →
        (∀ e, bit (c.w 2) 8 = true → s.flt.safe = some e → s.stillCaused e = false →
          Answers (.fltClearSafe c) c 0x0F01 s .ok [0]
            (((s.onFlt fun f => { f with safe := none }).errSettle).safeEvt true false 0 e.count))
        ∧ (∀ ch k e f, bit (c.w 2) 8 = false → fld (c.w 2) 3 0 = ch → s.flt.chSafe.find? (fun x => x.1 == ch) = some (k, e) →
          s.stillCaused e = false → f = s.frameAfter ch (s.now + 30 * usU) 4096 (s.ch ch).nextFrame →
          (s.runs ch = true →
            Answers (.fltClearSafe c) c 0x0F01 s .ok [f] (s.onFlt fun x => { x with chLeave := aset x.chLeave ch f }))
          ∧ (s.runs ch = false →
            Answers (.fltClearSafe c) c 0x0F01 s .ok [(s.ch ch).nextFrame]
              ((s.onFlt fun x => { x with chSafe := x.chSafe.filter fun y => y.1 != ch }).safeEvt false false ch e.count))))
    ∧ (∀ k, Plain c 1 s → fld (c.w 2) 29 28 ≠ 3 → fld (c.w 2) 27 26 ≠ 3 → k < 512 → 18 ≤ k → (s.cvu.ctx k).allocated = false →
        (∀ j, 18 ≤ j → j < k → (s.cvu.ctx j).allocated = true) →
        Answers (.cvuAlloc c) c 0x0F10 s .ok [k / 64 + k % 64 * 256]
          (s.setCtx k
            { alg := fld (c.w 2) 31 30, mode := fld (c.w 2) 29 28, alive := fld (c.w 2) 27 26, aliveHigh := bit (c.w 2) 25
              allocated := true, hostOwn := true, offset := fld (c.w 2) 23 12, start := fld (c.w 2) 11 0 }))
    ∧ (∀ k, Plain c 1 s → Clear c [(2, msk 2 0 + msk 13 8)] → k = 64 * fld (c.w 2) 2 0 + fld (c.w 2) 13 8 →
        (s.cvu.ctx k).hostOwn = true → s.ctxBusy k = false →
        Answers (.cvuFree c) c 0x0F11 s .ok [] (s.onCvu fun v => { v with ctxs := adel v.ctxs k }))
    ∧ (∀ k, Plain c 1 s → Clear c [(2, msk 2 0 + msk 13 8)] → k = 64 * fld (c.w 2) 2 0 + fld (c.w 2) 13 8 →
        Answers (.cvuCtxRead c) c 0x0F12 s .ok (s.cvu.ctx k).words s)
    ∧ (∀ k (x y z : Ctx), Plain c 3 s → Clear c [(2, msk 2 0 + msk 13 8 + msk 18 16), (4, msk 16 0)] →
        k = 64 * fld (c.w 2) 2 0 + fld (c.w 2) 13 8 → (s.cvu.ctx k).hostOwn = true → s.ctxBusy k = false →
        x = (if bit (c.w 2) 16 then { s.cvu.ctx k with running := c.w 3 } else s.cvu.ctx k) →
        y = (if bit (c.w 2) 17 then
          { x with aliveValid := bit (c.w 4) 16, aliveLast := fld (c.w 4) 15 8, aliveNext := fld (c.w 4) 7 0 } else x) →
        z = (if bit (c.w 2) 18 then { y with units := 0, crcFails := 0, repeats := 0, gaps := 0 } else y) →
        Answers (.cvuCtxWrite c) c 0x0F13 s .ok [] (s.setCtx k z)))
  ∧ (∀ (c : Vx) (s : State) (cls code ch : Nat),
    Plain c 2 s → Clear c [(2, msk 23 0), (3, msk 7 0)] → fld (c.w 2) 23 16 = cls → fld (c.w 2) 15 8 = code →
    (defaultSev cls code).isSome = true → fld (c.w 3) 7 0 = ch → (ch ≤ 15 ∨ ch = 0xFF) → s.host.answers = [] →
    exec (.fltInject c) s = .next (((s.onFlt fun f => { f with
      injectNext := s.flt.injectNext + 1, injectors := f.injectors ++ [(s.flt.injectNext, none, c.tag)]
      reports := f.reports ++ [⟨cls, code, fld (c.w 2) 7 0, ch, s.now, s.clk, true, s.flt.injectNext⟩] }).onHost fun h =>
        { h with answers := [.inject s.flt.injectNext] }).performOps))


/-- Group 0x10, in a state in which nothing holds the command back. FW_QUERY; FW_BEGIN opens the slot that does not run and
erases it; FW_WRITE puts words into the open slot, and is refused only where its buffer may be full; FW_END starts the check; FW_ACTIVATE tries the
other slot's valid image at a restart; FW_CONFIRM makes the running slot the active one and may raise the counter (R561 to R569);
BOOT_TARGET (R548); TRICKLE_CONFIG switches the trickle service off, or on with input 0 as it is or as the command sets it (R557); TRICKLE_QUERY; HEALTH_QUERY (R568). -/
def Obligations.FirmwareAndHealthCommandsComplete : Prop := ∀ (c : Vx) (s : State),
  (∀ a b : Slot, Plain c 0 s → tab s.pw.slots 0 = a → tab s.pw.slots 1 = b →
      Answers (.fwQuery c) c 0x1000 s .ok
        [s.pw.runs + 2 * s.pw.active + 4 * ((s.pw.tryS.map fun k => k + 1).getD 0) + 16 * b01 s.pw.recovery,
          if a.st = 2 then a.fw else 0, if b.st = 2 then b.fw else 0, a.svn + b.svn * 65536, s.pw.counter, s.pw.bootTarget] s)
  ∧ (∀ k, Plain c 1 s → Clear c [(2, msk 0 0)] → fld (c.w 2) 0 0 = k → s.pw.fwOp = none → k ≠ s.pw.runs →
      Answers (.fwBegin c) c 0x1001 s .accepted []
        ((s.onPw fun p => { p with
          fwOp := some (0x1001, s.clk), fwOpen := some k, slots := upd p.slots k fun _ => ⟨0, 0, 0, []⟩ }).start 0x1001 c.tag 0))
  ∧ (∀ k off n, Plain c 1 s → Clear c [(2, msk 22 0)] → fld (c.w 2) 22 0 = off → n = c.len - 1 → n ≤ 12 → s.pw.fwOp = none →
      s.pw.fwOpen = some k → off + n ≤ slotWords → s.pw.fwBuffer + n ≤ bufferWords →
      Answers (.fwWrite c) c 0x1002 s .ok []
        (s.onPw fun p => { p with
          fwBuffer := p.fwBuffer + n
          slots := upd p.slots k fun x => { x with
            words := (List.range n).foldl (fun l i => aset l (off + i) (c.w (3 + i))) x.words } }).drawn)
  ∧ (Plain c 1 s → Clear c [(2, msk 22 0)] → s.pw.fwOp = none → s.pw.fwOpen.isSome = true → fld (c.w 2) 22 0 ≤ slotWords →
      Answers (.fwEnd c) c 0x1003 s .accepted []
        ((s.onPw fun p => { p with fwOp := some (0x1003, s.clk), fwLen := fld (c.w 2) 22 0 }).start 0x1003 c.tag 0))
  ∧ (Plain c 0 s → s.pw.st ≤ 2 → s.twin.role = 0 → s.slotOk (1 - s.pw.runs) = true →
      Answers (.fwActivate c) c 0x1004 s .ok []
        (s.onPw fun p => { p with tryS := some (1 - p.runs), restart := some (s.clk + msC) }))
  ∧ (∀ n, Plain c 1 s → Clear c [(2, msk 0 0)] →
      n = (if bit (c.w 2) 0 then max s.pw.counter (tab s.pw.slots s.pw.runs).svn else s.pw.counter) →
      Answers (.fwConfirm c) c 0x1005 s .ok [n] (s.onPw fun p => { p with active := p.runs, counter := n }))
  ∧ (∀ t, Plain c 1 s → Clear c [(2, msk 2 0)] → fld (c.w 2) 2 0 = t → 1 ≤ t → t ≤ 3 →
      Answers (.bootTarget c) c 0x1006 s .ok [] (s.onPw fun p => { p with bootTarget := t }))
  ∧ (∀ k : State → State, Plain c 9 s →
      Clear c [(2, msk 25 16 + msk 13 8 + msk 2 0), (3, msk 25 16 + msk 10 8 + msk 5 0), (9, msk 31 26 + msk 22 0)] →
      k = (fun t => if bit (c.w 2) 1 then (t.setTrickle c).onPw fun p => { p with
        profile := some [c.w 2, c.w 3, c.w 4, c.w 5, c.w 6, c.w 7, c.w 8, c.w 9, c.w 10] } else t.setTrickle c) →
      (bit (c.w 2) 0 = false → Answers (.trickleConfig c) c 0x1010 s .ok [0] (k s))
      ∧ (∀ d ws t, bit (c.w 2) 0 = true → 1 ≤ fld (c.w 2) 25 16 → fld (c.w 2) 25 16 ≤ 1000 → 1 ≤ fld (c.w 2) 13 8 →
        fld (c.w 2) 13 8 ≤ 60 → fld (c.w 3) 3 0 = 0 →
        (s.pw.in0 = true ∧ t = s ∨ s.pw.in0 = false ∧ hInConfig (trickleIn c) s = .ok ws t) →
        d = (if bit (c.w 2) 2 then 8 else 4) → trickleBad d (fld (c.w 2) 13 8) (t.inp 0) = false →
        Answers (.trickleConfig c) c 0x1010 s .ok [(decimated d (t.inp 0)).2 * 65536 + (decimated d (t.inp 0)).1] (k t)))
  ∧ (Plain c 0 s → ∃ st mean, Answers (.trickleQuery c) c 0x1011 s .ok
      [st, s.pw.te.pictures.toNat, s.pw.te.packets.toNat, mean] s.drawn ∧ (s.pw.te.on = false → st = 0))
  ∧ (Plain c 0 s → ∃ j, Answers (.healthQuery c) c 0x1020 s .ok
      [s.pw.vin, s.pw.power, j, maskOf ((List.range 8).filter fun k => !(tab s.pw.sensors k).out)] s.drawn
      ∧ (∀ t, s.pw.junction = some t → j = (wInt t).toNat))

/-- Host writes to BAR0 while Vehitrix serves it: the module has power, has reached STANDBY, and PERST_N is released (R45, R547). An aligned write of 4 or 8 bytes to the command ring stores its bytes, low
byte first, and leaves every other byte; one to SCRATCH0 or SCRATCH1 stores the value; a read-only register ignores it (R8,
R41, R44). DB_CMD_TAIL takes a value in range, and answers one out of range with bit 0 of DB_STATUS and HOST:0x01 (R51, R52);
DB_RSP_HEAD and DB_EVT_HEAD take one in range, upon which answers that wait and events that are held move into the slots freed
(R54, R57). IRQ_STATUS clears the bits written, but for causes of this clock (R60); the key 0xC15E restarts the management
processor, another value does nothing (R49). -/
def Obligations.HostWritesComplete : Prop := ∀ (s : State), s.served = true →
  (∀ off size v, s.Inv → cmdBase ≤ off → off < rspBase → size = 4 ∨ size = 8 → off % size = 0 →
    ∃ m, exec (.registerWrite off size v) s = .next (s.onMem fun g => { g with ring := m })
      ∧ ∀ a, Mem.read m a =
          if off ≤ a ∧ a < off + size then BitVec.ofNat 8 (v / 256 ^ (a - off)) else Mem.read s.mem.ring a)
  ∧ (∀ v : Nat, exec (.registerWrite 0x18 4 v) s = .next (s.onHost fun h => { h with scratch0 := w32 v })
      ∧ exec (.registerWrite 0x1C 4 v) s = .next (s.onHost fun h => { h with scratch1 := w32 v })
      ∧ exec (.registerWrite 0x00 4 v) s = .next s ∧ exec (.registerWrite 0x14 4 v) s = .next s)
  ∧ (∀ v : Word,
      (occupancy (BitVec.ofNat 16 v.toNat) s.host.cmdHead ≤ 64 → occupancy (BitVec.ofNat 16 v.toNat) s.host.cmdTail ≤ 64 →
        exec (.dbCmdTailWrite v) s = .next (s.onHost fun h => { h with cmdTail := BitVec.ofNat 16 v.toNat }))
      ∧ (64 < occupancy (BitVec.ofNat 16 v.toNat) s.host.cmdHead →
        exec (.dbCmdTailWrite v) s = .next ((s.dbSet 0).raise 0x17 0x01)))
  ∧ (∀ v : Word,
      occupancy (BitVec.ofNat 16 v.toNat) s.host.rspHead ≤ occupancy s.host.rspTail s.host.rspHead →
      ∃ t, exec (.dbRspHeadWrite v) s = .next t ∧ t.host.rspHead = BitVec.ofNat 16 v.toNat ∧ t.host.cmdTail = s.host.cmdTail
        ∧ (s.host.answers = [] → t = s.onHost fun h => { h with rspHead := BitVec.ofNat 16 v.toNat }))
  ∧ (∀ v : Word,
      occupancy (BitVec.ofNat 16 v.toNat) s.host.evtHead ≤ occupancy s.host.evtTail s.host.evtHead →
      ∃ t, exec (.dbEvtHeadWrite v) s = .next t ∧ t.host.evtHead = BitVec.ofNat 16 v.toNat ∧ t.host.rspHead = s.host.rspHead
        ∧ (s.host.backlog = [] → s.host.lostRun = 0 → s.host.coPend = [] → s.host.coDue = none →
            t = s.onHost fun h => { h with evtHead := BitVec.ofNat 16 v.toNat }))
  ∧ (∀ v : Word, ∃ t, exec (.irqStatusWrite v) s = .next t ∧ t.host.irqMask = s.host.irqMask
      ∧ (s.host.irqFired = [] → t.host.irqStatus = s.host.irqStatus &&& ~~~v)
      ∧ (∀ i < 32, alookup s.host.irqFired i = some s.clk → t.host.irqStatus.getLsbD i = s.host.irqStatus.getLsbD i))
  ∧ (∀ v : Word, exec (.glbApertureWrite v) s = .next (s.onHost fun h => { h with aperture := BitVec.ofNat 14 v.toNat }))
  ∧ (∀ v : Word,
      (v.toNat % 65536 ≠ 0xC15E → exec (.glbMpResetWrite v) s = .next s)
      ∧ (v.toNat % 65536 = 0xC15E → ∃ t, exec (.glbMpResetWrite v) s = .next t ∧ t.host.fwReady = false
          ∧ t.host.mpRestarts = min 15 (s.host.mpRestarts + 1) ∧ t.host.cmdTail = 0 ∧ t.host.cmdHead = 0
          ∧ t.host.openId = none ∧ t.host.running = [] ∧ t.host.answers = []))

/-- Reads and writes of the window BAR2: one that reaches no host-accessible cistern writes nothing and reads zero (R46); one
that does becomes a task of PU11 at priority 0 that carries the access (R45, R47). Reading TB_SNAP_NS answers the nanoseconds
and takes the snapshot of time and timelines (R91).
Host writes to the DS_ and FH_ registers. DS_CTRL.CLEAR clears the high-water mark, the task counts and the histograms,
and WINDOW takes its field with or without it; DS_TRACE_RD takes a value in range and ignores another (R308); DS_TRACE_CTRL
takes its fields, and a trace that starts writes a SYNC record. FH_FIRST.VALID, FH_UNACK and FH_STATUS are cleared by ones, but
for entries logged in this clock and for causes that are still present (R528, R529, R531); FH_CTRL takes the hold and a width
of 1 to 1,000 microseconds (R533). -/
def Obligations.WindowAndStatusAccessesComplete : Prop :=
  (∀ (s : State),
    (∀ off size v, s.served = true → s.reachable (s.host.aperture.toNat * 1048576 + off) size true = false →
      exec (.bar2Access true off size v) s = .next s)
    ∧ (∀ off size v, s.served = true → s.reachable (s.host.aperture.toNat * 1048576 + off) size false = false →
      exec (.bar2Access false off size v) s = .next { s with rdata := 0 })
    ∧ (∀ w off size v, s.served = true → 3 ≤ s.pw.st → 0 < size → off + size ≤ 268435456 →
      s.reachable (s.host.aperture.toNat * 1048576 + off) size w = true →
      exec (.bar2Access w off size v) s = .next
        ((s.onHost fun h => { h with
            bar2 := h.bar2 ++ [⟨h.bar2Next, w, s.host.aperture.toNat * 1048576 + off, size, v⟩], bar2Next := h.bar2Next + 1 }).submit
          17 { type := 9, cls := 3, prio := 0, flow := 0, flowed := false, pin := true, unit := 11, payload := s.host.bar2Next
               dl := none, cookie := 0, pump := none }))
    ∧ (∃ t, exec .tbSnapNsRead s = .next t ∧ t.rdata = tNs s.now ∧ t.time.snapTime = s.now ∧ t.time.snaps.length = 13
        ∧ (∀ tl < 13, (tab t.time.snaps tl).cycle = (s.position tl).1 % 4294967296
            ∧ (tab t.time.snaps tl).phase = (s.position tl).2)
        ∧ t = { s.onTime (fun x => { x with snapTime := s.now, snaps := t.time.snaps }) with rdata := tNs s.now }))
  ∧ (∀ (s : State) (v : Word),
    (bit v 0 = false → exec (.dsCtrlClear v) s = .next (s.onDs fun d => { d with window := fld v 7 4 }))
    ∧ (bit v 0 = true → ∃ t, exec (.dsCtrlClear v) s = .next t ∧ t.ds.high = 0 ∧ t.ds.window = fld v 7 4
        ∧ t.ds.units.length = s.ds.units.length
        ∧ (∀ u ∈ t.ds.units, u.tasks = 0 ∧ u.hist = List.replicate 16 0)
        ∧ t.ds.pool = s.ds.pool ∧ t.host = s.host ∧ t.mem = s.mem)
    ∧ (occupancy (BitVec.ofNat 16 v.toNat) s.ds.traceRd ≤ occupancy s.ds.traceWr s.ds.traceRd →
        exec (.dsTraceRdWrite v) s = .next (s.onDs fun d =>
          { d with traceRd := BitVec.ofNat 16 v.toNat
                   traceOver := d.traceLevel != 0 && decide (d.traceLevel ≤ occupancy d.traceWr (BitVec.ofNat 16 v.toNat)) }))
    ∧ (occupancy s.ds.traceWr s.ds.traceRd < occupancy (BitVec.ofNat 16 v.toNat) s.ds.traceRd →
        exec (.dsTraceRdWrite v) s = .next s)
    ∧ (∃ t, exec (.dsTraceCtrlWrite v) s = .next t ∧ t.ds.kindMask = fld v 31 16 ∧ t.ds.traceStop = bit v 1
        ∧ t.ds.traceOn = bit v 0 ∧ t.ds.pool = s.ds.pool
        ∧ (bit v 0 = true → s.ds.traceOn = false → t.ds.syncT = s.now))
    ∧ (exec (.fhFirstValidWrite v) s = .next (if bit v 0 then s.onFlt fun f => { f with firstValid := false } else s))
    ∧ (∃ t, exec (.fhUnackWrite v) s = .next t
        ∧ (∀ e, e ∈ t.flt.unack ↔ e ∈ s.flt.unack ∧ (bit v e.cls = false ∨ s.clk ≤ e.clk))
        ∧ t = s.onFlt fun f => { f with unack := t.flt.unack })
    ∧ (exec (.fhStatusWrite v) s = .next (s.onFlt fun f =>
        { f with status := f.status &&& ~~~(v &&& ~~~(w32 f.causeBits)) }))
    ∧ (∃ t, exec (.fhCtrlWrite v) s = .next t ∧ t.flt.errHold = bit v 16
        ∧ t.flt.errWidth = (if fld v 9 0 = 0 ∨ 1000 < fld v 9 0 then s.flt.errWidth else fld v 9 0)
        ∧ t.flt.errN = (s.flt.pulseEnd.isSome || bit v 16 || s.flt.safe.isSome)))

/-- Vehitrix consumes the oldest command of the ring (R53): whatever the opcode, what follows is what the command itself does
with DB_CMD_HEAD one further. The slot's sixteen words are those of the command (R62). -/
def Obligations.ConsumeTakesTheRingCommand : Prop := ∀ (c : Vx) (op : Nat) (i : Instr) (s : State) (n : Nat), (op, i) ∈ commandsOf c →
  s.consumes = true → s.host.waiting = [] → s.host.cmdHead ≠ s.host.cmdTail → c.len < 256 → c.rsv < 32 → c.pay.length = 14 →
  Mem.readWords s.mem.ring (slotAddr cmdBase 64 64 s.host.cmdHead) 16 = cmdWords ⟨op, c⟩ →
  exec (.commandConsume n) s = exec i ((s.pass n).onHost fun h => { h with cmdHead := h.cmdHead + 1 })

/-- Waits of Vehitrix: the hold-off of event interrupts ends and its interrupts are set (R61); the oldest remote command without
an answer is answered TIMEOUT 5 ms after it was sent (R506).
The DOE mailbox. A whole request of vendor 1 and at most 16 KiB: discovery is answered with the protocols served; GET_VERSION of
SPDM with version 1.2; one that is not complete keeps the mailbox busy until it is aborted. Any other object raises HOST:0x07 (R82
to R84). -/
def Obligations.HostWaitsAndDoeComplete : Prop :=
  (∀ (s : State),
    (∀ d, s.host.coDue = some d → ∃ t, exec .irqHoldoffExpire s = .next t ∧ t.host.coDue = none ∧ t.host.coPend = []
        ∧ t.clk = s.clk + (d - s.clk) ∧ ∀ p ∈ s.host.coPend, p.1 < 32 → t.host.irqStatus.getLsbD p.1 = true)
    ∧ (∀ r, s.host.remotes = [r] → s.host.answers = [.remote r.id] → s.host.rspTail = s.host.rspHead →
        ∃ t, exec .remoteTimeout s = .next t ∧ t.host.remotes = [] ∧ t.host.answers = []
          ∧ t.clk = s.clk + (r.since + 5 * msC - s.clk) ∧ t.host.rspTail = s.host.rspTail + 1
          ∧ (s.mem.ring.wf = true → Mem.readWords t.mem.ring (slotAddr rspBase 64 64 s.host.rspTail) 16
              = rspWords r.cmd.vx.tag r.cmd.op Status.timeout.code [0xFFFFFFFF])))
  ∧ (∀ (s : State) (n : Nat),
    (∀ span (x : DoeObj), (s.pass n).served = true → s.host.doeBusy = false →
      (x.head.intact = true → x.head.vendor = 1 → x.head.len ≤ 16384 →
        (x.head.type = 0 → exec (.doeRequest n span true x.head x.code x.params x.range) s = .next (((s.pass n).pass (min span (100 * msC))).emit .doe
          (if x.params.1 = 0 then [0x0001, 0, 1] else if x.params.1 = 1 then [0x0001, 1, 0] else [0xFFFF, 0, 0])))
        ∧ (x.head.type = 1 → x.code = 0x84 → ∃ t, exec (.doeRequest n span true x.head x.code x.params x.range) s = .next t ∧ t.host.spdmStep = 1
          ∧ t.out = s.out ++ [⟨.doe, [0x12, 0x04, 0, 0, 1, 0x1200], t.now⟩])
        ∧ (x.head.type ≤ 1 → exec (.doeRequest n span false x.head x.code x.params x.range) s = .next ((s.pass n).onHost fun h => { h with doeBusy := true })))
      ∧ (∀ done, x.head.intact = false ∨ x.head.vendor ≠ 1 ∨ 16384 < x.head.len ∨ 1 < x.head.type →
        exec (.doeRequest n span done x.head x.code x.params x.range) s = .next ((s.pass n).raise 0x17 0x07)))
    ∧ (exec (.doeAbort n) s = .next ((s.pass n).onHost fun h => { h with doeBusy := false })))

/-- Armed sets. The set whose boundary is the next is loaded 20 microseconds before it, with its boundary fixed, where every
command of it still applies; at the boundary its commands take effect in staging order, it is armed no more, COMMIT_STATUS
shows it applied then, and COMMIT_APPLIED carries the time of the boundary (R73, R77). -/
def Obligations.CommitSetsLoadAndApply : Prop := ∀ (s : State) (x : CommitSet),
  (s.host.armed.filter (!·.loaded) = [x] → s.setDue x = 20 * usU + s.now →
    ((s.toTime s.now).beforeSet x.id).setFails x.cmds = none → 0 < s.time.addend →
    exec .commitLoad s = .next ((s.toTime s.now).onSet x.id fun y =>
      { y with loaded := true, due := (s.toTime s.now).setDue x }))
  ∧ (∀ u due, s.host.armed.filter (·.loaded) = [x] → u = s.toTime (s.setDue x) → u.setDue x = due →
    exec .commitApply s = .next
      (((((u.onHost fun h => { h with
          armed := h.armed.filter (·.id != x.id), ended := aset h.ended x.id ⟨4, due⟩ }).leniently true).stageEach
            x.cmds).leniently false).eventAt due 0x0003 (if x.kind = 2 then 0xFF else x.chan) 1
        [x.id, if x.kind = 0 then x.row else if x.kind = 1 then x.frame else 0]))

/-- Resets of the host interface (R78): a function-level reset and, with it, the fall of the link (HOST:0x05) and PERST set
the ring counters and the masks to their reset values, discard the open set and enable every event group. The link comes up only
without PERST.
Restarts of the management processor (R22, R49, R78): the watchdog and a restart by itself discard the open set and the
armed sets that are not loaded, keep the loaded ones, and FW_READY reads 0; the end of the restart sets it and reports. -/
def Obligations.HostResetsAndRestartsComplete : Prop :=
  (∀ (s : State) (n : Nat), s.pw.on = true →
    (∃ t, exec (.functionLevelReset n) s = .next t ∧ t.clk = s.clk + n ∧ t.host.cmdTail = 0 ∧ t.host.cmdHead = 0
      ∧ t.host.rspTail = 0 ∧ t.host.rspHead = 0 ∧ t.host.evtHead = 0 ∧ t.host.scratch0 = 0 ∧ t.host.scratch1 = s.host.scratch1
      ∧ t.host.irqMask = 0xFFFFFFFF ∧ t.host.aperture = 0 ∧ t.host.filter = 0x1FFFF ∧ t.host.openId = none ∧ t.host.openCmds = []
      ∧ t.host.linkUp = s.host.linkUp ∧ t.host.armed = s.host.armed)
    ∧ (∃ t, exec (.pcieLinkDown n) s = .next t ∧ t.host.linkUp = false ∧ t.host.cmdTail = 0 ∧ t.host.openId = none
      ∧ (⟨0x17, 0x05, 0, 0xFF⟩ : Cause) ∈ t.flt.causes)
    ∧ (s.host.perst = false → ∃ t, exec (.pcieLinkUp n) s = .next t ∧ t.host.linkUp = true
      ∧ (⟨0x17, 0x05, 0, 0xFF⟩ : Cause) ∉ t.flt.causes)
    ∧ (s.booting = false → ∃ t, exec (.perstAssert n) s = .next t ∧ t.host.perst = true ∧ t.host.linkUp = false
      ∧ t.host.cmdTail = 0 ∧ t.host.openId = none)
    ∧ (exec (.perstRelease n) s = .next ((s.pass n).onHost fun h => { h with perst := false })))
  ∧ (∀ (s : State) (n : Nat),
    (s.host.fwReady = true →
      (∃ t, exec (.mpWatchdog n) s = .next t ∧ t.host.fwReady = false ∧ t.host.openId = none ∧ t.host.running = []
        ∧ t.host.answers = [] ∧ (∀ y ∈ t.host.armed, y ∈ s.host.armed ∧ y.loaded = true)
        ∧ (∀ y ∈ s.host.armed, (∀ z ∈ s.host.armed, z.id = y.id → z.loaded = true) → y ∈ t.host.armed)
        ∧ t.host.mpRestarts = min 15 (s.host.mpRestarts + 1))
      ∧ (s.host.restart = none → ∃ t, exec (.mpRestart n) s = .next t ∧ t.host.fwReady = false
        ∧ (∀ y ∈ t.host.armed, y ∈ s.host.armed ∧ y.loaded = true) ∧ t.host.mpRestarts = min 15 (s.host.mpRestarts + 1)))
    ∧ (∀ x, s.host.restart = some x → ∃ t, exec (.mpRestart n) s = .next t ∧ t.host.fwReady = true ∧ t.host.restart = none
        ∧ t.host.armed = s.host.armed ∧ t.host.report = s.host.report))

/-- Device time and its reference. TIME_SOURCE ends where the new source has locked, or is answered TIMEOUT at its limit of
100 ms; the 10 MHz reference steers TB_ADDEND within 1,000 ppm of its nominal value, enters hold-over with TIME:0x05 when it is
lost, and leaves it when it resumes (R86, R87). -/
def Obligations.ReferenceSignalsComplete : Prop := ∀ (s : State) (n : Nat),
  (∀ m due, s.time.pending = some (m, due) →
    (n ≤ due - s.clk → s.sourceLocked m = true →
      exec (.timeSourceDone n true) s =
        .next (((s.pass n).onTime fun x => { x with pending := none }).complete 0x0101 0 .ok))
    ∧ exec (.timeSourceDone n false) s =
        .next (((s.pass (due - s.clk)).onTime fun x => { x with pending := none }).complete 0x0101 0 .timeout))
  ∧ (∀ adv, ∃ t, exec (.ref10mGate n adv) s = .next t ∧ t.clk = s.clk + n ∧ t.time.refPresent = true
      ∧ (s.time.mode = 0 → t.time.addend = s.time.addend)
      ∧ (s.time.mode = 1 → s.time.holdover = false →
          nominalAddend * 999 ≤ t.time.addend * 1000 ∧ t.time.addend * 1000 ≤ nominalAddend * 1001))
  ∧ (∃ t, exec (.ref10mLost n) s = .next t ∧ t.time.refPresent = false ∧ t.time.addend = s.time.addend
      ∧ (s.time.mode = 1 → t.time.holdover = true)
      ∧ (s.time.mode = 1 → s.time.holdover = false → (⟨0x01, 0x05, 0, 0xFF⟩ : Cause) ∈ t.flt.causes)
      ∧ (s.time.mode ≠ 1 → t = (s.pass n).onTime fun x => { x with refPresent := false }))
  ∧ (∃ t, exec (.ref10mResume n) s = .next t ∧ t.time.refPresent = true
      ∧ (s.time.mode = 1 → t.time.holdover = false)
      ∧ (s.time.mode = 1 → s.time.holdover = true → (⟨0x01, 0x05, 0, 0xFF⟩ : Cause) ∉ t.flt.causes)
      ∧ (s.time.mode ≠ 1 → t = (s.pass n).onTime fun x => { x with refPresent := true }))

/-- Edges of a phase input. The signal changes its level; with the tracker off that is all; an edge within 24 ns of the last
one that was accepted is counted as filtered and followed by none of the tracker's other effects (R96). A timeline whose loss window
ends is LOST, with TIME:0x01 (R99).
Scheduled events and pulses. The one event that is due first fires in the clock that contains it: it moves to its next target or
frees its slot, the other slots keep theirs, and the pointer stands past it (R104, R107, R108, R110); a target that is missed is
discarded (R111); a pulse of an EV pin ends at its width, with the pin inactive (R113). -/
def Obligations.TimelinesAndEventsComplete : Prop :=
  (∀ (s : State), s.time.trks.length = 13 →
    (∀ e ph, ph < 4 →
      (∃ t, exec (.phEdge e ph 0) s = .next t ∧ (t.trk (ph + 1)).sigA.level = !(s.trk (ph + 1)).sigA.level
        ∧ (t.trk (ph + 1)).sigB.level = (s.trk (ph + 1)).sigB.level ∧ t.clk = s.clk + e / 8)
      ∧ (∃ t, exec (.phEdge e ph 1) s = .next t ∧ (t.trk (ph + 1)).sigB.level = !(s.trk (ph + 1)).sigB.level)
      ∧ (∃ t, exec (.phEdge e ph 2) s = .next t ∧ (t.trk (ph + 1)).sigZ.level = !(s.trk (ph + 1)).sigZ.level)
      ∧ ((s.trk (ph + 1)).mode = 0 → exec (.phEdge e ph 0) s = .next ((s.pass (e / 8)).onTrk (ph + 1) fun k =>
          { k with sigA := { k.sigA with level := !k.sigA.level } }))
      ∧ (∀ l, (s.trk (ph + 1)).mode = 1 → (s.trk (ph + 1)).sigA.level = (s.trk (ph + 1)).polarity →
          (s.trk (ph + 1)).sigA.last = some l → (s.trk (ph + 1)).filterRun ≠ 1023 →
          s.raw + s.time.addend * e / 8 + 1 < l + 24 * nsU →
          exec (.phEdge e ph 0) s = .next ((s.pass (e / 8)).onTrk (ph + 1) fun k =>
            { k with
              sigA := { k.sigA with level := !k.sigA.level }, filtered := satAdd k.filtered 1 0xFFFF
              filterRun := k.filterRun + 1, passRun := 0 })))
    ∧ (∀ tl r, s.firstLoss = some (tl, r) → ∃ t, exec .tlLossExpire s = .next t ∧ (t.trk tl).st = 4
        ∧ t.raw = s.raw + s.time.addend * ceilDiv (r - s.raw) s.time.addend
        ∧ (⟨0x01, 0x01, tl, 0xFF⟩ : Cause) ∈ t.flt.causes))
  ∧ (∀ (s : State),
    (∀ slot e f first, minBy (fun p => p.2.2) s.timed = some first →
      (s.toClockOf first.2.2).timed.filter (fun p => decide (p.2.2 < (s.toClockOf first.2.2).now + s.time.addend)) = [(slot, e, f)] →
      e.op = none → s.time.opsDue = [] →
      ∃ t, exec .eventFire s = .next t ∧ t.now = (s.toClockOf first.2.2).now ∧ alookup t.time.evts slot = e.next true
        ∧ (∀ k, k ≠ slot → alookup t.time.evts k = alookup s.time.evts k) ∧ t.time.evtPtr = (slot + 1) % 1024
        ∧ (e.actTrigger = true → (⟨.trigger, [e.trigger], f⟩ : Out) ∈ t.out)
        ∧ (e.actScript = true → s.time.startQ.length < 32 → ∃ r, t.time.startQ = s.time.startQ ++ [r] ∧ r.script = e.script))
    ∧ (∀ slot e f, minBy (fun p => p.2.2) (s.time.evts.filterMap fun p => (s.missTime p.2).map fun t => (p.1, p.2, t))
        = some (slot, e, f) →
      ∃ t, exec .eventMissed s = .next t ∧ alookup t.time.evts slot = e.next false
        ∧ (∀ k, k ≠ slot → alookup t.time.evts k = alookup s.time.evts k) ∧ t.now = (s.toClockOf f).now)
    ∧ (∀ i r, minBy (·.2) ((List.range 4).filterMap fun i => ((tab s.time.pins i).ends).map fun t => (i, t)) = some (i, r) →
      exec .evPulseEnd s = .next (((s.toRawClockOf r).emitAt
        ((s.toRawClockOf r).now + (s.toRawClockOf r).eighths (r - (s.toRawClockOf r).raw)) .ev
        [i, b01 (tab s.time.pins i).activeLow]).onTime fun t =>
        { t with pins := upd t.pins i fun p => { p with ends := none } })))

/-- Packets of a Wellhead Link that arrive whole, in the row that their TYPE names, and pass their check are counted, and: FORMAT gives the input's verdict, with
the rate that it names (R131); FRAME_START begins the frame of its header (R130); a LINE segment that starts a line takes its
samples and awaits the next pixel, and the end of the line leaves none in progress (R129, R132); a BLANK line gives its edge
(R130); FRAME_END closes the frame with its AUX (R133); AUX of a known TAG that fits joins the frame (R133). Time passes until the
packet's end.
A packet of any type whose CRC fails is counted and discarded: only the check's context, the input's counters, the time and
INPUT:0x03 tell of it (R128). -/
def Obligations.WellheadPacketsComplete : Prop :=
  (∀ (p : WlPkt) (r : WlRx) (c : Ctx) (s : State), Arrives p r c .pass s →
    s.cap.ins.length = 8 →
    (r.type = 1 → ∃ t, exec (.wlFormat p) s = .next t ∧ (t.inp p.input).packets = (s.inp p.input).packets + 1
      ∧ (t.inp p.input).format = some r.payload ∧ (t.inp p.input).fnum = leNat ((r.payload.drop 8).take 4)
      ∧ (t.inp p.input).fden = leNat ((r.payload.drop 12).take 4) ∧ t.clk = s.clk + p.wait + p.span
      ∧ (leNat (r.payload.take 2) ≠ (s.inp p.input).pixels → (t.inp p.input).verdict = some false
          ∧ (⟨0x02, 0x07, p.input, 0xFF⟩ : Cause) ∈ t.flt.causes))
    ∧ (r.type = 2 → ∃ t, exec (.wlFrameStart p) s = .next t ∧ (t.inp p.input).packets = (s.inp p.input).packets + 1
      ∧ (t.inp p.input).frame = some r.h1.toNat ∧ (t.inp p.input).inFrame = true ∧ (t.inp p.input).high = 0
      ∧ (t.inp p.input).accepted = (s.inp p.input).formatOk ∧ (t.inp p.input).edged = some 0
      ∧ t.clk = s.clk + p.wait + p.span)
    ∧ (∀ f l, r.type = 3 → (s.inp p.input).frame = some f → (s.inp p.input).line = none → fld r.h2 15 0 = l →
        (s.inp p.input).high ≤ l → fld r.h2 31 16 = 0 →
        ∃ t, exec (.wlLine p) s = .next t ∧ (t.inp p.input).packets = (s.inp p.input).packets + 1
          ∧ (t.inp p.input).high = l ∧ (t.inp p.input).edged = some l ∧ (t.inp p.input).frame = some f
          ∧ (bit r.h3 8 = false → (t.inp p.input).line = some l
              ∧ (t.inp p.input).nextPix = (unpackLine (s.inp p.input).packing r.payload).2
              ∧ (t.inp p.input).samples = (unpackLine (s.inp p.input).packing r.payload).1)
          ∧ (bit r.h3 8 = true → (t.inp p.input).line = none ∧ (t.inp p.input).samples = []))
    ∧ (∀ f l, r.type = 4 → (s.inp p.input).frame = some f → fld r.h2 15 0 = l → (s.inp p.input).high ≤ l →
        ∃ t, exec (.wlBlank p) s = .next t ∧ (t.inp p.input).packets = (s.inp p.input).packets + 1
          ∧ (t.inp p.input).high = l ∧ (t.inp p.input).edged = some l ∧ (t.inp p.input).line = none)
    ∧ (r.type = 5 → ∃ t, exec (.wlFrameEnd p) s = .next t ∧ (t.inp p.input).inFrame = false ∧ (t.inp p.input).line = none
        ∧ ((s.inp p.input).inFrame = true → (t.inp p.input).aux = []
            ∧ (t.inp p.input).codes = ((((s.inp p.input).aux.find? fun x => x.tag == 1).map fun x => x.data) :: (s.inp p.input).codes).take 2))
    ∧ (r.type = 6 → (s.inp p.input).inFrame = true →
        fld r.h3 31 16 = 1 ∨ fld r.h3 31 16 = 2 ∨ 0x8000 ≤ fld r.h3 31 16 →
        auxBytes (s.inp p.input).aux + r.payload.length + 8 ≤ 2048 →
        ∃ t, exec (.wlAux p) s = .next t ∧ t.clk = s.clk + p.wait + p.span
          ∧ (t.inp p.input).aux = (s.inp p.input).aux ++ [⟨fld r.h3 31 16, r.h1.toNat, r.payload⟩]))
  ∧ (∀ (p : WlPkt) (r : WlRx) (c : Ctx) (s : State), Arrives p r c .crcFail s →
    ∀ i ∈ [Instr.wlFormat p, .wlFrameStart p, .wlLine p, .wlBlank p, .wlFrameEnd p, .wlAux p],
      exec i s = .next (((((s.idleBlocks p).useCtx p.input c).onIn p.input fun x => { x with packets := x.packets + 1 }).pass
        p.span |>.onIn p.input fun x => { x with crcErrs := x.crcErrs + 1 }).raise 0x02 0x03 p.input))


/-- Alignment, SDI and rows. The second right marker on the last lane aligns the link, the third wrong one in turn on a lane
loses it, with INPUT:0x06 (R126). A line of an SDI input gives its edge and counts, and on the line that starts a frame its
payload identifier gives the verdict (R135). A row that is needed and did not come whole is coded as skip, with INPUT:0x01 (R143,
R144). -/
def Obligations.AlignmentAndRowsComplete : Prop := ∀ (s : State), s.cap.ins.length = 8 →
  (∀ n i since (b : WlBlock), i < 8 → (s.inp i).kind = 1 → (s.inp i).lanes = 1 → (s.inp i).good = [1] →
    (s.inp i).bad.length = 1 → (s.inp i).marks.length = 1 → (s.inp i).aligned = false → (s.pass n).inputTested i = false →
    blockType b = some 0xD2 → (tab (s.inp i).marks 0 = none ∨ since = 16384) →
    (blockBytes b).getD 1 0 = 0 → ((blockBytes b).getD 2 0).toNat = (s.inp i).linkId → (blockBytes b).getD 5 0 = 1 →
    ∃ t, exec (.wlAmBlock n i 0 since b.sync b.lo b.hi b.before) s = .next t ∧ (t.inp i).aligned = true ∧ t.clk = s.clk + n)
  ∧ (∀ n i lane since (b : WlBlock), i < 8 → (s.inp i).kind = 1 → lane < (s.inp i).lanes →
    (s.inp i).bad.length = (s.inp i).lanes → (s.inp i).aligned = true → tab (s.inp i).bad lane = 2 → blockType b ≠ some 0xD2 →
    ∃ t, exec (.wlAmBlock n i lane since b.sync b.lo b.hi b.before) s = .next t ∧ (t.inp i).aligned = false
      ∧ (t.inp i).verdict = none ∧ (⟨0x02, 0x06, i, 0xFF⟩ : Cause) ∈ t.flt.causes)
  ∧ (∀ d : SdiLine, d.input < 8 → (s.inp d.input).kind = 2 → (s.pass d.wait).inputTested d.input = false →
    ∃ t, exec (.sdiLine d) s = .next t
      ∧ (t.inp d.input).aligned = true ∧ (t.inp d.input).packets = (s.inp d.input).packets + 1
      ∧ (t.inp d.input).edged = some d.line ∧ t.clk = s.clk + d.wait + d.span
      ∧ (d.crcOk = false → (t.inp d.input).crcErrs = (s.inp d.input).crcErrs + 1)
      ∧ (d.crcOk = true → (t.inp d.input).crcErrs = (s.inp d.input).crcErrs)
      ∧ (d.frameStart = true → d.pixels ≠ (s.inp d.input).pixels → (t.inp d.input).verdict = some false))
  ∧ (∀ c r g ipx, minBy (·.2) ((List.range 16).filterMap fun c => (s.neededAt c).map fun t => (c, t)) = some (c, r) →
      (s.ch c).cfg = some g → s.ipOf c = some ipx → (s.row? c (s.ch c).needF (s.ch c).needR) = none → c < s.enc.chans.length →
      (s.ch c).needR + 1 < g.ctuRows →
      ∃ t x, exec .rowNeeded s = .next t ∧ t.row? c (s.ch c).needF (s.ch c).needR = some x ∧ x.skip = true ∧ x.needed = true
        ∧ (t.ch c).needR = (s.ch c).needR + 1 ∧ (t.ch c).needF = (s.ch c).needF
        ∧ t.flt.reports.length = s.flt.reports.length + 1)

/-- Composition. A composer goes on with the line it has begun, or begins that of the row with the earliest deadline and moves its
pointer past that channel (R151); a line is done when its last blocks of 64 pixels are (R152; log entry 76). A row that is not
composed by its deadline is abandoned, with COMP:0x04 (R152); a frame boundary makes the channel's next frame its present one and
RUNNING what was starting (R166); a region that is due is compared: its signature is kept, and one that differs counts a mismatch and
raises COMP:0x07 for OVERLAY, 0x06 for CLEAN, 0x05 for the third kind (R172 to R175). -/
def Obligations.CompositionCompletes : Prop := ∀ (s : State) (n : Nat),
  (∀ cm blocks (u : State), cm < s.comp.ptrs.length → u = (s.pass n).turnRows → u.composable cm ≠ [] →
    ∃ t x y xb wb, x ∈ u.composable cm ∧ exec (.composeLine n ⟨cm, blocks⟩) s = .next t ∧ t.clk = s.clk + n
      ∧ ((∃ z ∈ u.composable cm, z.blocksOf cm ≠ 0) → x.blocksOf cm ≠ 0)
      ∧ (x.blocksOf cm = 0 → (∀ z ∈ u.composable cm, u.composeDeadline x ≤ u.composeDeadline z)
        ∧ tab t.comp.ptrs cm = (x.chan + 1) % 16)
      ∧ u.bandOf x.chan cm = some (xb, wb) ∧ y ∈ t.enc.rows ∧ y.chan = x.chan ∧ y.frame = x.frame ∧ y.row = x.row
      ∧ (ceilDiv wb 64 ≤ x.blocksOf cm + blocks → y.done cm = x.done cm + 1)
      ∧ (x.blocksOf cm + blocks < ceilDiv wb 64 → y.done cm = x.done cm ∧ y.blocksOf cm = x.blocksOf cm + blocks))
  ∧ (∀ x, minBy (fun x => s.composeDeadline x) (s.enc.rows.filter fun x =>
        s.composes x && x.slot.isSome && x.capT.isSome && !x.skip && !x.abandoned && x.composedAt.isNone) = some x →
      x.chan < s.comp.chans.length →
      ∃ t, exec .composeDeadline s = .next t ∧ (t.cc x.chan).abandoned = (s.cc x.chan).abandoned + 1
        ∧ (∀ y ∈ t.enc.rows, y.chan = x.chan → y.frame = x.frame → y.row = x.row → y.abandoned = true)
        ∧ ∃ l r, t.flt.reports = l ++ [r] ∧ r.cls = 0x03 ∧ r.code = 0x04)
  ∧ (∀ c r, minBy (·.2) ((List.range 16).filterMap fun c => (s.boundaryOf c).map fun t => (c, t)) = some (c, r) →
      s.host.armed = [] → s.enc.chans.length = 16 →
      ∃ t, exec .chFrameBoundary s = .next t ∧ (t.ch c).frame = some (s.ch c).nextFrame
        ∧ ((s.ch c).st = 1 → (t.ch c).st = 2) ∧ t.clk = (s.toTime r).clk)
  ∧ (∀ c i k g f hidden rest (r : Region), minBy (fun p => p.2.2) s.regionsDue = some (c, i, k) → (s.ch c).cfg = some g →
      tab (s.cc c).regions i = r → r.frames = (f, hidden) :: rest → c < s.comp.chans.length → i < (s.cc c).regions.length →
      ∃ t q, exec .signatureCompare s = .next t ∧ tab (t.cc c).regions i = q ∧ q.frames = rest
        ∧ q.acc = r.acc.filter (fun p => f < p.frame)
        ∧ ((∀ n ∈ r.rows g.ctu, ∀ x, s.row? c f n = some x → x.spoilt = false) → hidden = false → (r.kind = 3 → r.mode = 1) →
            q.last = w32 (r.sign f 0 3) ∧ q.lastFrame = f ∧ (r.kind ≠ 3 → q.ref = w32 (r.sign f 4 6))
              ∧ (r.sign f 0 3 ≠ (if r.kind = 3 then r.ref.toNat else r.sign f 4 6) →
                  q.mismatches = r.mismatches + 1
                  ∧ ∃ p l, t.flt.reports = s.flt.reports ++ p :: l ∧ p.cls = 0x03
                    ∧ p.code = if r.kind = 3 then 0x07 else if r.kind = 1 then 0x06 else 0x05)))

/-- Block copies. With nothing running and the destination writable the oldest descriptor starts (R187); at its end the picture
is written, the buffer is published where asked, and the command completes, with BLIT:0x02 if something it read was bad (R180,
R187), and not before its rates let it (R183); a deadline that passes marks it, with BLIT:0x01 (R187). The dead window opens at the
first line after the picture and closes before the next, and the rate changes with it (R188); while the timeline is not LOCKED there is
none, with BLIT:0x03 (R189). -/
def Obligations.BlockCopiesComplete : Prop := ∀ (s : State) (n : Nat),
  (∀ b rest, s.blit.running = none → s.blit.queue = b :: rest → s.bufWritable b.dstSurf b.dstBuf = true →
    exec .blitStart s = .next (s.onBlit fun x => { x with queue := rest, running := some (b, s.clk), moved := (0, s.clk) }))
  ∧ (∀ b k bad, s.blit.running = some (b, k) → (∀ d, b.dl = some d → (s.pass n).now ≤ d) →
    ((s.pass n).blitDone = false → exec (.blitComplete n bad) s = .next (s.pass n))
    ∧ (∀ df sf, (s.pass n).blitDone = true → s.surf? b.dstSurf = some df → (s.surf? b.srcSurf).getD df = sf →
      exec (.blitComplete n bad) s =
        let u := (s.pass n).onMem fun m => { m with gddr := b.run df sf bad m.gddr }
        let t := (if b.hit df bad then u.raise 0x04 0x02 else u).onBlit fun x =>
          { x with running := none, moved := (0, s.clk + n) }
        .next ((if b.publish then t.blitPublish b.dstSurf b.dstBuf else t).complete 0x0348 b.key .ok
          [b01 (b.hit df bad) + 2 * b01 b.missed])))
  ∧ (∀ b k r, s.blit.running = some (b, k) → b.dl = some r → b.missed = false →
    exec .blitDeadline s =
      .next (((s.toTime r).raise 0x04 0x01).onBlit fun x => { x with running := some ({ b with missed := true }, k) }))
  ∧ (∀ c p, s.blit.deadCh = some c → s.ipOf c = some p → (s.trk (5 + (s.ip p).input)).st = 2 → s.blit.window = false →
      (s.inp (s.ip p).input).lines < (s.trk (5 + (s.ip p).input)).e →
      ∃ t, exec .deadWindowOpen s = .next t ∧ t.blit.window = true ∧ t.blit.offSeen = false ∧ t.blit.running = s.blit.running
        ∧ t.mem = s.mem ∧ t.enc = s.enc)
  ∧ (∀ c p, s.blit.deadCh = some c → s.ipOf c = some p → (s.trk (5 + (s.ip p).input)).st ≠ 2 → s.blit.offSeen = false →
      exec .deadWindowOpen s = .next ((s.raise 0x04 0x03).onBlit fun b => { b with offSeen := true }))
  ∧ (s.blit.window = true → ∃ t, exec .deadWindowClose s = .next t ∧ t.blit.window = false ∧ t.blit.running = s.blit.running
      ∧ t.mem = s.mem ∧ t.enc = s.enc)

/-- Rows on their way through the encoder. A row is made ready at its issue time (R259); a sounder analyses the next line of the row
with the earliest deadline and, after the last, writes its summary (R216); bands that are not analysed by the deadline are marked
PARTIAL or STALE (R217); at its guard time a task is marked GUARDED with ENCODE:0x01 (R235); at its deadline an unfinished task is
underrun with ENCODE:0x02 (R225); a channel stops after its last picture, and armed sets that wait for its boundaries are
discarded (R243). -/
def Obligations.RowsComplete : Prop := ∀ (s : State) (n : Nat), s.enc.chans.length = 16 →
  (∀ r u, minBy (·.2) s.rowsToIssue = some (r, u) →
    ∃ t, exec .rowIssue s = .next t ∧ t.clk = (s.toTime u).clk
      ∧ (∀ y ∈ t.enc.rows, y.chan = r.chan → y.frame = r.frame → y.row = r.row → y.readied = true))
  ∧ (∀ sd blocks r k g (u : State), u = (s.pass n).turnRows → minBy (fun p => u.composeDeadline p.1) (u.enc.rows.filterMap fun r =>
        match (u.ch r.chan).cfg, (u.bandsOf r.chan).idxOf? sd with
        | some g, some k =>
          if !r.skip && r.bandStatus k = 3 && r.analysed k < u.linesComposed g r then some (r, k, g) else none
        | _, _ => none) = some (r, k, g) →
      ∃ t, exec (.sounderLine n sd blocks) s = .next t ∧ t.clk = s.clk + n
        ∧ (∃ y ∈ t.enc.rows, y.chan = r.chan ∧ y.frame = r.frame ∧ y.row = r.row ∧ y.analysed k = r.analysed k + 1
            ∧ (r.analysed k + 1 = g.rowLines r.row → y.bandStatus k = 0)
            ∧ (r.analysed k + 1 ≠ g.rowLines r.row → y.bandStatus k = 3)))
  ∧ (∀ r, minBy (fun r => s.composeDeadline r) (s.enc.rows.filter fun r => r.capT.isSome && !r.skip && !s.sounded r) = some r →
      ∃ t, exec .soundingDeadline s = .next t ∧ t.clk = (s.toTime (s.composeDeadline r)).clk
        ∧ (∃ y ∈ t.enc.rows, y.chan = r.chan ∧ y.frame = r.frame ∧ y.row = r.row
            ∧ ∀ k < (s.bandsOf r.chan).length, y.bandStatus k ≠ 3))
  ∧ (∀ x, minBy (·.guardT) s.guardable = some x →
      ((s.toTime x.guardT).guardable.filter fun y => decide (y.guardT ≤ x.guardT)) = [x] →
      ∃ t, exec .rowGuard s = .next t ∧ (∀ y ∈ t.enc.tasks, y.id = x.id → y.guarded = true)
        ∧ (x.chan < 16 → (t.ch x.chan).guarded = (s.ch x.chan).guarded + 1)
        ∧ ∃ l r l', t.flt.reports = s.flt.reports ++ l ++ r :: l' ∧ r.cls = 0x05 ∧ r.code = 0x01)
  ∧ (∀ x, minBy (·.deadline) s.unfinished = some x → s.task? x.id = some x → (s.ch x.chan).cfg.isSome = true →
      ((s.toTime x.deadline).unfinished.filter fun y => decide (y.deadline ≤ x.deadline)) = [x] →
      ∃ t, exec .rowDeadline s = .next t ∧ (∀ y ∈ t.enc.tasks, y.id = x.id → y.st = 4)
        ∧ (x.chan < 16 → (t.ch x.chan).underrun = (s.ch x.chan).underrun + 1)
        ∧ ∃ l r l', t.flt.reports = s.flt.reports ++ l ++ r :: l' ∧ r.cls = 0x05 ∧ r.code = 0x02)
  ∧ (∀ c u, minBy (·.2) ((List.range 16).filterMap fun c => (s.stopOf c).map fun t => (c, t)) = some (c, u) →
      ∃ t, exec .chStopBoundary s = .next t ∧ (t.ch c).st = 0 ∧ (∀ x ∈ t.host.armed, x.chan = c → 2 ≤ x.kind)
        ∧ t.clk = (s.toTime u).clk)

/-- Tasks in the units of Dispatch. An idle enabled unit at the pointer of its class takes the first task that it may take, which
runs from this clock (R288); a unit that ends its task is idle and counts it, and a coding task whose result keeps to the rules of
coding has taken no more bits than its budget (R209, R254; log entry 66); a hardware producer whose task was refused submits it once there is credit (R292); an engine that fails a
coding task gives it back once, with ENCODE:0x03 (R211); a reserve path that ends its task is free (R235). -/
def Obligations.UnitTasksComplete : Prop := ∀ (s : State) (n : Nat), s.ds.units.length = 42 → s.enc.engines.length = 16 →
  (∀ cls e, cls < 4 → tab s.ds.ptrs cls < classUnits cls → s.ds.ptrs.length = 4 →
    (tab s.ds.units (classBase cls + tab s.ds.ptrs cls)).enabled = true →
    (tab s.ds.units (classBase cls + tab s.ds.ptrs cls)).holds = none → classBase cls + tab s.ds.ptrs cls ≠ 28 →
    firstEnt (s.ds.takable (s.clk + n) (classBase cls + tab s.ds.ptrs cls)) = some e →
    ∃ t, exec (.taskPull n cls) s = .next t ∧ t.clk = s.clk + n
      ∧ (tab t.ds.units (classBase cls + tab s.ds.ptrs cls)).holds = some e.key
      ∧ (∃ x ∈ t.ds.pool, x.key = e.key ∧ x.desc = e.desc ∧ x.st = 1)
      ∧ (∀ u < 42, (tab s.ds.units u).enabled = false → (tab t.ds.units u).holds = (tab s.ds.units u).holds))
  ∧ (∀ u r e x, u < 16 → (tab s.ds.units u).holds.bind s.ent = some e → e.unit = u → e.desc.type = 1 →
      s.task? e.desc.payload = some x → x.guarded = false → (s.pass n).codedOk x false r = true →
      ∃ t, exec (.taskComplete n u (.coded r)) s = .next t ∧ t.clk = s.clk + n ∧ (tab t.ds.units u).holds = none
        ∧ (tab t.ds.units u).tasks = (tab s.ds.units u).tasks + 1
        ∧ (∀ y ∈ t.enc.tasks, y.id = x.id → y.st = 3 ∧ y.res.bits = codedBits r ∧ y.res.bits ≤ x.budget
          ∧ y.res.recon = planesCrc r.samples))
  ∧ (∀ u bad e, u < 42 → (tab s.ds.units u).holds.bind s.ent = some e → e.unit = u → e.desc.type = 10 →
      ∃ t, exec (.taskComplete n u (.moved bad)) s = .next t ∧ (tab t.ds.units u).holds = none ∧ t.mem.gddr = s.mem.gddr)
  ∧ (∀ h, s.ds.held = [h] → h.producer ≠ 13 → s.ds.hasCredit h.desc = true →
      exec .producerRetry s = .next (((s.pass 1).onDs fun d =>
        { d with held := [] }).accept h.producer h.desc none none))
  ∧ (∀ u e x, u < 16 → (tab s.ds.units u).holds.bind s.ent = some e → e.unit = u → e.desc.type = 1 →
      s.task? e.desc.payload = some x → x.guarded = false → x.retried = false → x.st = 1 → (tab s.enc.engines u).errors.length < 2 →
      ∃ t, exec (.engineError n u) s = .next t ∧ (tab t.ds.units u).holds = none
        ∧ (∀ y ∈ t.enc.tasks, y.id = x.id → y.retried = true ∧ y.st = 0)
        ∧ ∃ r l, t.flt.reports = s.flt.reports ++ r :: l ∧ r.cls = 0x05 ∧ r.code = 0x03)
  ∧ (∀ p r x, p < 16 → (tab s.enc.engines p).path.bind s.task? = some x → s.entOf 1 x.id = none →
      (∀ y ∈ s.enc.tasks, y.st ≠ 5) → (s.pass n).codedOk x true r = true →
      ∃ t, exec (.reserveComplete n p (.coded r)) s = .next t ∧ t.clk = s.clk + n ∧ (tab t.enc.engines p).path = none
        ∧ (∀ y ∈ t.enc.tasks, y.id = x.id → y.st = 3))

/-- Rate control by time. The phase that is due first starts on the channel's dipper, and of several due by then on one dipper that of
the channel which R37 picks (R268); a row without a budget 10 microseconds
before its issue time falls back, with RATE:0x03 (R275); a group's period boundary gives its settings and the new rates (R266,
R280); the manager pools the reports of a row 30 microseconds before their time and forgets them (R274), and in an array
the array manager does so for the clusters (R279).
Dispatch by time. The delay-list entry that is due first is released once there is credit for it (R299); a task that still
waits at its deadline is marked, with DISPATCH:0x02, and stays where it is (R304); a task in service beyond its limit is marked,
with DISPATCH:0x04 and its cause for that unit (R304). -/
def Obligations.RateControlAndDispatchTimesComplete : Prop :=
  (∀ (s : State),
    (∀ first u r p c k d (l : List (RowRec × Nat × Nat)), minBy (·.2.2) s.phaseStarts = some (first, u) →
      d = (s.ch first.chan).dip → d < s.dip.startPtr.length →
      l = (s.toTime u.2).phaseStarts.filter (fun x => decide (x.2.2 ≤ (if u.2 ≤ s.now then u.2 else (s.toTime u.2).now))
        && (s.ch x.1.chan).dip == d) →
      rotPick (tab s.dip.startPtr d) 16 (l.map (·.1.chan)) = some c →
      minBy (·.2.2) (l.filter (·.1.chan == c)) = some (r, p, k) → p ≠ 3 →
      ∃ t, exec .rcPhaseStart s = .next t ∧ t.clk = (s.toTime u.2).clk ∧ t.dip.nextStart = s.dip.nextStart + 1
        ∧ tab t.dip.startPtr d = (c + 1) % 16
        ∧ (∃ x ∈ t.dip.starts, x.id = s.dip.nextStart ∧ x.dip = (s.ch r.chan).dip ∧ x.bind = c ∧ x.phase = p
            ∧ x.frame = r.frame ∧ x.row = r.row)
        ∧ (∀ y ∈ s.enc.rows, y.chan = r.chan → y.frame = r.frame → y.row = r.row →
            ∃ z ∈ t.enc.rows, z.chan = r.chan ∧ z.frame = r.frame ∧ z.row = r.row ∧ z.phases = p :: y.phases))
    ∧ (∀ r u, s.enc.shareDue = none →
        minBy (·.2) ((s.programRows.filter fun r => s.firstPhase r = 1 && !r.phases.contains 2 && !s.hasBudget r).map fun r =>
          ((some r : Option RowRec), s.issueTime r.chan r.start - 10 * usU)) = some (some r, u) →
        r.chan < s.enc.chans.length →
        ∃ t, exec .rcFallbackPoint s = .next t ∧ t.clk = (s.toTime u).clk
          ∧ (t.ch r.chan).clrc.fallFrame = (s.ch r.chan).clrc.fallFrame + 1
          ∧ (t.ch r.chan).clrc.fallRun = (s.ch r.chan).clrc.fallRun + 1
          ∧ (∃ x ∈ t.dip.starts, x.bind = r.chan ∧ x.phase = 2 ∧ x.frame = r.frame ∧ x.row = r.row))
    ∧ (∀ i u, minBy (·.2) ((List.range 8).filterMap fun i =>
          if (tab s.enc.groups i).on || (tab s.enc.groups i).held.isSome then some (i, (tab s.enc.groups i).due s.now)
          else none) = some (i, u) → s.enc.groups.length = 8 →
        ∃ t, exec .groupPeriod s = .next t ∧ t.clk = (s.toTime u).clk ∧ (tab t.enc.groups i).held = none
          ∧ (tab t.enc.groups i).last = u ∧ (∀ k, k ≠ i → tab t.enc.groups k = tab s.enc.groups k) ∧ t.mem = s.mem)
    ∧ (∀ ref l, s.poolOf false = some (ref, l) →
        ∃ t, exec .rcCollect s = .next t ∧ t.clk = ((s.reportGroup ref l).toTime (ref - 30 * usU)).clk
          ∧ ∀ q ∈ t.enc.reports, ∀ r ∈ l, ¬ (q.mosaic = r.mosaic ∧ q.row = r.row ∧ q.member = r.member))
    ∧ (∀ ref l, s.strapRole = 3 → s.poolOf true = some (ref, l) →
        ∃ t, exec .arrayShare s = .next t ∧ t.clk = (s.toTime (ref - 30 * usU)).clk
          ∧ ∀ q ∈ t.enc.reports, ∀ r ∈ l, ¬ (q.row = r.row ∧ q.member = r.member ∧ q.chan = r.chan)))
  ∧ (∀ (s : State),
    (∀ e, minBy (fun e => s.ds.dueTime s.now e) ((List.range 4).filterMap fun l => (s.ds.waiting s.now l).head?) = some e →
      s.ds.hasCredit e.desc = true →
      ∃ t x, exec .delayRelease s = .next t ∧ t.ds.next = s.ds.next + 1 ∧ t.clk = (if s.ds.dueTime s.now e = s.now then s.clk + 1 else (s.toTime (s.ds.dueTime s.now e)).clk)
        ∧ x ∈ t.ds.pool ∧ x.key = s.ds.next ∧ x.desc = e.desc ∧ x.host = e.host ∧ x.producer = 8 + e.list ∧ x.st = 0)
    ∧ (∀ e, minBy (fun e => e.desc.dl.getD 0) (s.ds.pool.filter fun e => e.st == 0 && !e.passed && e.desc.dl.isSome) = some e →
      ∃ t x, exec .taskDeadline s = .next t ∧ t.clk = (s.toTime (e.desc.dl.getD 0)).clk ∧ x ∈ t.ds.pool
        ∧ x = { e with passed := true } ∧ t.ds.pool.length = s.ds.pool.length
        ∧ ∃ l r, t.flt.reports = s.flt.reports ++ l ++ [r] ∧ r.cls = 0x0F ∧ r.code = 0x02)
    ∧ (∀ e, minBy (fun e => e.limit s) (s.ds.pool.filter fun e => e.st == 1 && !e.timed) = some e →
      ∃ t x, exec .serviceTimeout s = .next t ∧ t.clk = s.clk + (e.limit s - s.clk) ∧ x ∈ t.ds.pool
        ∧ x = { e with timed := true } ∧ (⟨0x0F, 0x04, e.unit, 0xFF⟩ : Cause) ∈ t.flt.causes
        ∧ ∃ r, t.flt.reports = s.flt.reports ++ [r] ∧ r.cls = 0x0F ∧ r.code = 0x04))

/-- Arithmetic and logic of the dippers: each instruction writes its result, computed from the registers or the immediate that it
names, to rd, goes on at the next address, and takes its cycles; of the rest of the block only time moves (R311, R313, R315).
`put` and `putPair` write rd, or rd and rd + 1, and go on; d0 stays 0. -/
def Obligations.DipperArithmeticCompletes : Prop := ∀ (d : Nat),
  Performs (.dipNop d) d 0x00 1 (fun r _ => r.goto (r.pc + 1))
  ∧ Performs (.dipAdd d) d 0x01 1 (fun r w => r.put (rdOf w) (r.reg (raOf w) + r.reg (rbOf w)))
  ∧ Performs (.dipSub d) d 0x02 1 (fun r w => r.put (rdOf w) (r.reg (raOf w) - r.reg (rbOf w)))
  ∧ Performs (.dipAnd d) d 0x03 1 (fun r w => r.put (rdOf w) (r.reg (raOf w) &&& r.reg (rbOf w)))
  ∧ Performs (.dipOr d) d 0x04 1 (fun r w => r.put (rdOf w) (r.reg (raOf w) ||| r.reg (rbOf w)))
  ∧ Performs (.dipXor d) d 0x05 1 (fun r w => r.put (rdOf w) (r.reg (raOf w) ^^^ r.reg (rbOf w)))
  ∧ Performs (.dipShl d) d 0x06 1 (fun r w => r.put (rdOf w) (r.reg (raOf w) <<< (fld (r.reg (rbOf w)) 4 0)))
  ∧ Performs (.dipShr d) d 0x07 1 (fun r w => r.put (rdOf w) (r.reg (raOf w) >>> (fld (r.reg (rbOf w)) 4 0)))
  ∧ Performs (.dipSra d) d 0x08 1 (fun r w => r.put (rdOf w) ((r.reg (raOf w)).sshiftRight (fld (r.reg (rbOf w)) 4 0)))
  ∧ Performs (.dipMin d) d 0x09 1 (fun r w => r.put (rdOf w)
      (if (r.reg (rbOf w)).slt (r.reg (raOf w)) then r.reg (rbOf w) else r.reg (raOf w)))
  ∧ Performs (.dipMax d) d 0x0A 1 (fun r w => r.put (rdOf w)
      (if (r.reg (raOf w)).slt (r.reg (rbOf w)) then r.reg (rbOf w) else r.reg (raOf w)))
  ∧ Performs (.dipMinu d) d 0x0B 1 (fun r w => r.put (rdOf w)
      (if (r.reg (rbOf w)).ult (r.reg (raOf w)) then r.reg (rbOf w) else r.reg (raOf w)))
  ∧ Performs (.dipMaxu d) d 0x0C 1 (fun r w => r.put (rdOf w)
      (if (r.reg (raOf w)).ult (r.reg (rbOf w)) then r.reg (rbOf w) else r.reg (raOf w)))
  ∧ Performs (.dipSlt d) d 0x0D 1 (fun r w => r.put (rdOf w) (if (r.reg (raOf w)).slt (r.reg (rbOf w)) then 1 else 0))
  ∧ Performs (.dipSltu d) d 0x0E 1 (fun r w => r.put (rdOf w) (if (r.reg (raOf w)).ult (r.reg (rbOf w)) then 1 else 0))
  ∧ Performs (.dipMul d) d 0x0F 1 (fun r w => r.put (rdOf w) (r.reg (raOf w) * r.reg (rbOf w)))
  ∧ Performs (.dipMul64 d) d 0x10 2 (fun r w => r.putPair (rdOf w)
      (low64 ((r.reg (raOf w)).toInt * (r.reg (rbOf w)).toInt)))
  ∧ Performs (.dipMul64u d) d 0x11 2 (fun r w => r.putPair (rdOf w) ((r.reg (raOf w)).toNat * (r.reg (rbOf w)).toNat))
  ∧ Performs (.dipDivw d) d 0x12 34 (fun r w => r.put (rdOf w)
      (if r.reg (rbOf w) = 0 then 0xFFFFFFFF
       else w32 (min 0xFFFFFFFF
        (((r.reg (raOf w + 1)).toNat * 4294967296 + (r.reg (raOf w)).toNat) / (r.reg (rbOf w)).toNat))))
  ∧ Performs (.dipDivu d) d 0x13 18 (fun r w => r.put (rdOf w)
      (if r.reg (rbOf w) = 0 then 0xFFFFFFFF else w32 ((r.reg (raOf w)).toNat / (r.reg (rbOf w)).toNat)))
  ∧ Performs (.dipQmul d) d 0x14 2 (fun r w => r.put (rdOf w)
      (satQ (((r.reg (raOf w)).toInt * (r.reg (rbOf w)).toInt + 32768) / 65536)))
  ∧ Performs (.dipQdiv d) d 0x15 18 (fun r w => r.put (rdOf w) (qDiv (r.reg (raOf w)) (r.reg (rbOf w))))
  ∧ Performs (.dipQlog2 d) d 0x16 6 (fun r w => r.put (rdOf w) (qLog2 (r.reg (raOf w))))
  ∧ Performs (.dipQsqrt d) d 0x17 18 (fun r w => r.put (rdOf w) (qSqrt (r.reg (raOf w))))
  ∧ Performs (.dipAddi d) d 0x20 1 (fun r w => r.put (rdOf w) (r.reg (raOf w) + immS w))
  ∧ Performs (.dipAndi d) d 0x21 1 (fun r w => r.put (rdOf w) (r.reg (raOf w) &&& immU w))
  ∧ Performs (.dipOri d) d 0x22 1 (fun r w => r.put (rdOf w) (r.reg (raOf w) ||| immU w))
  ∧ Performs (.dipXori d) d 0x23 1 (fun r w => r.put (rdOf w) (r.reg (raOf w) ^^^ immU w))
  ∧ Performs (.dipShli d) d 0x24 1 (fun r w => r.put (rdOf w) (r.reg (raOf w) <<< fld w 4 0))
  ∧ Performs (.dipShri d) d 0x25 1 (fun r w => r.put (rdOf w) (r.reg (raOf w) >>> fld w 4 0))
  ∧ Performs (.dipSrai d) d 0x26 1 (fun r w => r.put (rdOf w) ((r.reg (raOf w)).sshiftRight (fld w 4 0)))
  ∧ Performs (.dipLui d) d 0x27 1 (fun r w => r.put (rdOf w) (w32 (fld w 17 0 * 16384)))

/-- Memory, ports and control flow of the dippers (R312, R315, R324, R326): LD and ST reach the data window of the run's binding;
IN samples its port in the first clock and OUT takes effect in the last of its cycles; branches, loops, calls and returns set the
pc; WAIT returns the masked flags at once, or waits; YIELD ends the run. -/
def Obligations.DipperControlCompletes : Prop := ∀ (d : Nat),
  (∀ (s : State) (r : Run) (w : Word), At d 0x28 r w s → exec (.dipLd d) s =
    .next ((s.toClk (max r.next s.clk + 2)).onDp d fun x => { x with
      run := some { r.put (rdOf w) (windowRead ((s.dp d).window (r.windowOf d) r.num) (r.reg (raOf w) + immS w)) with
        next := max r.next s.clk + 2, cycles := r.cycles + 1 } }))
  ∧ (∀ (s : State) (r : Run) (w : Word), At d 0x29 r w s → ∃ t, exec (.dipSt d) s = .next t
      ∧ (∃ r', (t.dp d).run = some r' ∧ r'.regs = r.regs ∧ r'.cycles = r.cycles + 1)
      ∧ (∀ v ∈ (s.dp d).windows, v.bind = r.windowOf d → v.num = r.num →
          ∃ v' ∈ (t.dp d).windows, v'.bind = v.bind ∧ v'.num = v.num
            ∧ v'.words = v.words.set ((r.reg (raOf w) + immS w).toNat / 4) (r.reg (rdOf w)))
      ∧ (∀ v ∈ (s.dp d).windows, ¬ (v.bind = r.windowOf d ∧ v.num = r.num) → v ∈ (t.dp d).windows)
      ∧ (∀ k, k ≠ d → t.dp k = s.dp k) ∧ t.mem = s.mem)
  ∧ (∀ (s : State) (r : Run) (w : Word), At d 0x2A r w s → portOf w = 0x34 ∨ portOf w = 0x35 → exec (.dipIn d) s =
    .next (((s.toClk (max r.next s.clk)).toClk (max r.next s.clk + 8)).onDp d fun x => { x with
      run := some { r.put (rdOf w) (w32 (if portOf w = 0x34 then r.cycles else r.budget)) with
        next := max r.next s.clk + 8, cycles := r.cycles + 4 } }))
  ∧ (∀ (s : State) (r : Run) (w : Word), At d 0x2A r w s → portOf w = 0x30 → ∃ t r', exec (.dipIn d) s = .next t
      ∧ (t.dp d).run = some r' ∧ (t.dp d).latch = (s.toClk (max r.next s.clk)).now
      ∧ r' = { r.put (rdOf w) (w32 (tNs (s.toClk (max r.next s.clk)).now)) with
          next := max r.next s.clk + 8, cycles := r.cycles + 4 })
  ∧ (∀ (s : State) (r : Run) (w : Word), At d 0x2B r w s → ownRow d (portOf w) = false → exec (.dipOut d) s =
    .next ((((s.toClk (max r.next s.clk + 3)).writePort d r (portOf w) (r.reg (rdOf w))).toClk (max r.next s.clk + 4)).onDp d
      fun x => { x with run := some { r.goto (r.pc + 1) with next := max r.next s.clk + 4, cycles := r.cycles + 2 } }))
  ∧ Performs (.dipBcc d) d 0x30 2 (fun r w =>
      r.goto (if condHolds (condOf w) (r.reg (rdOf w)) (r.reg (raOf w)) then r.pc + 1 + offOf w else r.pc + 1))
  ∧ Performs (.dipLoop d) d 0x32 1 (fun r w => r.enter (countOf w) (lenOf w))
  ∧ Performs (.dipLoopr d) d 0x33 1 (fun r w => r.enter (min (r.reg (rdOf w)).toNat (maxOf w)) (lenOf w))
  ∧ Performs (.dipBreak d) d 0x34 2 (fun r _ =>
      match r.loops with
      | l :: rest => { r with loops := rest }.goto l.stop
      | [] => r.goto (r.pc + 1))
  ∧ Performs (.dipCall d) d 0x35 2 (fun r w =>
      { r with calls := (r.pc + 1) :: r.calls, pc := ((r.pc + 1 : Nat) + callOff w).toNat })
  ∧ Performs (.dipRet d) d 0x36 2 (fun r _ =>
      match r.calls with
      | a :: rest => { r with calls := rest }.goto a
      | [] => r.goto (r.pc + 1))
  ∧ (∀ (s : State) (r : Run) (w : Word), At d 0x38 r w s →
      ((s.toClk (max r.next s.clk + 4)).pendingFlags d r &&& maskOf' w = 0 → exec (.dipWait d) s =
        .next ((s.toClk (max r.next s.clk + 4)).onDp d fun x => { x with
          run := some { r with wait := some ⟨maskOf' w, rdOf w, s.clk + (max r.next s.clk + 4 - s.clk), timeoutOf w⟩ } }))
      ∧ ((s.toClk (max r.next s.clk + 4)).pendingFlags d r &&& maskOf' w ≠ 0 → ∃ t r', exec (.dipWait d) s = .next t
          ∧ (t.dp d).run = some r' ∧ r'.wait = none ∧ r'.cycles = r.cycles + 2
          ∧ r'.regs = (r.setReg (rdOf w) (w32 ((s.toClk (max r.next s.clk + 4)).pendingFlags d r &&& maskOf' w))).regs))
  ∧ (∀ (s : State) (r : Run) (q : WaitRec), d < s.dip.dips.length → (s.dp d).run = some r → r.wait = some q →
      ∃ t r', exec (.waitReturn d) s = .next t ∧ (t.dp d).run = some r' ∧ r'.wait = none
        ∧ (s.pendingFlags d r &&& q.mask ≠ 0 → t.clk = s.clk
            ∧ r'.regs = (r.setReg q.rd (w32 (s.pendingFlags d r &&& q.mask))).regs))
  ∧ (∀ (s : State) (r : Run) (w : Word), At d 0x39 r w s → ∃ t, exec (.dipYield d) s = .next t ∧ (t.dp d).run = none
      ∧ (t.dp d).runs = (s.dp d).runs + 1 ∧ (t.dp d).ended = s.clk + (max r.next s.clk + 2 - s.clk))

/-- Runs of the dippers. An idle dipper begins the run of the start that its unit holds, or, DP6, of the oldest start record, which
it takes from the queue (R117, R319); a run beyond its budget, or the built-in packaging program, ends, with DIPPER:0x01 (R320, R321; log entry 44); a single-bit error of its
memory is corrected, with DIPPER:0x07, a double-bit error in the instruction fetched ends the run and has its program rewritten,
with DIPPER:0x03 (R323); the program that is due is rewritten between runs (R323); a load ends with the checks of its image, and a
program that passes them stands in the dipper (R331, R332). -/
def Obligations.DipperRunsComplete : Prop := ∀ (s : State) (d n : Nat), d < 8 → s.dip.dips.length = 8 →
  (∀ p q rest, (s.dp 6).run = none → (s.dp 6).packing = none → s.time.startQ = q :: rest →
    (s.dp 6).progs.find? (·.num == q.script) = some p → p.disabled = false → p.broken = false → p.budgets.getD 0 0 ≠ 0 →
    ∃ t r, exec (.dipperRunStart 6) s = .next t ∧ t.time.startQ = rest ∧ (t.dp 6).run = some r ∧ r.num = p.num
      ∧ r.builtin = false ∧ r.pc = p.base + p.offsets.getD 0 0 ∧ r.budget = p.budgets.getD 0 0 ∧ r.began = s.clk
      ∧ r.reg 0 = 0 ∧ r.reg 1 = w32 (at' q.flags 12 + q.slot) ∧ r.reg 2 = w32 (tNs q.t) ∧ r.reg 3 = w32 (tSec q.t))
  ∧ (∀ e st p, d < 4 → (s.dp d).run = none → (s.dp d).packing = none →
    (tab s.ds.units (22 + d)).holds.bind s.ent = some e → s.start? e.desc.payload = some st →
    s.boundProg st.bind = some p → p.disabled = false → p.broken = false → p.budgets.getD st.phase 0 ≠ 0 →
    ∃ t r, exec (.dipperRunStart d) s = .next t ∧ (t.dp d).run = some r ∧ r.num = p.num ∧ r.bind = st.bind
      ∧ r.phase = st.phase ∧ r.frame = st.frame ∧ r.row = st.row ∧ r.pc = p.base + p.offsets.getD st.phase 0
      ∧ r.budget = p.budgets.getD st.phase 0 ∧ r.began = s.clk)
  ∧ (∀ r, (s.dp d).run = some r → ∃ t, exec (.dipperWatchdog d) s = .next t ∧ (t.dp d).run = none
      ∧ (t.dp d).watchdogs = (s.dp d).watchdogs + 1 ∧ t.clk = s.clk + (r.began + 2 * (r.budget + 1) - s.clk)
      ∧ ∃ l x l', t.flt.reports = s.flt.reports ++ l ++ x :: l' ∧ x.cls = 0x10 ∧ x.code = 0x01)
  ∧ (∀ id hook, (s.dp d).run = none → (s.dp d).packing = some (id, hook) →
      (∃ t, exec (.dipperWatchdog d) s = .next t ∧ (t.dp d).packing = none ∧ (t.dp d).watchdogs = (s.dp d).watchdogs + 1
        ∧ t.dip.reloads = s.dip.reloads ++ [(d, builtinProg d 0, s.clk + msC)]
        ∧ ∃ l x l', t.flt.reports = s.flt.reports ++ l ++ x :: l' ∧ x.cls = 0x10 ∧ x.code = 0x01)
      ∧ (∃ t, exec (.dipperMemError n d 1) s = .next t ∧ (t.dp d).packing = none
        ∧ t.dip.reloads = s.dip.reloads ++ [(d, builtinProg d 0, s.clk + n + msC)]
        ∧ ∃ l x l', t.flt.reports = s.flt.reports ++ l ++ x :: l' ∧ x.cls = 0x10 ∧ x.code = 0x03))
  ∧ (exec (.dipperMemError n d 0) s = .next ((s.pass n).raise 0x10 0x07 d))
  ∧ (∀ r, (s.dp d).run = some r → ∃ t, exec (.dipperMemError n d 1) s = .next t ∧ (t.dp d).run = none
      ∧ t.dip.reloads = s.dip.reloads ++ [(d, r.num, s.clk + n + msC)]
      ∧ ∃ l x l', t.flt.reports = s.flt.reports ++ l ++ x :: l' ∧ x.cls = 0x10 ∧ x.code = 0x03)
  ∧ (∀ k num due rest, s.dip.reloads.filter (fun q => (s.dp q.1).run.isNone && (s.dp q.1).packing.isNone) =
      (k, num, due) :: rest →
      ∃ t, exec (.programReload n) s = .next t ∧ t.clk = s.clk + min n (due - s.clk)
        ∧ t.dip.reloads = s.dip.reloads.erase (k, num, due)
        ∧ (s.broken k num = true → t.dip.builtinBroken = s.dip.builtinBroken.erase (k, num))
        ∧ (k < 8 → s.broken k num = false → ∀ p ∈ (t.dp k).progs, p.num = num → p.broken = false))
  ∧ (∀ q p, s.dip.load = some q → q.dip < 8 →
      checkImage (s.pass (min n (q.clk + 50 * msC - s.clk))) q.dip q.num ((List.range q.words).map s.staged) = .ok p →
      ∃ t, exec (.dipLoadDone n) s = .next t ∧ t.dip.load = none ∧ (t.dp q.dip).progs = (s.dp q.dip).progs ++ [p]
        ∧ ∀ i < p.n, (t.dp q.dip).word (p.base + i) = p.code.getD i 0)

/-- Ports of a dipper with rows of their own. PORT_ISSUE takes its two cycles and issues the run's row where that is not issued
(R259); PORT_EVT_ADD answers its slot, or why it refuses (R327, R328); PORT_EVT_CANCEL frees a slot that a script added and
no other (R328); the first PORT_USER_EVT of a run writes a DIP_USER event and the first PORT_USER_FAULT raises DIPPER:0x06,
later ones do not (R325). -/
def Obligations.DipperPortsComplete : Prop := ∀ (s : State) (d : Nat) (r : Run) (w : Word), At d 0x2B r w s →
  (portOf w = 0x0E → d < 4 → ∃ t r', exec (.portIssue d) s = .next t ∧ (t.dp d).run = some r'
    ∧ r' = { r.goto (r.pc + 1) with next := max r.next s.clk + 4, cycles := r.cycles + 2 }
    ∧ (∀ x g l, s.row? r.bind r.frame r.row = some x → r.reg (rdOf w) = 1 → x.issued = false → x.readied = false →
        x.skip = false → s.issuesRow r.bind r.frame r.row = true → (s.ch r.bind).cfg = some g → (s.ch r.bind).lay = some l →
        ∀ y ∈ t.enc.rows, y.chan = r.bind → y.frame = r.frame → y.row = r.row → y.issued = true))
  ∧ (portOf w = 0x10 → d = 6 → ∃ t r', exec (.portEvtAdd d) s = .next t ∧ (t.dp d).run = some r'
    ∧ r'.cycles = r.cycles + 2
    ∧ (r.reg (rdOf w) ≠ 1 → t.dip.result = s.dip.result ∧ t.time.evts = s.time.evts)
    ∧ (r.reg (rdOf w) = 1 → t.dip.result ≠ 0))
  ∧ (portOf w = 0x12 → d = 6 → ∃ t, exec (.portEvtCancel d) s = .next t
    ∧ (∀ e, alookup s.time.evts (fld (r.reg (rdOf w)) 9 0) = some e →
        (e.byScript = true → alookup t.time.evts (fld (r.reg (rdOf w)) 9 0) = none ∧ t.dip.result = s.dip.result)
        ∧ (e.byScript = false → t.time.evts = s.time.evts ∧ t.dip.result = 0x10000000))
    ∧ (alookup s.time.evts (fld (r.reg (rdOf w)) 9 0) = none → t.time.evts = s.time.evts ∧ t.dip.result = 0x10000000))
  ∧ (portOf w = 0x36 → ∃ t r', exec (.portUserEvt d) s = .next t ∧ (t.dp d).run = some r' ∧ r'.evtSent = true
    ∧ (r.evtSent = false → s.host.passes 0x0701 = true → t.host.seq = s.host.seq + 1)
    ∧ (r.evtSent = true → t.host.seq = s.host.seq ∧ ∃ x, t.flt.reports = s.flt.reports ++ [x] ∧ x.cls = 0x10 ∧ x.code = 0x05))
  ∧ (portOf w = 0x37 → ∃ t r', exec (.portUserFault d) s = .next t ∧ (t.dp d).run = some r' ∧ r'.faultSent = true
    ∧ (r.faultSent = false → ∃ x, t.flt.reports = s.flt.reports ++ [x] ∧ x.cls = 0x10 ∧ x.code = 0x06)
    ∧ (r.faultSent = true → t.flt.reports = s.flt.reports))

/-- The confidence decoder. The records whose slice and references are complete are submitted (R338); at the end of a decode task
DECODED, the CRC of the samples that the engine and concealment give, is compared with EXPECT where the stream compares, a
difference counts and makes a CLEAN stream DIVERGED (R341, R346, R358); at
the check deadline what is pending of a stream is cancelled and its check is SUSPENDED, with INTEGRITY:0x05 (R343).
Return feeds. A packet of a configured feed that is next in order goes on, one with a sequence number behind the window or
in it already is discarded, one of no supported format is counted (R349, R350); numbers that a packet has waited for in vain are
lost (R350); a feed that hears nothing for TIMEOUT is WAITING, with DECODE:0x09 (R351); each second the rate is measured, and a
feed above the limit SUSPENDED, with DECODE:0x05 (R353), and the happenings of the second are raised once (R360). -/
def Obligations.DecodeTasksAndFeedsComplete : Prop :=
  (∀ (s : State) (n : Nat),
    (∀ r g, (s.pass n).decodable = [r] → (s.ch r.chan).cfg = some g →
      ∃ t, exec (.decodeReady n) s = .next t ∧ t.clk = s.clk + n ∧ (∀ y ∈ t.dec.recs, y.id = r.id → y.st = 1)
        ∧ ((∃ x ∈ t.ds.pool, x.desc.type = 3 ∧ x.desc.payload = r.id) ∨ (∃ h ∈ t.ds.held, h.desc.payload = r.id)))
    ∧ (∀ u res e r x j decoded, (tab s.ds.units u).holds.bind s.ent = some e → e.unit = u → u < s.ds.units.length →
        e.desc.type = 3 → s.dec.recs.find? (·.id == e.desc.payload) = some r → s.task? r.task = some x → s.job? x = some j →
        j.decodedOk res = true → s.twin.role ≤ 1 → (s.chk r.stream).st = 0 → r.stream < s.dec.streams.length → res.error = false →
        decoded = planesCrc (j.decoded (coLocated (s.chk x.stream).dpb x) res.ctus) →
        ∃ t, exec (.decodeComplete n u res) s = .next t ∧ t.clk = s.clk + n ∧ (tab t.ds.units u).holds = none
          ∧ (t.chk r.stream).compared = (s.chk r.stream).compared + 1
          ∧ (decoded = r.expect % 4294967296 → (t.chk r.stream).st = 0
              ∧ (t.chk r.stream).mismatches = (s.chk r.stream).mismatches)
          ∧ (decoded ≠ r.expect % 4294967296 →
              (t.chk r.stream).mismatches = (s.chk r.stream).mismatches + 1 ∧ (t.chk r.stream).lastFrame = r.frame
              ∧ (t.chk r.stream).st = 1
              ∧ ∃ l x l', t.flt.reports = s.flt.reports ++ l ++ x :: l' ∧ x.cls = 0x07 ∧ x.code = 0x01))
    ∧ (∀ r, minBy (·.deadline) (s.dec.recs.filter s.decPending) = some r → s.twin.role ≤ 1 →
        ((s.toTime r.deadline).dec.recs.filter fun q =>
          (s.toTime r.deadline).decPending q && decide (q.deadline ≤ (s.toTime r.deadline).now)) = [r] →
        r.stream < s.dec.streams.length → (s.chk r.stream).st ≠ 3 →
        ∃ t, exec .checkDeadline s = .next t ∧ (t.chk r.stream).st = 3
          ∧ (∀ y ∈ t.dec.recs, y.id = r.id → y.st = 3 ∧ y.result = 3)
          ∧ ∃ x ∈ t.flt.causes, x.cls = 0x07 ∧ x.code = 0x05))
  ∧ (∀ (s : State) (n : Nat), s.dec.feeds.length = 8 →
    (∀ i p, i < 8 → (s.rf i).st ≠ 0 → ∃ t, exec (.feedPacket n i p) s = .next t ∧ (t.rf i).heard = s.clk + n
        ∧ (⟨0x08, 0x09, i, 0xFF⟩ : Cause) ∉ t.flt.causes
        ∧ (p.supported = false → (t.rf i).other = (s.rf i).other + 1 ∧ (t.rf i).window = (s.rf i).window)
        ∧ (∀ k, p.supported = true → (s.rf i).next = some k → 32768 ≤ seqAhead p.seq k →
            (t.rf i).window = (s.rf i).window ∧ (t.rf i).next = some k)
        ∧ (p.supported = true → (s.rf i).next = some p.seq → (s.rf i).window = [] → p.seq < 65536 →
            (t.rf i).window = [] ∧ (t.rf i).next = some ((p.seq + 1) % 65536) ∧ (t.rf i).lost = (s.rf i).lost)
        ∧ (∀ k, p.supported = true → (s.rf i).next = some k → (s.rf i).window = [] → 0 < seqAhead p.seq k →
            seqAhead p.seq k < 256 → p.seq < 65536 → k < 65536 →
            (t.rf i).window = [⟨p, s.clk + n⟩] ∧ (t.rf i).next = some k ∧ (t.rf i).lost = (s.rf i).lost))
    ∧ (∀ i w k, minBy (fun x => x.2.clk) ((List.range 8).flatMap fun i => (s.rf i).window.map fun w => (i, w)) = some (i, w) →
        (s.rf i).window = [w] → (s.rf i).next = some k → w.pkt.seq < 65536 →
        ∃ t, exec .feedReorderExpire s = .next t ∧ t.clk = s.clk + (w.clk + 2 * msC - s.clk) ∧ (t.rf i).window = []
          ∧ (t.rf i).next = some ((w.pkt.seq + 1) % 65536) ∧ (t.rf i).lost = (s.rf i).lost + w32 (seqAhead w.pkt.seq k))
    ∧ (∀ i u, minBy (·.2) ((List.range 8).filterMap fun i =>
          if 2 ≤ (s.rf i).st then some (i, (s.rf i).heard + (s.rf i).timeout * msC) else none) = some (i, u) →
        ∃ t, exec .feedTimeout s = .next t ∧ t.clk = s.clk + (u - s.clk) ∧ (t.rf i).st = 1 ∧ (t.rf i).started = false
          ∧ (⟨0x08, 0x09, i, 0xFF⟩ : Cause) ∈ t.flt.causes)
    ∧ (∃ t, exec .feedRateMeasure s = .next t ∧ t.clk = (s.toTime s.dec.rateAt).clk ∧ ∀ i < 8,
        ((s.rf i).st = 0 → t.rf i = s.rf i)
        ∧ ((s.rf i).st ≠ 0 → (t.rf i).measured = (s.rf i).luma ∧ (t.rf i).luma = 0)
        ∧ ((s.rf i).luma ≤ 1500000000 → (t.rf i).st = (s.rf i).st)
        ∧ (1500000000 < (s.rf i).luma → (s.rf i).st = 3 → (t.rf i).st = 4 ∧ (⟨0x08, 0x05, i, 0xFF⟩ : Cause) ∈ t.flt.causes))
    ∧ (∃ t, exec .feedErrorSecond s = .next t ∧ t.clk = (s.toTime s.dec.second).clk ∧ ∀ i < 8,
        (∀ k, (t.rf i).sec.getD k 0 = 0) ∧ (t.rf i).st = (s.rf i).st
        ∧ ((s.rf i).sec.getD 2 0 ≠ 0 → ∃ x ∈ t.flt.reports, x.cls = 0x08 ∧ x.code = 0x03)))

/-- Audio. A frame edge of a follower stamps the frame, which is received, or replaced by a repeat of the last one where it has not
as many bit clocks as configured (R365); a leader drives APn_FS at the media time of its next frame (R366); the measured rate is
updated every 100 ms (R370); a follower that sees no edge within 8 periods is UNLOCKED, with AUDIO:0x02 (R373); at its write
deadline the next frame is written, as silence where it is not complete and valid (R374, R378). -/
def Obligations.AudioCompletes : Prop := ∀ (s : State), s.aud.ports.length = 4 →
  (∀ n p bits l, p < 4 → (s.ap p).st ≠ 0 → (s.ap p).cfg.leader = false →
    ∃ t x, exec (.audioFrame n p bits l) s = .next t ∧ t.clk = s.clk + n ∧ (t.ap p).last = s.raw + s.time.addend * n
      ∧ (t.ap p).received = (s.ap p).received + 1 ∧ (t.ap p).lost = false ∧ (t.ap p).ins = (x :: (s.ap p).ins).take 96
      ∧ (⟨0x09, 0x02, p, 0xFF⟩ : Cause) ∉ t.flt.causes
      ∧ (bits = (s.ap p).cfg.frameBits → x.samples = l.take (s.ap p).cfg.nChan ∧ x.again = false
          ∧ (t.ap p).discarded = (s.ap p).discarded)
      ∧ (bits ≠ (s.ap p).cfg.frameBits → x.samples = ((s.ap p).ins.head?.map (·.samples)).getD [] ∧ x.again = true
          ∧ (t.ap p).discarded = (s.ap p).discarded + 1))
  ∧ (∀ p l, p < 4 → (s.ap p).st ≠ 0 → (s.ap p).cfg.leader = true →
    ∃ t, exec (.audioLeaderFrame p l) s = .next t
      ∧ t.clk = (s.toTime (mediaTime (fsOf (s.ap p).cfg.portFs) (s.ap p).drive)).clk
      ∧ (⟨.audioFs, [p, (s.ap p).drive], t.now⟩ : Out) ∈ t.out ∧ (t.ap p).received = (s.ap p).received + 1
      ∧ (s.ap p).drive < (t.ap p).drive)
  ∧ (∀ p, minBy (fun p => (s.ap p).update) s.audOn = some p →
    ∃ t, exec .audRateUpdate s = .next t ∧ t.clk = s.clk + ((s.ap p).update - s.clk)
      ∧ (t.ap p).update = (s.ap p).update + 100 * msC
      ∧ (∀ m, (s.ap p).measure (s.toClk (s.ap p).update).raw = some m → (t.ap p).rate = some m)
      ∧ (∀ q, q ≠ p → t.ap q = s.ap q))
  ∧ (∀ p u, minBy (·.2) (s.audOn.filterMap fun p => (s.ap p).lossAt.map fun t => (p, t)) = some (p, u) →
    ∃ t, exec .audioClockLoss s = .next t ∧ t.raw = (s.toRaw u).raw ∧ (t.ap p).st = 1 ∧ (t.ap p).lost = true
      ∧ (⟨0x09, 0x02, p, 0xFF⟩ : Cause) ∈ t.flt.causes)
  ∧ (∀ p, minBy (fun p => (s.ap p).deadline) s.audOn = some p →
    ∃ t, exec .audioWriteDeadline s = .next t ∧ t.clk = (s.toTime (s.ap p).deadline).clk ∧ (t.ap p).next = (s.ap p).next + 1
      ∧ (t.ap p).wrote = true
      ∧ ((s.ap p).needs (s.ap p).next = none → (t.ap p).silent = (s.ap p).silent + 1 ∧ (t.ap p).inRun = true
          ∧ (s.mem.gddr.wf = true → (s.ap p).next % 16 ≠ 15 →
              Mem.readWords t.mem.gddr ((s.ap p).frameAddr p (s.ap p).next) (s.ap p).cfg.nChan
                = List.replicate (s.ap p).cfg.nChan 0)
          ∧ ((s.ap p).inRun = false → ∃ x, t.flt.reports = s.flt.reports ++ [x] ∧ x.cls = 0x09 ∧ x.code = 0x01)))

/-- Packaging and the transmitters. A packaging dipper that packs a row queues its packets where its queues have room, and its
start is over (R385); an audio packet is built once all its frames are past their write deadline (R396); a transmitter that is
idle sends the frame that it chooses at the first moment at which it may (R418); a packet of a port that cannot send is discarded
at its release time and counted (R411). -/
def Obligations.PacketsComplete : Prop := ∀ (s : State) (n : Nat),
  (∀ d id hook st, d < s.dip.dips.length → (s.dp d).packing = some (id, hook) → s.start? id = some st →
    s.queueRoom st.bind (s.pv st.bind).dual (s.rowBytes st.bind st.frame st.row hook) = true →
    ∃ t, exec (.packageRow n d) s = .next t ∧ t.clk = s.clk + n ∧ (t.dp d).packing = none ∧ (t.dp d).ended = s.clk + n
      ∧ (∀ x ∈ t.dip.starts, x.id ≠ id))
  ∧ (∀ a, a < 8 → a < s.pkg.audio.length → (s.pa a).on = true → (s.ap (s.pa a).port).st ≠ 0 → s.standby = false →
      s.queueRoom (32 + a) (s.pa a).dual 9216 = true → (s.pa a).ts = false →
      ((s.ap (s.pa a).port).next
          < (s.pa a).next.getD (s.ap (s.pa a).port).next + ptimeFrames (s.ap (s.pa a).port).cfg.fs (s.pa a).ptime →
        exec (.audioPacketBuild n a) s = .next ((s.pass n).onPa a fun x =>
          { x with next := some ((s.pa a).next.getD (s.ap (s.pa a).port).next) }))
      ∧ (∀ k, (s.pa a).next = some k → k + ptimeFrames (s.ap (s.pa a).port).cfg.fs (s.pa a).ptime
            ≤ (s.ap (s.pa a).port).next →
          ∃ t, exec (.audioPacketBuild n a) s = .next t ∧ t.clk = s.clk + n
            ∧ (t.pa a).next = some (k + ptimeFrames (s.ap (s.pa a).port).cfg.fs (s.pa a).ptime)
            ∧ (t.pa a).seq = ((s.pa a).seq + 1) % 65536 ∧ t.mem = s.mem))
  ∧ (∀ p u v w q f, p < 4 → s.net.ports.length = 4 → s.txTime p = some u → v = s.toTime u →
      w = (v.txHeads p).foldl (fun s x => s.holdHead p x) v →
      w.choose p ((w.txHeads p).filter fun x => w.startable p x.2.1 x.2.2 && decide ((w.port p).idleAt ≤ w.clk)) = some (q, f) →
      ∃ t, exec (.txSelect p) s = .next t ∧ t.clk = v.clk ∧ (t.port p).sent = (s.port p).sent + 1
        ∧ tab t.net.ptrs p = (if p < s.net.ptrs.length then (q + 1) % 64 else 0)
        ∧ ∃ x ∈ t.out, x.t = t.now ∧ ∃ len content, x.kind = .frame p q len content)
  ∧ (∀ p q y f, p < 4 → s.net.ports.length = 4 → q < s.net.queues.length →
      minBy (fun x => x.2.2.release) (s.doomed p) = some (q, y, f) →
      ∃ t, exec (.txDiscard p) s = .next t ∧ t.clk = (s.toTime f.release).clk
        ∧ (t.queue q).frames = (s.queue q).frames.drop 1
        ∧ (t.port p).discarded = (s.port p).discarded + 1 ∧ (t.port p).downRaised = true
        ∧ ((s.port p).downRaised = false → ∃ x l, t.flt.reports = s.flt.reports ++ x :: l ∧ x.cls = 0x0B ∧ x.code = 0x05))

/-- Ports. A frame received with uncorrectable codewords is counted, and notes its second (R412); PAUSE is ignored but counted (R413); a
frame of no class is counted, one of a class drains its policer or is dropped (R413); ARP and echo requests to an own address
are answered (R413). A port that goes down, or comes up, says so, with its cause (R411); at the end of a second with
uncorrectable codewords NET:0x02 is raised (R412); a gate list replaces another at its start (R428), and the clock runs to the
next entry of the lists in force (R426). -/
def Obligations.PortSignalsComplete : Prop := ∀ (s : State) (n p : Nat), p < 4 → s.net.ports.length = 4 →
  (∀ f, s.hears p = true →
    (f.badCodewords ≠ 0 → ∃ t, exec (.portRxFrame n p f) s = .next t ∧ t.clk = s.clk + n
        ∧ (t.port p).uncorrectable = (s.port p).uncorrectable + w32 f.badCodewords
        ∧ (t.port p).corrected = (s.port p).corrected + w32 f.fixedCodewords
        ∧ (t.port p).badAt = some (s.pass n).second ∧ (t.port p).received = (s.port p).received
        ∧ (∀ x, (s.port p).badAt = some x → x < (s.pass n).second →
            ∃ r, t.flt.reports = s.flt.reports ++ [r] ∧ r.cls = 0x0B ∧ r.code = 0x02 ∧ r.data = p))
    ∧ (f.badCodewords = 0 → f.pause = true → ∃ t, exec (.portRxFrame n p f) s = .next t ∧ t.clk = s.clk + n
        ∧ (t.port p).received = (s.port p).received + 1 ∧ (t.port p).unclassified = (s.port p).unclassified)
    ∧ (f.badCodewords = 0 → f.pause = false → (s.pass n).ingress p f = none → ∃ t, exec (.portRxFrame n p f) s = .next t
        ∧ (t.port p).received = (s.port p).received + 1 ∧ (t.port p).unclassified = (s.port p).unclassified + 1)
    ∧ (∀ k, f.badCodewords = 0 → f.pause = false → (s.pass n).ingress p f = some k → k < (s.port p).policers.length →
        ∃ t, exec (.portRxFrame n p f) s = .next t ∧ (t.port p).received = (s.port p).received + 1
        ∧ (t.port p).unclassified = (s.port p).unclassified
        ∧ (s.counted p f.len * byteU ≤ ((tab (s.port p).policers k).fill (s.clk + n)).level →
            (tab (t.port p).policers k).drops = (tab (s.port p).policers k).drops
            ∧ (tab (t.port p).policers k).level
                = ((tab (s.port p).policers k).fill (s.clk + n)).level - s.counted p f.len * byteU)
        ∧ (((tab (s.port p).policers k).fill (s.clk + n)).level < s.counted p f.len * byteU →
            (tab (t.port p).policers k).drops = (tab (s.port p).policers k).drops + 1)))
  ∧ (∀ kind a len, s.hears p = true → 1 ≤ kind → kind ≤ 4 → s.answersFor p (kind == 2 || kind == 4) a = true →
      exec (.mgmtRx n p kind a len) s = .next ((s.pass n).enqueue (64 * p + 42)
        { len := if kind = 1 then 64 else if kind = 2 then 90 else len, release := (s.pass n).now, content := .reply kind a }))
  ∧ ((s.port p).up = true → ∃ t, exec (.portLinkDown n p) s = .next t ∧ t.clk = s.clk + n ∧ (t.port p).up = false
      ∧ (⟨0x0B, 0x01, p, 0xFF⟩ : Cause) ∈ t.flt.causes
      ∧ (s.host.passes 0x0B01 = true → t.host.seq = s.host.seq + 1))
  ∧ ((s.port p).up = false → s.portTested p = false → ∃ t, exec (.portLinkUp n p) s = .next t ∧ t.clk = s.clk + n ∧ (t.port p).up = true
      ∧ (⟨0x0B, 0x01, p, 0xFF⟩ : Cause) ∉ t.flt.causes
      ∧ (s.host.passes 0x0B01 = true → t.host.seq = s.host.seq + 1))
  ∧ (∀ x, minBy id ((List.range 4).filterMap fun p => (s.port p).badAt) = some x → (s.port p).badAt = some x →
      x < (s.toTime ((x + 1) * secU)).second →
      ∃ t, exec .fecSecond s = .next t ∧ (t.port p).badAt = none
      ∧ t.clk = (s.toTime ((x + 1) * secU)).clk ∧ ∃ r ∈ t.flt.reports, r.cls = 0x0B ∧ r.code = 0x02 ∧ r.data = p)
  ∧ (∀ q g, minBy (·.2.start) ((List.range 4).filterMap fun p => (s.port p).nextGates.map fun g => (p, g)) = some (q, g) →
      ∃ t, exec .gateListStart s = .next t ∧ t.clk = (s.toTime g.start).clk ∧ (t.port q).nextGates = none
        ∧ (t.port q).gates = (if g.entries = [] then none else some g))
  ∧ (∀ u, minBy id ((List.range 4).filterMap fun p =>
        match (s.port p).gates with
        | some g => (g.entry s.now).map (·.2.1)
        | none => none) = some u → exec .gateEntryChange s = .next (s.toTime u))

/-- PTP messages. A follower stamps a two-step Sync and awaits its Follow_Up, which completes it like a one-step Sync does: the
offset is the receive stamp less the corrected origin, the mean path delay and ASYM (R433, R434, R436); a leader answers Delay_Req
(R434); Delay_Resp completes an exchange (R436); a better Announce makes the clock select its sender, which a listening clock follows
from its first Sync on, and one that is not fit makes a listening clock leader (R436, R437, R439; log entry 40). Operations whose events have fired are none here.
PTP by time. A follower that hears no Announce within the receipt timeout is in HOLDOVER, with TIME:0x11 (R440), and a listening
clock becomes leader then (log entry 40); a leader sends
Sync and Announce, and a follower Delay_Req, each at its interval and numbered in turn (R434, R436, R439). -/
def Obligations.PtpCompletes : Prop :=
  (∀ (s : State) (m : PtpMsg), s.time.opsDue = [] →
    ((s.pass m.wait).fromLeader m = true →
      (m.twoStep = true → s.net.ptp.st ≠ 1 → exec (.ptpSyncRx m) s = .next ((s.pass m.wait).onPtp fun p =>
        { p with sync := some (m.seq, (s.pass m.wait).rxStamp m.port, corrU m.correction) }))
      ∧ (m.twoStep = true → s.net.ptp.st = 1 → ∃ t, exec (.ptpSyncRx m) s = .next t ∧ t.net.ptp.st = 2 ∧ t.clk = s.clk + m.wait
          ∧ t.net.ptp.sync = some (m.seq, (s.pass m.wait).rxStamp m.port, corrU m.correction))
      ∧ (m.twoStep = false → s.net.ptp.st = 3 → s.net.ptp.delays ≠ [] →
          s.net.ptp.jumps (s.net.ptp.offsetOf ((s.pass m.wait).rxStamp m.port) (m.time * nsU + corrU m.correction)) = false →
          ∃ t, exec (.ptpSyncRx m) s = .next t ∧ t.net.ptp.st = 3 ∧ t.clk = s.clk + m.wait
            ∧ t.net.ptp.offset
                = s.net.ptp.offsetOf ((s.pass m.wait).rxStamp m.port) (m.time * nsU + corrU m.correction)
            ∧ t.net.ptp.syncs = s.net.ptp.syncs + 1 ∧ (s.time.mode ≠ 2 → t.time = s.time))
      ∧ (∀ rx c, s.net.ptp.sync = some (m.seq, rx, c) → s.net.ptp.st = 3 → s.net.ptp.delays ≠ [] →
          s.net.ptp.jumps (s.net.ptp.offsetOf rx (m.time * nsU + corrU m.correction + c)) = false →
          ∃ t, exec (.ptpFollowUpRx m) s = .next t ∧ t.net.ptp.st = 3 ∧ t.net.ptp.sync = none
            ∧ t.net.ptp.offset = s.net.ptp.offsetOf rx (m.time * nsU + corrU m.correction + c)
            ∧ t.net.ptp.syncs = s.net.ptp.syncs + 1)
      ∧ (∀ q t3 rx origin, s.net.ptp.delayReq = some (q, t3) → q = m.seq → s.net.ptp.last = some (rx, origin) →
          s.net.ptp.st = 3 → exec (.ptpDelayRespRx m) s = .next ((s.pass m.wait).onPtp fun p => { p with
            delayReq := none
            delays := (quotI 437 ((rx - origin) + ((m.time * nsU - corrU m.correction) - t3)) 2 :: p.delays).take 16 })))
    ∧ ((s.pass m.wait).ptpHears m = true →
      (s.net.ptp.st = 6 → exec (.ptpDelayReqRx m) s = .next ((s.pass m.wait).sendPtp 9 m.seq 54
        [m.sender, ((s.pass m.wait).rxStamp m.port).toNat, low64 m.correction]))
      ∧ (∀ d : DataSet, d = ⟨m.prio1, m.cls, m.accuracy, m.variance, m.prio2, m.grand, m.steps, m.sender⟩ →
          (s.net.ptp.st = 1 ∧ s.net.ptp.leader = none ∨ s.net.ptp.st = 6) →
          ((s.net.ptp.cfg.followerOnly = true ∨ d.better s.net.ptp.cfg.own = true) →
            ∃ t, exec (.ptpAnnounceRx m) s = .next t ∧ t.net.ptp.st = (if s.net.ptp.st = 1 then 1 else 2) ∧ t.net.ptp.leader = some d
              ∧ t.net.ptp.heard = s.clk + m.wait ∧ (m.utcValid = true → t.net.ptp.utc = some m.utc))
          ∧ (s.net.ptp.cfg.followerOnly = false → d.better s.net.ptp.cfg.own = false →
            ∃ t, exec (.ptpAnnounceRx m) s = .next t ∧ t.net.ptp.st = 6 ∧ t.net.ptp.leader = s.net.ptp.leader))))
  ∧ (∀ (s : State),
    (2 ≤ s.net.ptp.st → s.net.ptp.st ≤ 4 → ∃ t, exec .ptpAnnounceTimeout s = .next t ∧ t.net.ptp.st = 5
      ∧ t.time.addend = s.time.addend ∧ (⟨0x01, 0x11, 0, 0xFF⟩ : Cause) ∈ t.flt.causes
      ∧ t.clk = s.clk + (s.net.ptp.heard + announceOut s.net.ptp.cfg.profile - s.clk))
    ∧ (s.net.ptp.st = 1 → s.net.ptp.leader = none → s.net.ptp.cfg.followerOnly = false → ∃ t, exec .ptpAnnounceTimeout s = .next t
      ∧ t.net.ptp.st = 6 ∧ t.clk = s.clk + (s.net.ptp.heard + announceOut s.net.ptp.cfg.profile - s.clk))
    ∧ (s.net.ptp.st = 6 → ∃ t, exec .ptpSyncTx s = .next t ∧ t.net.ptp.seqSync = (s.net.ptp.seqSync + 1) % 65536
      ∧ t.clk = s.clk + (s.net.ptp.nextSync - s.clk) ∧ t.net.ptp.nextSync = t.clk + syncC s.net.ptp.cfg.profile
      ∧ (64 * s.net.ptp.cfg.port + 40 < s.net.queues.length → ∃ f ∈ (t.queue (64 * s.net.ptp.cfg.port + 40)).frames,
          f.release = t.now ∧ f.content = .ptp 0 s.net.ptp.seqSync [b01 s.net.ptp.cfg.twoStep]))
    ∧ (s.net.ptp.st = 6 → ∃ t, exec .ptpAnnounceTx s = .next t ∧ t.net.ptp.seqAnnounce = (s.net.ptp.seqAnnounce + 1) % 65536
      ∧ t.clk = s.clk + (s.net.ptp.nextAnnounce - s.clk) ∧ t.net.ptp.nextAnnounce = t.clk + announceC s.net.ptp.cfg.profile)
    ∧ (2 ≤ s.net.ptp.st → s.net.ptp.st ≤ 4 → ∃ t, exec .ptpDelayReqTx s = .next t
      ∧ t.net.ptp.seqDelay = (s.net.ptp.seqDelay + 1) % 65536 ∧ t.clk = s.clk + (s.net.ptp.nextDelay - s.clk)
      ∧ t.net.ptp.nextDelay = t.clk + syncC s.net.ptp.cfg.profile
      ∧ (64 * s.net.ptp.cfg.port + 40 < s.net.queues.length → ∃ f ∈ (t.queue (64 * s.net.ptp.cfg.port + 40)).frames,
          f.release = t.now ∧ f.content = .ptp 1 s.net.ptp.seqDelay [])))

/-- Lanes. Amplitude below the threshold puts a lane that has been LOCKED into IDLE where IDLE_OK is set, else into LOS, which it
counts, with LANE:0x01 (R452, R455); a signal starts training, or the fast exit of an idle lane (R454, R457, R459); loss of lock
trains again, with LANE:0x02 (R454, R461); a lane that trains or exits locks (R459); a fast exit without lock within 1
microsecond trains, with LANE:0x03 (R457); adaptation freezes and resumes (R452, R453). No other lane changes where a lane is not
judged with others. -/
def Obligations.LaneSignalsComplete : Prop := ∀ (s : State) (n l : Nat), l < 34 → s.lane.lanes.length = 34 →
  ((s.lan l).st = 3 → (s.lan l).locked = true → ∃ t, exec (.laneLowAmplitude n l) s = .next t ∧ t.clk = s.clk + n
    ∧ (t.lan l).signal = false ∧ (∀ k, k ≠ l → t.lan k = s.lan k)
    ∧ ((s.lan l).idleOk = true → (t.lan l).st = 4 ∧ (t.lan l).frozen = true ∧ (t.lan l).los = (s.lan l).los)
    ∧ ((s.lan l).idleOk = false → (t.lan l).st = 6 ∧ (t.lan l).los = (s.lan l).los + 1
        ∧ (⟨0x0C, 0x01, l, 0xFF⟩ : Cause) ∈ t.flt.causes))
  ∧ (∃ t, exec (.laneSignalPresent n l) s = .next t ∧ t.clk = s.clk + n ∧ (t.lan l).signal = true
    ∧ (∀ k, k ≠ l → t.lan k = s.lan k)
    ∧ ((s.lan l).st = 1 → (t.lan l).st = 2 ∧ (t.lan l).trainFrom = s.clk + n)
    ∧ ((s.lan l).st = 6 → (t.lan l).st = 2 ∧ (⟨0x0C, 0x01, l, 0xFF⟩ : Cause) ∉ t.flt.causes)
    ∧ ((s.lan l).st = 4 → (t.lan l).st = 5 ∧ (t.lan l).exitFrom = s.clk + n - 150))
  ∧ ((s.lan l).st = 3 → ∃ t, exec (.laneLol n l) s = .next t ∧ (t.lan l).lol = (s.lan l).lol + 1
    ∧ (t.lan l).st = (if (s.lan l).signal then 2 else 1) ∧ (∀ k, k ≠ l → t.lan k = s.lan k)
    ∧ ∃ x l', t.flt.reports = s.flt.reports ++ x :: l' ∧ x.cls = 0x0C ∧ x.code = 0x02)
  ∧ ((s.lan l).st = 2 ∨ ((s.lan l).st = 5 ∧ s.clk + n ≤ (s.lan l).exitFrom + usC) →
    ∃ t, exec (.laneLock n l) s = .next t ∧ t.clk = s.clk + n ∧ (t.lan l).st = 3 ∧ (t.lan l).locked = true
      ∧ (∀ k, k ≠ l → t.lan k = s.lan k) ∧ (⟨0x0C, 0x04, l, 0xFF⟩ : Cause) ∉ t.flt.causes)
  ∧ ((s.pass n).laneBlocks l = true → ∃ t, exec (.adaptFreeze n l) s = .next t ∧ t.clk = s.clk + n
    ∧ (∀ k ∈ idleTogether l, (s.lan k).st = 3 → (t.lan k).frozen = true) ∧ (∀ k, (t.lan k).st = (s.lan k).st)
    ∧ (∀ k, k ∉ idleTogether l → t.lan k = s.lan k))
  ∧ ((s.pass n).laneBlocks l = true → ∃ t, exec (.adaptResume n l) s = .next t ∧ t.clk = s.clk + n
    ∧ (∀ k ∈ idleTogether l, (s.lan k).st = 3 → (t.lan k).frozen = false) ∧ (∀ k, (t.lan k).st = (s.lan k).st)
    ∧ (∀ k, k ∉ idleTogether l → t.lan k = s.lan k))
  ∧ (∀ k, minBy (fun l => (s.lan l).exitEnd) ((List.range 34).filter fun l => (s.lan l).st == 5) = some k →
    ∃ t, exec .laneExitTimeout s = .next t ∧ t.clk = s.clk + ((s.lan k).exitFrom + usC - s.clk)
      ∧ (t.lan k).st = (if (s.lan k).signal then 2 else 1) ∧ (∀ j, j ≠ k → t.lan j = s.lan j)
      ∧ ∃ x l', t.flt.reports = s.flt.reports ++ x :: l' ∧ x.cls = 0x0C ∧ x.code = 0x03)
  ∧ (∀ k, minBy (fun l => (s.lan l).trainEnd) ((List.range 30).filter fun l => (s.lan l).st == 2) = some k →
    ∃ t, exec .laneTrainTimeout s = .next t ∧ t.clk = s.clk + ((s.lan k).trainFrom + 20 * msC - s.clk)
      ∧ (t.lan k).failed = true ∧ (t.lan k).trainFrom = t.clk ∧ (∀ j, j ≠ k → t.lan j = s.lan j)
      ∧ ((s.lan k).failed = false → (⟨0x0C, 0x04, k, 0xFF⟩ : Cause) ∈ t.flt.causes))
  ∧ (∀ e, (s.lan l).test ≠ 0 → e ≠ 0 → exec (.prbsSecond l e) s = .next (((s.toTime ((s.second + 1) * secU)).onLan l fun x =>
      { x with prbs := satAdd x.prbs e 0xFFFFFFFF }).raise 0x0C 0x05 l))
  ∧ (∀ pre main post, 30 ≤ l → (pre ≤ 15 ∧ post ≤ 21 ∧ pre + post ≤ 21 ∧ main + pre + post = 63 →
        exec (.pcieEqRequest n l pre main post) s = .next ((s.pass n).onLan l fun x => { x with pre := pre, post := post }))
      ∧ (¬ (pre ≤ 15 ∧ post ≤ 21 ∧ pre + post ≤ 21 ∧ main + pre + post = 63) →
        exec (.pcieEqRequest n l pre main post) s = .next (s.pass n)))
  ∧ (∃ t, exec (.pcieIdleEntry n) s = .next t ∧ t.clk = s.clk + n ∧ (∀ k, 30 ≤ k → k < 34 → (t.lan k).frozen = true)
    ∧ ∀ k < 30, t.lan k = s.lan k)
  ∧ (∃ t, exec (.pcieIdleExit n) s = .next t ∧ t.clk = s.clk + n ∧ (∀ k, 30 ≤ k → k < 34 → (t.lan k).frozen = false)
    ∧ ∀ k < 30, t.lan k = s.lan k)

/-- Heartbeats of a pair. A paired module sends one on both paths every microsecond, numbered (R471; the last one of an active
module in safe state is another matter, R482); one that is heard renews its path and tells the partner's state, FIT and the
frames that it has (R470, R471); a path without one for 4 microseconds is lost, with TWIN:0x02 while the other lives; with both
lost an active module is UNPAIRED, with TWIN:0x01, and a standby starts take-over (R472, R473), which ends after at most 6
microseconds with the module ACTIVE (R483). The lanes align on the second correct marker of each and lose alignment on the third
wrong one of a lane (R126, R469). -/
def Obligations.TwinHeartbeatsComplete : Prop := ∀ (s : State),
  (s.twin.role ≠ 0 → (s.flt.safe = none ∨ s.twin.role ≠ 1) → ∃ t, exec .twinHeartbeatTx s = .next t
    ∧ t.clk = s.clk + (s.twin.nextBeat - s.clk) ∧ t.twin.nextBeat = t.clk + usC ∧ t.twin.count = (s.twin.count + 1) % 65536
    ∧ t.twin.nack = false ∧ t.twin.role = s.twin.role
    ∧ ∃ x ∈ t.out, x.t = t.now ∧ x.kind = .twin tHeartbeat
      ∧ x.args = (s.cvu.ctx 8).aliveNext :: ((s.toClk s.twin.nextBeat).beatWords false).map BitVec.toNat)
  ∧ (∀ f ws w, Twinned f tHeartbeat s → s.twin.role ≠ 0 → ws = payloadWords f.payload → w = ws.getD 0 0 →
      fld w 31 24 ≠ 0 → bit w 16 = false → bit w 17 = false → bit w 19 = false → bit w 20 = false →
      s.twin.seen ≠ some (fld w 15 0) → ∃ t, exec (.twinHeartbeatRx f) s = .next t ∧ t.clk = s.clk + f.wait
        ∧ t.twin.link = some t.clk ∧ t.twin.path = s.twin.path ∧ t.twin.seen = some (fld w 15 0)
        ∧ t.twin.partnerSt = fld w 31 24 ∧ t.twin.partnerFit = bit w 18 ∧ t.twin.role = s.twin.role
        ∧ t.twin.sent = s.twin.sent.filter fun x => !seqFrom (ws.getD 1 0).toNat x.seq)
  ∧ (∀ a, s.twin.role ≠ 0 → s.twin.link = some a →
      (∀ b, s.twin.path = some b → a < b → s.clk < b + 4 * usC → ∃ t, exec .heartbeatPathLoss s = .next t
        ∧ t.clk = s.clk + (a + 4 * usC - s.clk) ∧ t.twin.link = none ∧ t.twin.path = some b ∧ t.twin.role = s.twin.role
        ∧ (⟨0x0D, 0x02, 0, 0xFF⟩ : Cause) ∈ t.flt.causes)
      ∧ (s.twin.path = none → s.twin.role = 1 → ∃ t, exec .heartbeatPathLoss s = .next t
        ∧ t.clk = s.clk + (a + 4 * usC - s.clk) ∧ t.twin.role = 0 ∧ (⟨0x0D, 0x01, 0, 0xFF⟩ : Cause) ∈ t.flt.causes)
      ∧ (s.twin.path = none → 2 ≤ s.twin.role → s.twin.takeover = none → ∃ t, exec .heartbeatPathLoss s = .next t
        ∧ t.clk = s.clk + (a + 4 * usC - s.clk) ∧ t.twin.role = s.twin.role
        ∧ t.twin.takeover = some (t.clk, 0, s.twin.role == 3)))
  ∧ (∀ n began cause locked, s.twin.takeover = some (began, cause, locked) → ∃ t, exec (.takeoverComplete n) s = .next t
      ∧ t.twin.role = 1 ∧ t.twin.takeover = none ∧ t.twin.issues = []
      ∧ (cause ≤ 1 → ∃ x ∈ t.flt.reports, x.cls = 0x0D ∧ x.code = 0x03))
  ∧ (∀ n l since (b : WlBlock), l ≤ 3 →
      (∀ count, s.twin.aligned = false → s.twin.good.length = 4 → s.twin.marks.length = 4 → blockType b = some 0xD2 →
        markerOf b s.twin.marks 2 l since (b01 (!s.selB)) 4 (s.pass n).raw = (count, true) →
        1 ≤ tab s.twin.good l → (∀ k, k < 4 → k ≠ l → 2 ≤ tab s.twin.good k ∧ ∃ x, tab s.twin.marks k = some (count, x)) →
        ∃ t, exec (.twinLinkAmBlock n l since b.sync b.lo b.hi b.before) s = .next t ∧ t.clk = s.clk + n ∧ t.twin.aligned = true)
      ∧ (s.twin.aligned = true → s.twin.bad.length = 4 → 2 ≤ tab s.twin.bad l → blockType b ≠ some 0xD2 →
        ∃ t, exec (.twinLinkAmBlock n l since b.sync b.lo b.hi b.before) s = .next t ∧ t.clk = s.clk + n ∧ t.twin.aligned = false
          ∧ t.twin.good = [0, 0, 0, 0] ∧ t.twin.bad = [0, 0, 0, 0]))

/-- The siphon at a module of a pair (R474 to R477). Task records of an ISSUE frame join those held of their row; slices and row
states replace a part of the same number in the row's shadow; ROW_END tells its count and CRC, and with the record complete and
the row's tasks held the record is applied, and is no longer held. A mirrored command is executed at the standby and answered; its
answer ends the wait for it at the active module, a refusal the pair, with TWIN:0x08 (R468). The partner's part of a pairing ends
it (R466), with the pair formed or with the fault of the condition that fails: the module with a running channel is ACTIVE, else
module A, and the other is in LOCKSTEP (R467, R480). -/
def Obligations.TwinFramesComplete : Prop := ∀ (f : TwinFrame) (s u : State) (c fr r : Nat), u = s.twinTook f →
  rowOfFrame f = (c, fr, r) →
  (Twinned f tIssue s → s.twin.role ≠ 0 → ∃ t x, exec (.twinIssueRx f) s = .next t ∧ t.clk = s.clk + f.wait
    ∧ t.issue? c fr r = some x ∧ x.tasks = ((s.issue? c fr r).map (·.tasks)).getD []
        ++ (List.range ((payloadWords f.payload).length / 7)).map fun k => ((payloadWords f.payload).drop (7 * k)).take 7)
  ∧ (Twinned f tSlice s → s.twin.role ≠ 0 → (s.shadow c fr r).fin = none → ∃ t, exec (.twinSliceRx f) s = .next t
    ∧ t.clk = s.clk + f.wait ∧ t.shadow c fr r = { s.shadow c fr r with
        parts := (s.shadow c fr r).parts.filter (·.part != fld f.h2 22 10)
          ++ [⟨fld f.h2 22 10, true, fld f.h2 31 27, f.payload, none⟩] })
  ∧ (∀ st, Twinned f tRowState s → s.twin.role ≠ 0 → (s.shadow c fr r).fin = none →
    ∃ t, exec (.twinRowStateRx f st) s = .next t ∧ t.clk = s.clk + f.wait ∧ t.shadow c fr r = { s.shadow c fr r with
        parts := (s.shadow c fr r).parts.filter (·.part != fld f.h2 22 10)
          ++ [⟨fld f.h2 22 10, false, fld f.h2 31 27, f.payload, some st⟩] })
  ∧ (∀ h, Twinned f tRowEnd s → s.twin.role ≠ 0 →
    h = { s.shadow c fr r with fin := some (((payloadWords f.payload).getD 0 0).toNat,
      ((payloadWords f.payload).getD 1 0).toNat) } →
    (s.issue? c fr r = none → ∃ t, exec (.twinRowEndRx f) s = .next t ∧ t.clk = s.clk + f.wait ∧ t.shadow c fr r = h)
    ∧ (∀ x, s.issue? c fr r = some x → h.complete = true → ∃ t, exec (.twinRowEndRx f) s = .next t
      ∧ t.issue? c fr r = none ∧ t.shadow c fr r = ⟨c, fr, r, [], none⟩
      ∧ t.twin.newest.head? = some (c, fr, r, u.issuedStart x)))
  ∧ (∀ n, Twinned f tMirror s → s.twin.role = 1 →
    exec (.twinMirrorRx f (.answer n true)) s
      = .next (u.onTwin fun t => { t with mirrors := t.mirrors.filter (·.seq != n) })
    ∧ ∃ t, exec (.twinMirrorRx f (.answer n false)) s = .next t ∧ t.twin.role = 0 ∧ t.twin.mirrors = []
      ∧ ∃ x ∈ t.flt.reports, x.cls = 0x0D ∧ x.code = 0x08)
  ∧ (∀ x y, Twinned f tMirror s → 2 ≤ s.twin.role → judge handlerOf (.mirror f.h1.toNat) x u = y →
    exec (.twinMirrorRx f (.cmd x)) s = .next ((y.left u).mirrorAnswer f.h1.toNat y.good).performOps)
  ∧ (∀ p, Twinned f tSpdm s → s.twin.pairing.isSome = true →
    (∀ st code, u.pairCheck p = some (st, code) → ∃ t, exec (.twinSpdmRx f p) s = .next t ∧ t.clk = s.clk + f.wait
      ∧ t.twin.pairing = none ∧ t.twin.role = s.twin.role ∧ ∃ x ∈ t.flt.reports, x.cls = 0x0D ∧ x.code = code)
    ∧ (u.pairCheck p = none → ∃ t, exec (.twinSpdmRx f p) s = .next t ∧ t.twin.pairing = none
      ∧ t.twin.partnerSerial = p.serial ∧ t.twin.partnerB = p.selB
      ∧ t.twin.role = (if (u.anyRuns = true ∧ s.twin.handed = false) ∨ (p.runs = false ∧ s.selB = false) then 1 else 3)))

/-- What happens to a pair by time. A frame not acknowledged for 20 microseconds is sent again, with every other that is due (R470);
a row not applied by its deadline is discarded, and the standby is in LOCKSTEP, with TWIN:0x05 (R477); at the time of a swap the
modules change roles (R490); at that of a switch-over the active module hands over and the standby starts take-over (R482, R483);
the active module proposes a swap at the end of each period, and one without an answer is deferred by a second, with TWIN:0x0A
(R489); a pairing ends after a second (R466), and the pair 2 ms after a mirrored command that is not answered (R468), both with
TWIN:0x08. -/
def Obligations.TwinTimesComplete : Prop := ∀ (s : State),
  (∀ f, s.twin.role ≠ 0 → minBy (·.clk) s.twin.sent = some f → ∃ t, exec .twinResendTimeout s = .next t
    ∧ t.clk = s.clk + (f.clk + 20 * usC - s.clk) ∧ t.twin.role = s.twin.role
    ∧ t.twin.sent = s.twin.sent.map fun g => if g.clk + 20 * usC ≤ t.clk then { g with clk := t.clk } else g)
  ∧ (∀ r, minBy s.applyBy s.unapplied = some r → ∃ t, exec .applyDeadline s = .next t
    ∧ t.clk = (s.toTime (s.applyBy r)).clk ∧ t.twin.role = 3 ∧ t.twin.discarded = s.twin.discarded + 1
    ∧ (⟨0x0D, 0x05, 0, 0xFF⟩ : Cause) ∈ t.flt.causes)
  ∧ (∀ h, s.twin.hand = some h → h.asked = none →
    (s.twin.role = 1 → h.cause = 0 → ∃ t, exec .handoverTime s = .next t ∧ t.clk = (s.toTime h.t).clk ∧ t.twin.role = 2
      ∧ t.twin.hand = none ∧ t.twin.swaps = s.twin.swaps + 1 ∧ t.twin.sendsTo = h.t)
    ∧ (s.twin.role = 1 → h.cause ≠ 0 → ∃ t, exec .handoverTime s = .next t ∧ t.clk = (s.toTime h.t).clk ∧ t.twin.role = 0
      ∧ t.twin.handed = true ∧ t.twin.switches = s.twin.switches + 1)
    ∧ (2 ≤ s.twin.role → h.cause = 0 → ∃ t, exec .handoverTime s = .next t ∧ t.clk = (s.toTime h.t).clk ∧ t.twin.role = 1
      ∧ t.twin.hand = none ∧ t.twin.swaps = s.twin.swaps + 1)
    ∧ (2 ≤ s.twin.role → h.cause ≠ 0 → s.twin.takeover = none → ∃ t, exec .handoverTime s = .next t
      ∧ t.clk = (s.toTime h.t).clk ∧ t.twin.role = s.twin.role ∧ t.twin.takeover = some (t.clk, h.cause, s.twin.role == 3)))
  ∧ (∀ k, s.twin.nextSwap = some k → s.twin.role = 1 → s.twin.hand = none → ∃ t h, exec .swapPropose s = .next t
    ∧ t.clk = s.clk + (k - s.clk) ∧ t.twin.hand = some h ∧ h.cause = 0 ∧ h.asked = some t.clk ∧ t.twin.role = 1
    ∧ t.twin.nextSwap = (if s.twin.swapPeriod = 0 then none else some (t.clk + s.twin.swapPeriod * 60 * secC)))
  ∧ (∀ a, s.twin.hand.bind (·.asked) = some a → ∃ t, exec .swapAnswerTimeout s = .next t
    ∧ t.clk = s.clk + (a + 100 * usC - s.clk) ∧ t.twin.hand = none ∧ t.twin.nextSwap = some (t.clk + secC)
    ∧ ∃ x ∈ t.flt.reports, x.cls = 0x0D ∧ x.code = 0x0A)
  ∧ (∀ k, s.twin.pairing = some k → ∃ t, exec .pairingTimeout s = .next t ∧ t.clk = s.clk + (k + secC - s.clk)
    ∧ t.twin.pairing = none ∧ t.twin.role = s.twin.role ∧ ∃ x ∈ t.flt.reports, x.cls = 0x0D ∧ x.code = 0x08)
  ∧ (∀ m, minBy (·.clk) s.twin.mirrors = some m → ∃ t, exec .mirrorTimeout s = .next t
    ∧ t.clk = s.clk + (m.clk + 2 * msC - s.clk) ∧ t.twin.role = 0 ∧ t.twin.mirrors = []
    ∧ ∃ x ∈ t.flt.reports, x.cls = 0x0D ∧ x.code = 0x08)

/-- Skovlink frames that a module takes: its identification, JOIN, starts admission at a manager (R501, R502), whose messages are
collected and answered (R501); the finding that completes it decides, and a module whose digest is not the expected one is
QUARANTINED with SECURITY:0x03 (R502); ADMIT ends a member's joining (R501); a command is executed and answered, a response goes
to the host (R506, R507, R63); reports are kept (R274), a cluster's share takes effect (R279); a heartbeat renews its sender
(R505), or the path of a pair (R472). -/
def Obligations.SkovlinkFramesComplete : Prop := ∀ (f : SkovFrame) (h : Hdr) (s u : State) (m : Member), Skovved f s →
  h = hdrOf f → u = s.skovTook f → m = s.member h.src h.twinB →
  (h.type = 1 → h.sub = 0 → s.isManager = true → (m.st = 0 ∨ m.st = 5) → ∃ t, exec (.skovJoinRx f) s = .next t
    ∧ t.clk = s.clk + f.wait ∧ t.member h.src h.twinB = { m with
        st := 1, spdm := 0, digest := List.replicate 12 0, role := fld (f.payload.getD 0 0) 13 12
        serial := [f.payload.getD 1 0, f.payload.getD 2 0], fw := f.payload.getD 3 0 })
  ∧ (∀ n whole, h.type = 1 → h.sub = 1 → some h.src = s.managerId → s.cl.refused = false → s.cl.on = true →
    skovParts s.cl.spdm f = (n, whole) → ∃ t, exec (.skovSpdmReqRx f) s = .next t ∧ t.clk = s.clk + f.wait
      ∧ t.cl.spdm = n ∧ t.cl.sent = s.cl.sent + (if whole then 1 else 0))
  ∧ (∀ n d, h.type = 1 → h.sub = 2 → s.isManager = true → some h.src ≠ s.managerId → m.st = 1 →
    skovParts m.spdm f = (n, true) → d.chain = true → d.signature = true → m.role = (s.entry h.src).role →
    (d.digest = (if h.twinB then (s.entry h.src).digestB else (s.entry h.src).digestA) →
      (s.cl.sameFw = false ∨ d.firmware = true) → ∃ t, exec (.skovSpdmRspRx f (some d)) s = .next t
        ∧ (t.member h.src h.twinB).st = 2 ∧ (t.member h.src h.twinB).digest = d.digest
        ∧ (t.member h.src h.twinB).heard = t.clk)
    ∧ (d.digest ≠ (if h.twinB then (s.entry h.src).digestB else (s.entry h.src).digestA) →
      ∃ t, exec (.skovSpdmRspRx f (some d)) s = .next t ∧ (t.member h.src h.twinB).st = 3
        ∧ (t.member h.src h.twinB).digest = d.digest ∧ (⟨0x15, 0x03, h.src, 0xFF⟩ : Cause) ∈ t.flt.causes))
  ∧ (h.type = 1 → h.sub = 3 → some h.src = s.managerId → s.cl.refused = false → exec (.skovAdmitRx f) s
      = .next ((u.causeOff 0x0E 0x02 h.src).onCl fun c => { c with joined := true, heard := u.clk }))
  ∧ (h.type = 2 → h.group = false → h.dst = s.myId →
    (h.sub = 0 → u.trusts h = true → s.twin.role < 2 → s.pw.on = true → s.host.fwReady = true → s.host.fenced = none →
      s.host.waiting = [] → ((cmdOf f.payload).vx.fence = true → s.quiet = true) →
      exec (.skovCmdRx f) s = .next (u.serveRemote handlerOf h.src h.tag (cmdOf f.payload)).performOps)
    ∧ (∀ r, h.sub = 1 → s.host.remotes.find? (fun r => r.dest == h.src && r.cmd.vx.tag == h.tag) = some r →
      exec (.skovCmdRx f) s = .next ((u.onHost fun g => { g with remotes := g.remotes.filter (·.id != r.id) }).finish
        (.remote r.id) (f.payload.take 16))))
  ∧ (∀ n, h.type = 3 → h.sub = 0 → s.isManager = true → s.standby = false → m.st = 2 → n = fld (f.payload.getD 0 0) 31 24 →
    ∃ t l, exec (.skovRcReportRx f) s = .next t ∧ t.clk = s.clk + f.wait ∧ t.enc.reports = s.enc.reports ++ l ∧ l.length = n
      ∧ ∀ k, k < n → (tab l k).member = h.src ∧ (tab l k).stream = fld (f.payload.getD (3 + 6 * k) 0) 23 16
        ∧ (tab l k).x = (f.payload.getD (4 + 6 * k) 0).toNat ∧ (tab l k).target = (f.payload.getD (5 + 6 * k) 0).toNat)
  ∧ (h.type = 4 → h.sub = 0 → some h.src = s.managerId → s.strapRole = 2 → exec (.skovRcBudgetRx f) s = .next (u.onEnc fun e =>
      { e with share := some (f.payload.getD 4 0).toNat, answered := e.asked, shareGot := true, shareDue := none }))
  ∧ (h.type = 9 → h.sub = 1 → some h.src = s.managerId → exec (.skovHeartbeatRx f) s = .next (u.onCl fun c =>
      { c with heard := u.clk }))
  ∧ (h.type = 9 → h.sub = 0 → s.twin.role ≠ 0 → f.port = s.beatPort → h.src = s.myId →
    s.twin.seen = some (fld (f.payload.getD 0 0) 15 0) → ∃ t, exec (.skovHeartbeatRx f) s = .next t
      ∧ t.clk = s.clk + f.wait ∧ t.twin.path = some t.clk ∧ t.twin.link = s.twin.link ∧ t.twin.role = s.twin.role)

/-- Global operations on Skovlink. A barrier, snapshot, action or reset that comes in time for a joined member is an event at its
time (R508, R512), a command is carried out at once; a manager counts acknowledgements (R514), and the initiator stores snapshot
records (R517). Collection ends 6 microseconds after the time of the operation, with the entry of the cluster; the operation of
the initiator is done after its gather (R514, table "Operation costs"). -/
def Obligations.OperationsComplete : Prop :=
  (∀ (f : SkovFrame) (h : Hdr) (s u : State), Skovved f s → h = hdrOf f → u = s.skovTook f →
    (∀ o, o = opRecOf f.payload → some h.src = s.managerId → s.cl.joined = true → s.strapRole = 1 → h.sub = 0 →
      (o.scope = 0x041 ∨ o.scope = s.myId / 64) → s.op? o.initiator o.opId = none → h.type = opType o.kind →
      (o.kind = 1 → exec (.skovBroadcastRx f) s
        = .next ((u.onCl fun c => { c with ops := c.ops ++ [o] }).takePart handlerOf o))
      ∧ (∀ slot v, u.now + 2 * usU ≤ o.tAct → lowestFree (s.time.evts.map (·.1)) 1024 = some slot →
        v = ((u.onCl fun c => { c with ops := c.ops ++ [o] }).onTime fun t =>
          { t with evts := aset t.evts slot (opEvent o) }) →
        ((o.kind = 2 ∨ o.kind = 5) → exec (.skovBroadcastRx f) s = .next v)
        ∧ (o.kind = 3 → exec (.skovBarrierArmRx f) s = .next v) ∧ (o.kind = 4 → exec (.skovSnapshotRx f) s = .next v)))
    ∧ (∀ o, h.type = 6 → h.sub = 0 → s.isManager = true → u.ackFor (h.tag.toNat % 65536) h.src = some o →
      exec (.skovBarrierAckRx f) s = .next (u.onOp o.initiator o.opId fun x =>
        x.takeAck h.src (f.payload.getD 0 0) (f.payload.getD 1 0)))
    ∧ (∀ o r, h.type = 8 → h.sub = 1 → s.isManager = true → some h.src ≠ s.managerId → recordsOf f.payload = [r] →
      s.cl.ops.find? (fun o => o.own && o.kind == 4 && decide (o.stage < 3) && o.opId == h.tag.toNat % 65536) = some o →
      exec (.skovSnapshotRx f) s = .next (u.storeSnap o r)))
  ∧ (∀ (s : State) (o : OpRec), s.isManager = true →
    minBy s.opDue (s.cl.ops.filter fun o => decide (o.stage < 3)) = some o →
    ∃ t, exec .opCollectClose s = .next t ∧ t.clk = (s.toTime (s.opDue o)).clk
      ∧ (o.stage < 2 → o.own = true → (∀ x ∈ t.cl.ops, x.initiator = o.initiator → x.opId = o.opId → x.stage < 3 →
          x.stage = 2 ∧ alookup x.entries (s.myId / 64) = some (o.entry (s.myId / 64))) ∧ ∃ x ∈ t.cl.ops, x.stage = 2)
      ∧ (o.stage < 2 → o.own = false → ∀ x ∈ t.cl.ops, x.initiator = o.initiator → x.opId = o.opId → 3 ≤ x.stage)
      ∧ (o.stage = 2 → (∀ x ∈ t.cl.ops, x.initiator = o.initiator → x.opId = o.opId → 3 ≤ x.stage)
          ∧ (s.mem.gddr.wf = true → (∀ c, (o.final c).length = 8) →
              Mem.readWords t.mem.gddr (areaOf o.opId) 512 = (List.range 64).flatMap o.final)))

/-- The cluster by time. A module that has not joined sends JOIN every 100 ms (R501), one that has joined, and a manager, a
heartbeat every millisecond; an admitted member silent for 4 ms is MISSING, with CLUSTER:0x01; a manager silent for 4 ms is lost,
with CLUSTER:0x02 (R505); the numbers of a sender silent for 4 ms are forgotten (R498). -/
def Obligations.ClusterTimesComplete : Prop := ∀ (s : State),
  (∀ m, s.managerId = some m → s.cl.on = true → s.cl.joined = false → s.cl.refused = false → ∃ t, exec .joinTx s = .next t
    ∧ t.clk = s.clk + (s.cl.nextJoin - s.clk) ∧ t.cl.nextJoin = t.clk + 100 * msC ∧ t.cl.sent = s.cl.sent + 1
    ∧ t.cl.joined = false)
  ∧ (s.cl.on = true → ((s.strapRole = 1 ∧ s.cl.joined = true) ∨ s.strapRole = 2 ∨ s.strapRole = 3) →
    ∃ t, exec .clusterHeartbeatTx s = .next t ∧ t.clk = s.clk + (s.cl.nextBeat - s.clk) ∧ t.cl.nextBeat = t.clk + msC
      ∧ t.cl.sent = s.cl.sent + (if s.cl.joined then 1 else 0) + (if 2 ≤ s.strapRole then 1 else 0)
        + (if s.strapRole = 3 then 1 else 0))
  ∧ (∀ i since, minBy (·.2) s.admitted = some (i, since) → ∃ t, exec .memberMissing s = .next t
    ∧ t.clk = s.clk + (since + 4 * msC - s.clk) ∧ (⟨0x0E, 0x01, i, 0xFF⟩ : Cause) ∈ t.flt.causes
    ∧ ∀ m ∈ s.cl.members, m.id = i → m.st = 2 → (t.member i m.selB).st = 5)
  ∧ (∀ m, s.managerId = some m → s.cl.joined = true → ∃ t, exec .managerLost s = .next t
    ∧ t.clk = s.clk + (s.cl.heard + 4 * msC - s.clk) ∧ t.cl.joined = false ∧ t.cl.nextJoin = t.clk
    ∧ (⟨0x0E, 0x02, m, 0xFF⟩ : Cause) ∈ t.flt.causes)
  ∧ (∀ x, minBy (·.heard) (s.cl.senders.filter fun x => !x.seqs.isEmpty) = some x →
    exec .seqRecordExpire s = .next ((s.toClk (x.heard + 4 * msC)).setSender { x with seqs := [] }))

/-- The fault hub logs the next report 17 clocks after its detection (R527): its entry stands in the next slot of the log, with its
severities (R529, R534), its class is set in FH_STATUS (R531), an entry above NOTE is unacknowledged and is captured where the first
fault is not (R528, R530); what is due in that clock is applied before it (R21). ERR_N falls back at the end of its pulse, but where a
fault due in that clock starts it anew (R533). A transfer that fails its EDC is retried, and reported
where the retry fails (R537), as an in-band error is that cannot be corrected (R538); what was put right is reported once a second. -/
def Obligations.FaultsComplete : Prop := ∀ (s : State),
  (∀ r conf sev e u, s.nextReport = some r → r.cls < 32 → u = (s.toClk (r.clk + 17)).applyDue → conf = u.confSev r.cls r.code →
    sev = (if conf ≠ 0 ∧ (∃ x ∈ u.flt.unack, x.cls = r.cls) then min 4 (conf + 1) else conf) →
    e = (⟨r.cls, r.code, r.data, r.chan, r.t, sev, conf, r.injected, u.flt.logCount.toNat, u.clk⟩ : LogEnt) →
    ∃ t, exec .faultLog s = .next t ∧ t.flt.logCount = u.flt.logCount + 1
      ∧ (s.host.armed = [] → t.clk = s.clk + (r.clk + 17 - s.clk))
      ∧ alookup t.flt.log (u.flt.logCount.toNat % 256) = some e ∧ t.flt.status.getLsbD r.cls = true
      ∧ t.flt.unack = u.flt.unack ++ (if sev = 0 then [] else [e])
      ∧ (sev ≠ 0 → t.flt.firstValid = true) ∧ (sev ≠ 0 → u.flt.firstValid = false → t.flt.first = some e)
      ∧ (u.flt.firstValid = true → t.flt.first = u.flt.first))
  ∧ (∀ k, s.flt.pulseEnd = some k →
    ((s.toClk k).faultNow = false → ∃ t, exec .errPulseEnd s = .next t ∧ t.clk = s.clk + (k - s.clk)
      ∧ t.flt.pulseEnd = none ∧ t.flt.errN = (s.flt.errHold || s.flt.safe.isSome))
    ∧ ((s.toClk k).faultNow = true → exec .errPulseEnd s = .next (s.toClk k)))
  ∧ (∀ n d write, d ≤ 7 →
    exec (.memoryEdcError n d write false) s = .next ((s.pass n).raise 0x11 (if write then 0x03 else 0x02) d)
    ∧ exec (.memoryEdcError n d true true) s = .next (s.pass n)
    ∧ exec (.memoryEccError n d false) s = .next ((s.pass n).raise 0x11 0x05 d)
    ∧ (∀ code i, (code = 0x01 ∧ i = .memoryEdcError n d false true) ∨ (code = 0x04 ∧ i = .memoryEccError n d true) →
        (alookup s.flt.memSeen (code * 8 + d) ≠ some (s.pass n).second → ∃ t, exec i s = .next t ∧ t.clk = s.clk + n
          ∧ (∃ x, t.flt.reports = s.flt.reports ++ [x] ∧ x.cls = 0x11 ∧ x.code = code ∧ x.data = d)
          ∧ alookup t.flt.memSeen (code * 8 + d) = some t.second)
        ∧ (alookup s.flt.memSeen (code * 8 + d) = some (s.pass n).second → exec i s = .next (s.pass n))))

/-- Power. At power good the straps are sampled and the boot ROM runs the slot of TRY, or else ACTIVE, if it is valid, else the other,
else recovery (R554, R555, R563, R564, R579); what is not in flash or fuses is as at reset. Below the turn-off level the module is
off. A step that is done reaches its state, the next one follows up to the target (R549); a running image that fails its check before
READY is none, and the module boots again (R562, R563; log entry 53); a step that exceeds its maximum ends
upwards at the last state reached and goes on downwards, with POWER:0x05 (R553). A boot without FW_READY for 2 seconds begins
again, with FIRMWARE:0x04 (R563), as FW_ACTIVATE lets it (R566); both keep the fault log and HOST_SCRATCH1. -/
def Obligations.PowerComplete : Prop := ∀ (s : State),
  (∀ n role sel k, s.pw.on = false → k = s.pw.tryS.getD s.pw.active → ∃ t x, exec (.powerGood n role sel) s = .next t
    ∧ t.pw.on = true ∧ t.pw.role = role % 4 ∧ t.pw.selB = sel ∧ t.pw.step = some x ∧ x.boot = true ∧ t.pw.tryS = none
    ∧ t.pw.slots = s.pw.slots ∧ t.pw.counter = s.pw.counter ∧ t.mem = State.reset.mem ∧ t.host = State.reset.host
    ∧ (s.slotOk k = true → t.pw.runs = k ∧ t.pw.recovery = false ∧ x.target = s.pw.bootTarget ∧ t.flt = State.reset.flt)
    ∧ (s.slotOk k = false → s.slotOk (1 - k) = true → t.pw.runs = 1 - k ∧ t.pw.recovery = false
        ∧ x.target = s.pw.bootTarget ∧ ∃ z ∈ t.flt.reports, z.cls = 0x14 ∧ z.code = 0x04)
    ∧ (s.slotOk k = false → s.slotOk (1 - k) = false → t.pw.recovery = true ∧ x.target = 1))
  ∧ (∀ n, ∃ t, exec (.vinDrop n) s = .next t ∧ t.pw.on = false ∧ t.pw.slots = s.pw.slots ∧ t.pw.counter = s.pw.counter
    ∧ t.pw.profile = s.pw.profile ∧ t.pw.bootTarget = s.pw.bootTarget ∧ t.mem = State.reset.mem ∧ t.host = State.reset.host)
  ∧ (∀ n test x, s.pw.step = some x → x.boot = false → s.clk + n ≤ x.limit s.pw.st → s.pw.st = 2 → x.next = 3 →
    s.pw.runs < s.pw.slots.length → ∃ t y, exec (.powerStepDone n false test) s = .next t ∧ tab t.pw.slots s.pw.runs = ⟨0, 0, 0, []⟩
      ∧ t.pw.step = some y ∧ y.boot = true ∧ ∃ z ∈ t.flt.reports, z.cls = 0x14)
  ∧ (∀ n test image x, s.pw.step = some x → x.boot = false → s.clk + n ≤ x.limit s.pw.st →
    (s.pw.st = 2 → x.next = 3 → image = true) →
    ∃ t, exec (.powerStepDone n image test) s = .next t ∧ t.clk = s.clk + n ∧ t.pw.st = x.next
      ∧ (x.next = x.target → t.pw.step = none) ∧ (x.next ≠ x.target → ∃ y, t.pw.step = some y ∧ y.target = x.target
        ∧ y.next = (if x.next < x.target then x.next + 1 else x.next - 1) ∧ y.began = t.clk))
  ∧ (∀ x, s.pw.step = some x → x.boot = false →
    (s.pw.st ≤ x.next → ∃ t, exec .powerStepTimeout s = .next t ∧ t.clk = s.clk + (x.limit s.pw.st - s.clk)
      ∧ t.pw.step = none ∧ t.pw.st = s.pw.st ∧ ∃ y ∈ t.flt.reports, y.cls = 0x12 ∧ y.code = 0x05)
    ∧ (x.next < s.pw.st → x.late = false → exec .powerStepTimeout s
      = .next (((s.toClk (x.limit s.pw.st)).raise 0x12 0x05).onPw fun p => { p with step := some { x with late := true } })))
  ∧ (∀ x, s.pw.step = some x → x.boot = true → ∃ t y, exec .bootWatchdog s = .next t ∧ t.pw.step = some y ∧ y.boot = true
    ∧ t.flt.log = s.flt.log ∧ t.flt.logCount = s.flt.logCount ∧ t.host.scratch1 = s.host.scratch1
    ∧ ∃ z ∈ t.flt.reports, z.cls = 0x14 ∧ z.code = 0x04)
  ∧ (∀ k, s.pw.restart = some k → ∃ t y, exec .fwRestart s = .next t ∧ t.pw.step = some y ∧ y.boot = true ∧ t.pw.restart = none
    ∧ t.pw.tryS = none ∧ t.flt.log = s.flt.log ∧ t.flt.logCount = s.flt.logCount ∧ t.host.scratch1 = s.host.scratch1)

/-- Health, the trickle service and firmware. A sample is kept; VIN below 8.7 V for a millisecond is POWER:0x01 until it is at 9.0 V
(table "Supply and thermal faults"). A row of the trickle service is coded into the units given where they fit in what is left of
the picture's budget (R558). An erase and a verification end: an image whose signature and digests match, and whose SVN is not
below the counter, is valid; else the slot is empty, with FIRMWARE:0x02 or 0x03 (R561, R565, R569). -/
def Obligations.HealthAndImagesComplete : Prop := ∀ (s : State) (n : Nat),
  (∀ vin power temps rails, ∃ t, exec (.healthSample n vin power temps rails) s = .next t ∧ t.clk = s.clk + n
    ∧ t.pw.vin = vin ∧ t.pw.power = power ∧ t.pw.powers = (power :: s.pw.powers).take 1000
    ∧ (∀ a, vin < 8700 → s.pw.lowFrom = some a → a + msC ≤ s.clk + n → (⟨0x12, 0x01, 0, 0xFF⟩ : Cause) ∈ t.flt.causes)
    ∧ (9000 ≤ vin → (⟨0x12, 0x01, 0, 0xFF⟩ : Cause) ∉ t.flt.causes))
  ∧ (∀ nals h e, e = s.pw.te → h = (decimated e.dec (s.inp 0)).2 → e.on = true → 2 ≤ s.pw.st → e.coding = true →
    32 * (e.row + 1) < h → (s.inp 0).lineEnded (trickleLine e.dec h e.row) = true → 8 * sumNat nals ≤ e.left →
    ∃ t, exec (.trickleRow n nals) s = .next t ∧ t.clk = s.clk + n ∧ t.pw.te.row = e.row + 1 ∧ t.pw.te.coding = true
      ∧ t.pw.te.left = e.left - 8 * sumNat nals ∧ t.pw.te.bits = e.bits + 8 * sumNat nals
      ∧ t.pw.te.seq = (e.seq + (trickleSizes nals).length) % 65536)
  ∧ (∀ a k, s.pw.fwOp = some (0x1001, a) → s.pw.fwOpen = some k → k < s.pw.slots.length →
    ∃ t, exec (.fwEraseDone n) s = .next t ∧ t.clk = s.clk + n ∧ t.pw.fwOp = none ∧ t.pw.fwOpen = some k
      ∧ tab t.pw.slots k = ⟨1, 0, 0, []⟩ ∧ t.pw.fwBuffer = 0)
  ∧ (∀ a k x good, s.pw.fwOp = some (0x1003, a) → s.pw.fwOpen = some k → k < s.pw.slots.length → tab s.pw.slots k = x →
    (good = true → x.word 0 = 0x47584657 → s.pw.counter ≤ fld (x.word 2) 15 0 →
      ∃ t, exec (.fwVerifyDone n good) s = .next t ∧ t.clk = s.clk + n ∧ t.pw.fwOp = none ∧ t.pw.fwOpen = none
        ∧ tab t.pw.slots k = { x with st := 2, fw := fld (x.word 1) 23 0, svn := fld (x.word 2) 15 0 })
    ∧ (good = true → x.word 0 = 0x47584657 → fld (x.word 2) 15 0 < s.pw.counter →
      ∃ t, exec (.fwVerifyDone n good) s = .next t ∧ tab t.pw.slots k = ⟨0, 0, 0, []⟩
        ∧ ∃ y ∈ t.flt.reports, y.cls = 0x14 ∧ y.code = 0x02)
    ∧ ((good = false ∨ x.word 0 ≠ 0x47584657) → ∃ t, exec (.fwVerifyDone n good) s = .next t
        ∧ tab t.pw.slots k = ⟨0, 0, 0, []⟩ ∧ ∃ y ∈ t.flt.reports, y.cls = 0x14 ∧ y.code = 0x03))

/-- A step takes the command at the front of the queue and executes it with the rest of the queue; with an empty queue the block
idles for one core clock (the model's choice, log entry 1). -/
def Obligations.StepRunsTheFirstCommand : Prop :=
  (∀ (s : State) (c : Instr) (rest : List Instr), s.pending = c :: rest → step s = exec c { s with pending := rest })
  ∧ (∀ s : State, s.pending = [] → step s = .next (s.pass 1))

/-- After a reset at power good the rings are empty and every interrupt is masked (tables "GLB_ registers" and "DB_ registers"), every
event group passes (R81), no fault is logged or captured, ERR_N is released with a pulse width of 10 microseconds (R533), the module is
UNPAIRED (R465) and on its way to the BOOT_TARGET of the factory (R555), no channel runs, no command waits; and the memories are in
canonical form and the rings hold what they have room for. -/
def Obligations.ResetLeaves : Prop :=
  State.reset.pending = [] ∧ State.reset.host.cmdTail = 0 ∧ State.reset.host.cmdHead = 0 ∧ State.reset.host.rspTail = 0
  ∧ State.reset.host.rspHead = 0 ∧ State.reset.host.evtTail = 0 ∧ State.reset.host.evtHead = 0
  ∧ State.reset.host.irqMask = 0xFFFFFFFF ∧ State.reset.host.filter = 0x1FFFF ∧ State.reset.host.aperture = 0
  ∧ State.reset.host.scratch0 = 0 ∧ State.reset.flt.logCount = 0 ∧ State.reset.flt.firstValid = false
  ∧ State.reset.flt.safe = none ∧ State.reset.flt.errN = false ∧ State.reset.flt.errWidth = 10 ∧ State.reset.twin.role = 0
  ∧ State.reset.pw.bootTarget = 2 ∧ (∀ c, State.reset.runs c = false) ∧ State.reset.Inv ∧ State.reset.Rings

/-- Every step keeps the ring memory, GDDR6 and the SRAM in canonical form: addresses strictly rising, no byte listed that an unlisted address
reads as. -/
def Obligations.StepsKeepTheMemories : Prop := ∀ s t : State, s.Inv → step s = .next t → t.Inv

/-- Every step keeps the rings within their slots and the backlog within 1,024 events (R50, R51, R54, R57, R58). -/
def Obligations.StepsKeepTheRings : Prop := ∀ s t : State, s.Rings → step s = .next t → t.Rings

/-- A command slot of sixteen words spells its command, and a command whose fields fit its slot is spelt by it: no bit of a slot is
dropped (table "Command slot", R62). -/
def Obligations.CommandSlotsSpellCommands : Prop :=
  (∀ x : Cmd, x.op < 65536 → x.vx.len < 256 → x.vx.rsv < 32 → x.vx.pay.length = 14 →
    cmdOf (cmdWords x) = x ∧ (cmdWords x).length = 16)
  ∧ (∀ l : List Word, l.length = 16 → cmdWords (cmdOf l) = l ∧ (cmdOf l).op < 65536 ∧ (cmdOf l).vx.len < 256
    ∧ (cmdOf l).vx.rsv < 32 ∧ (cmdOf l).vx.pay.length = 14)

/-- No command stops the block and none is without its meaning: whatever the state, executing it answers a next state. -/
def Obligations.EveryCommandCompletes : Prop := ∀ (i : Instr) (s : State), ∃ t, exec i s = .next t

/-- Responses and events (R54, R55). Finished answers go to the slots from DB_RSP_TAIL on, in their order, each whole, and no other
byte of the ring memory changes; one behind an answer that is not finished waits, as do all while the ring is full. An event goes
whole to the slot of DB_EVT_TAIL. While the response ring has no free slot for one more answer, and before FW_READY, the next command
stays in its ring and nothing happens but that time passes. -/
def Obligations.ResponsesKeepTheirOrder : Prop :=
  (∀ (s : State) (ws : List Word) (l : List (List Word)), s.mem.ring.wf = true → s.host.answers = l.map Answer.done →
    (∀ x ∈ l ++ [ws], x.length = 16) → occupancy s.host.rspTail s.host.rspHead + l.length < 64 →
    ∃ t, s.answer (.done ws) = t ∧ t.host.answers = [] ∧ t.mem.gddr = s.mem.gddr
      ∧ t.host.rspTail = s.host.rspTail + BitVec.ofNat 16 (l.length + 1)
      ∧ (∀ k, k ≤ l.length → Mem.readWords t.mem.ring (slotAddr rspBase 64 64 (s.host.rspTail + BitVec.ofNat 16 k)) 16
          = tab (l ++ [ws]) k)
      ∧ (∀ a, (∀ k, k ≤ l.length → ¬ (slotAddr rspBase 64 64 (s.host.rspTail + BitVec.ofNat 16 k) ≤ a
            ∧ a < slotAddr rspBase 64 64 (s.host.rspTail + BitVec.ofNat 16 k) + 64)) →
          Mem.read t.mem.ring a = Mem.read s.mem.ring a))
  ∧ (∀ (s : State) (a x : Answer) (l : List Answer), s.host.answers = x :: l →
    ((∀ ws, x ≠ .done ws) ∨ 64 ≤ occupancy s.host.rspTail s.host.rspHead) →
    s.answer a = s.onHost fun h => { h with answers := h.answers ++ [a] })
  ∧ (∀ (s : State) (t code chan vec : Nat) (data : List Nat), s.mem.ring.wf = true → s.host.passes code = true →
    s.host.backlog = [] → occupancy s.host.evtTail s.host.evtHead < 256 →
    ∃ u, s.eventAt t code chan vec data = u ∧ u.host.evtTail = s.host.evtTail + 1 ∧ u.host.seq = s.host.seq + 1
      ∧ Mem.readWords u.mem.ring (slotAddr evtBase 256 32 s.host.evtTail) 8
          = Ev.words ⟨chan, code, t, s.host.seq, vec, data.map w32⟩
      ∧ (∀ a, ¬ (slotAddr evtBase 256 32 s.host.evtTail ≤ a ∧ a < slotAddr evtBase 256 32 s.host.evtTail + 32) →
          Mem.read u.mem.ring a = Mem.read s.mem.ring a))
  ∧ (∀ (s : State) (n : Nat), s.host.waiting = [] → s.time.opsDue = [] →
    (s.host.fwReady = false ∨ (s.host.fenced = none
      ∧ 64 ≤ occupancy s.host.rspTail s.host.rspHead + s.host.answers.length)) →
    exec (.commandConsume n) s = .next (s.pass n))

/-- Writes to the ring counters (R51, R52), from STANDBY upwards and whatever FW_READY, outside PERST. A write in range is taken; one out of
range leaves the counter, sets the counter's bit of DB_STATUS and raises HOST:0x01; one equal to the present value changes nothing, in
a state whose rings are within their slots and in which nothing waits for a slot. -/
def Obligations.RingCountersTakeWhatIsInRange : Prop := ∀ (s : State) (v : Word) (n : BitVec 16), s.served = true →
  n = BitVec.ofNat 16 v.toNat →
  ((occupancy n s.host.cmdHead ≤ 64 ∧ occupancy n s.host.cmdTail ≤ 64 →
      ∃ t, exec (.dbCmdTailWrite v) s = .next t ∧ t.host.cmdTail = n)
    ∧ (¬ (occupancy n s.host.cmdHead ≤ 64 ∧ occupancy n s.host.cmdTail ≤ 64) → ∃ t x, exec (.dbCmdTailWrite v) s = .next t
      ∧ t.host.cmdTail = s.host.cmdTail ∧ t.host.dbStatus.getLsbD 0 = true ∧ t.flt.reports = s.flt.reports ++ [x]
      ∧ x.cls = 0x17 ∧ x.code = 0x01)
    ∧ (s.Rings → n = s.host.cmdTail → exec (.dbCmdTailWrite v) s = .next s))
  ∧ ((occupancy n s.host.rspHead ≤ occupancy s.host.rspTail s.host.rspHead →
      ∃ t, exec (.dbRspHeadWrite v) s = .next t ∧ t.host.rspHead = n)
    ∧ (¬ occupancy n s.host.rspHead ≤ occupancy s.host.rspTail s.host.rspHead → ∃ t x, exec (.dbRspHeadWrite v) s = .next t
      ∧ t.host.rspHead = s.host.rspHead ∧ t.host.dbStatus.getLsbD 1 = true ∧ t.flt.reports = s.flt.reports ++ [x]
      ∧ x.cls = 0x17 ∧ x.code = 0x01)
    ∧ (s.flush = s → n = s.host.rspHead → exec (.dbRspHeadWrite v) s = .next s))
  ∧ ((occupancy n s.host.evtHead ≤ occupancy s.host.evtTail s.host.evtHead →
      ∃ t, exec (.dbEvtHeadWrite v) s = .next t ∧ t.host.evtHead = n)
    ∧ (¬ occupancy n s.host.evtHead ≤ occupancy s.host.evtTail s.host.evtHead → ∃ t x, exec (.dbEvtHeadWrite v) s = .next t
      ∧ t.host.evtHead = s.host.evtHead ∧ t.host.dbStatus.getLsbD 2 = true ∧ t.flt.reports = s.flt.reports ++ [x]
      ∧ x.cls = 0x17 ∧ x.code = 0x01)
    ∧ (s.drain = s → s.host.coPend = [] → s.host.coDue = none → n = s.host.evtHead →
      exec (.dbEvtHeadWrite v) s = .next s))

/-- A command that is answered with a status other than OK or ACCEPTED leaves the state as it was but for its answer; a COMMIT_ARM may
also have discarded the open set (R66). The status is read from the response slot; nothing holds the command back, no answer waits
before its own, and no operation of an event is due. -/
def Obligations.RefusedCommandsHaveNoEffect : Prop := ∀ (c : Vx) (op : Nat) (i : Instr) (s t : State) (ws : List Word),
  (op, i) ∈ commandsOf c → s.consumes = true → s.host.waiting = [] → (c.fence = true → s.quiet = true) → c.remote = false →
  s.host.answers = [] → s.mem.ring.wf = true → s.time.opsDue = [] → exec i s = .next t →
  t.host.rspTail = s.host.rspTail + 1 → Mem.readWords t.mem.ring (slotAddr rspBase 64 64 s.host.rspTail) 16 = ws →
  2 ≤ fld (ws.getD 1 0) 15 0 →
  t = s.answer (.done ws) ∨ (op = 0x0011 ∧ t = s.discardOpen.answer (.done ws) ∧ t.host.openId = none ∧ t.host.openCmds = [])

/-- What is wrong with a slot is answered at once and has no other effect (R62, R596): LEN above 14, a reserved bit in word 0, or a
payload shorter than the opcode requires, BAD_PARAM; STAGE on a command that does not accept it, BAD_PARAM; an opcode that is not
defined, BAD_OPCODE. Nothing holds the command back. -/
def Obligations.BadSlotsAreRefused : Prop := ∀ (c : Vx) (s : State), s.consumes = true → s.host.waiting = [] →
  (c.fence = true → s.quiet = true) → s.pw.recovery = false →
  (∀ op i, (op, i) ∈ commandsOf c →
    ((14 < c.len ∨ c.rsv ≠ 0 ∨ (c.remote = false ∧ ∃ h, handlerOf op = some h ∧ c.len < h.minLen)) →
      exec i s = .next (s.answer (.done (rspWords c.tag op 0x0101 [0xFFFFFFFF]))).performOps)
    ∧ (c.stage = true → c.remote = false → op ∉ [0x0110, 0x0130, 0x0200, 0x0210, 0x0211, 0x0300, 0x0301, 0x0310, 0x0341, 0x034C,
        0x0400, 0x0401, 0x0402, 0x0410, 0x0420, 0x0500, 0x0502, 0x0510, 0x0511, 0x0520, 0x0600, 0x0608, 0x0710, 0x0800, 0x0810,
        0x0900, 0x0A00, 0x0A01, 0x0A02, 0x0B00, 0x0B10, 0x0B20, 0x0B21, 0x0B30, 0x0B40, 0x0C00, 0x0C01] →
      exec i s = .next (s.answer (.done (rspWords c.tag op 0x0101 [0xFFFFFFFF]))).performOps))
  ∧ (∀ op n, op ∉ (commandsOf c).map (·.1) → op < 65536 → c.remote = false → c.len < 256 → c.rsv < 32 → c.pay.length = 14 →
    s.host.cmdHead ≠ s.host.cmdTail →
    Mem.readWords s.mem.ring (slotAddr cmdBase 64 64 s.host.cmdHead) 16 = cmdWords ⟨op, c⟩ →
    exec (.commandConsume n) s = .next ((((s.pass n).onHost fun h => { h with cmdHead := h.cmdHead + 1 }).answer
      (.done (rspWords c.tag op 0x0100 [0xFFFFFFFF]))).performOps))

/-- What the rows of one area leave alone: all but that area's part of the state, time, the outputs and the free values drawn, and
for those that answer, report or raise the host interface with its ring memory and the fault hub. GDDR6 is left alone by all of
them but the sounders' two, with which a rotated row may reach its slot, and resets of the host interface and of the management processor stop neither the data plane nor the control plane (R78). -/
def Obligations.RowsStayInTheirArea : Prop := ∀ (s t : State),
  (exec .gateEntryChange s = .next t → t = s.clocked t)
  ∧ (∀ (value : Word) (n device : Nat) (write good corrected : Bool), ∀ i ∈ [Instr.fhFirstValidWrite value,
      .fhUnackWrite value, .fhStatusWrite value, .fhCtrlWrite value, .errPulseEnd,
      .memoryEdcError n device write good, .memoryEccError n device corrected],
        exec i s = .next t → t = { s.clocked t with flt := t.flt })
  ∧ (∀ (value : Word) (n span : Nat) (done : Bool) (obj : DoeObj), ∀ i ∈ [Instr.dbCmdTailWrite value,
      .dbRspHeadWrite value, .dbEvtHeadWrite value, .irqStatusWrite value, .glbApertureWrite value,
      .functionLevelReset n, .pcieLinkDown n, .perstAssert n, .doeRequest n span done obj.head obj.code obj.params obj.range,
      .doeAbort n, .pcieLinkUp n, .perstRelease n, .irqHoldoffExpire, .remoteTimeout],
        exec i s = .next t → t = s.told t)
  ∧ (∀ (n advance : Nat), ∀ i ∈ [Instr.ref10mGate n advance, .evPulseEnd],
        exec i s = .next t → t = { s.clocked t with time := t.time })
  ∧ (∀ (n : Nat) (lock : Bool), ∀ i ∈ [Instr.timeSourceDone n lock, .ref10mLost n, .ref10mResume n, .eventMissed],
        exec i s = .next t → t = { s.told t with time := t.time })
  ∧ (∀ (eighths ph sig : Nat), ∀ i ∈ [Instr.phEdge eighths ph sig, .tlLossExpire],
        exec i s = .next t → t = { s.told t with time := t.time, blit := t.blit })
  ∧ (∀ (n input lane since : Nat) (b : WlBlock), exec (.wlAmBlock n input lane since b.sync b.lo b.hi b.before) s = .next t →
        t = { s.told t with cap := t.cap })
  ∧ (exec .signatureCompare s = .next t → t = { s.told t with comp := t.comp })
  ∧ (∀ i ∈ [Instr.blitStart, .deadWindowClose], exec i s = .next t → t = { s.clocked t with blit := t.blit })
  ∧ (∀ i ∈ [Instr.blitDeadline, .deadWindowOpen],
        exec i s = .next t → t = { s.clocked t with flt := t.flt, blit := t.blit })
  ∧ (exec .groupPeriod s = .next t → t = { s.clocked t with enc := t.enc })
  ∧ (∀ (n sounder : Nat) (blocks : List (Nat × SoundBlock)), ∀ i ∈ [Instr.sounderLine n sounder blocks,
      .soundingDeadline], exec i s = .next t →
        t = { s.clocked t with flt := t.flt, cap := t.cap, enc := t.enc, mem := { s.mem with gddr := t.mem.gddr } })
  ∧ (exec .chStopBoundary s = .next t → t = { s.told t with enc := t.enc })
  ∧ (∀ (value : Word), ∀ i ∈ [Instr.dsCtrlClear value, .dsTraceRdWrite value],
        exec i s = .next t → t = { s.clocked t with ds := t.ds })
  ∧ (exec .serviceTimeout s = .next t → t = { s.clocked t with flt := t.flt, ds := t.ds })
  ∧ (∀ (n cls : Nat) (value : Word), ∀ i ∈ [Instr.taskPull n cls, .dsTraceCtrlWrite value, .producerRetry,
      .delayRelease, .taskDeadline], exec i s = .next t → t = { s.told t with ds := t.ds })
  ∧ (∀ (d : Nat), ∀ i ∈ [Instr.dipNop d, .dipAdd d, .dipSub d, .dipAnd d, .dipOr d, .dipXor d, .dipShl d, .dipShr d,
      .dipSra d, .dipMin d, .dipMax d, .dipMinu d, .dipMaxu d, .dipSlt d, .dipSltu d, .dipMul d, .dipMul64 d,
      .dipMul64u d, .dipDivw d, .dipDivu d, .dipQmul d, .dipQdiv d, .dipQlog2 d, .dipQsqrt d, .dipAddi d, .dipAndi d,
      .dipOri d, .dipXori d, .dipShli d, .dipShri d, .dipSrai d, .dipLui d, .dipLd d, .dipSt d, .dipBcc d, .dipLoop d,
      .dipLoopr d, .dipBreak d, .dipCall d, .dipRet d, .dipWait d, .waitReturn d],
        exec i s = .next t → t = { s.clocked t with dip := t.dip })
  ∧ (∀ (d : Nat), exec (.portUserFault d) s = .next t → t = { s.clocked t with flt := t.flt, dip := t.dip })
  ∧ (∀ (n d : Nat), ∀ i ∈ [Instr.programReload n, .portUserEvt d, .dipLoadDone n],
        exec i s = .next t → t = { s.told t with dip := t.dip })
  ∧ (∀ i ∈ [Instr.feedTimeout, .feedRateMeasure, .feedErrorSecond],
        exec i s = .next t → t = { s.told t with dec := t.dec })
  ∧ (∀ (port : Nat) (samples : List Nat), exec (.audioLeaderFrame port samples) s = .next t → t = { s.clocked t with
      aud := t.aud })
  ∧ (∀ (n port bits : Nat) (samples : List Nat), ∀ i ∈ [Instr.audioFrame n port bits samples, .audRateUpdate,
      .audioClockLoss], exec i s = .next t → t = { s.told t with aud := t.aud })
  ∧ (∀ (n port kind len : Nat) (target : List Word) (m : PtpMsg), ∀ i ∈ [Instr.mgmtRx n port kind target len,
      .ptpSyncTx, .ptpAnnounceTx, .ptpDelayReqTx, .ptpDelayReqRx m],
        exec i s = .next t → t = { s.clocked t with net := t.net })
  ∧ (∀ (n port : Nat) (f : RxFrame), ∀ i ∈ [Instr.portRxFrame n port f, .fecSecond],
        exec i s = .next t → t = { s.clocked t with flt := t.flt, net := t.net })
  ∧ (∀ (port n : Nat) (m : PtpMsg), ∀ i ∈ [Instr.txDiscard port, .portLinkDown n port, .portLinkUp n port,
      .gateListStart, .ptpAnnounceTimeout, .ptpAnnounceRx m], exec i s = .next t → t = { s.told t with net := t.net })
  ∧ (∀ (n lane pre main post : Nat), ∀ i ∈ [Instr.pcieIdleEntry n, .pcieIdleExit n, .adaptFreeze n lane,
      .pcieEqRequest n lane pre main post, .adaptResume n lane],
        exec i s = .next t → t = { s.clocked t with lane := t.lane })
  ∧ (∀ (lane errs : Nat), exec (.prbsSecond lane errs) s = .next t → t = { s.clocked t with flt := t.flt, lane :=
      t.lane })
  ∧ (∀ (n lane : Nat), ∀ i ∈ [Instr.laneExitTimeout, .laneTrainTimeout, .laneLowAmplitude n lane,
      .laneSignalPresent n lane, .laneLol n lane, .laneLock n lane],
        exec i s = .next t → t = { s.told t with lane := t.lane })
  ∧ (∀ (n lane since : Nat) (b : WlBlock), ∀ i ∈ [Instr.twinLinkAmBlock n lane since b.sync b.lo b.hi b.before, .swapPropose],
        exec i s = .next t → t = { s.clocked t with twin := t.twin })
  ∧ (exec .swapAnswerTimeout s = .next t → t = { s.clocked t with flt := t.flt, twin := t.twin })
  ∧ (exec .pairingTimeout s = .next t → t = { s.told t with twin := t.twin })
  ∧ (exec .seqRecordExpire s = .next t → t = { s.clocked t with cl := t.cl })
  ∧ (exec .managerLost s = .next t → t = { s.clocked t with flt := t.flt, cl := t.cl })
  ∧ (∀ (value : Word) (n : Nat), ∀ i ∈ [Instr.glbMpResetWrite value, .mpRestart n, .mpWatchdog n, .memberMissing],
        exec i s = .next t → t = { s.told t with cl := t.cl })
  ∧ (∀ (n vin power : Nat) (temps : List Int) (rails : Bool), exec (.healthSample n vin power temps rails) s = .next
      t → t = { s.clocked t with flt := t.flt, pw := t.pw })
  ∧ (∀ (n : Nat) (good : Bool), ∀ i ∈ [Instr.powerStepTimeout, .fwEraseDone n, .fwVerifyDone n good],
        exec i s = .next t → t = { s.told t with pw := t.pw })
end

