-- ==== Sys2Proof/Laws/Frames.lean ====
section
/-!
SUPPORT. What the checks of a frame on the twin link and on Skovlink do with one that is taken.
-/
namespace Sys2Proof.Machine

/-- A frame that arrives whole on the twin link is passed on. -/
theorem twinIn_took {f : TwinFrame} {ty : Nat} {s : State} (h : Twinned f ty s) (ne : ty ≠ tHeartbeat) :
    twinIn s f ty = (s.twinTook f, true) := by
  obtain ⟨h1, h2, h3, h4, h5, h6⟩ := h
  have h6 := h6 ne
  have h3' : ¬(s.twin.role = 0 ∧ s.twin.pairing = none) := by
    rintro ⟨a, b⟩; rcases h3 with c | c
    · exact c a
    · simp [b] at c
  unfold twinIn State.twinTook
  unfold State.twinCheck at h4 h5 ⊢
  simp only [State.pass, State.useCtx, State.setCtx, State.onCvu, State.onTwin, h1, h2]
  generalize (s.cvu.ctx 9).check (twinBytes f) _ = y at *
  obtain ⟨x, found⟩ := y
  cases found with
  | crcFail => exact absurd rfl h4
  | again => exact absurd rfl h5
  | pass => simp [ne, h6]; exact fun a b => h3' ⟨of_decide_eq_true a, b⟩
  | gap _ => simp [ne, h6]; exact fun a b => h3' ⟨of_decide_eq_true a, b⟩

/-- A manager lets its sender through. -/
theorem rosterPass_took {f : SkovFrame} {s : State} (h : Skovved f s) (u : State) (c : u.cl.roster = s.cl.roster)
    (m : u.cl.members = s.cl.members) (p : u.pw = s.pw) (d : u.cl.id = s.cl.id) :
    u.rosterPass (hdrOf f) = (u, true) := by
  obtain ⟨-, -, -, -, -, -, -, h7⟩ := h
  have a : u.isManager = s.isManager := by unfold State.isManager State.strapRole; rw [p]
  have b : u.managerId = s.managerId := by unfold State.managerId State.strapRole; rw [p, d]
  have e : u.myId = s.myId := by simp [State.myId, d]
  have g : u.entry (hdrOf f).src = s.entry (hdrOf f).src := by simp [State.entry, c]
  have k : u.member (hdrOf f).src (hdrOf f).twinB = s.member (hdrOf f).src (hdrOf f).twinB := by simp [State.member, m]
  unfold State.rosterPass
  rw [a, b, e, g, k]
  rcases h7 with h | h | h | h | ⟨h, q⟩
  · simp [h]
  · simp [h]
  · simp [h]
  · simp [h]
  · rcases q with q | ⟨q1, q2, q3, q4⟩
    · simp [h, q]
    · simp [h, q1, q2, q3, q4]

/-- What holds of whatever an option holds, holds of all of it. -/
theorem or_all {α : Type} {b : Bool} {o : Option α} {p : α → Bool} (h : b = true ∨ ∀ a, o = some a → p a = true) :
    (b || o.all p) = true := by
  cases o <;> simp_all

/-- A frame whose check passes, and which is new, renews its sender's record and goes to the roster. -/
theorem skovJudge_pass (s : State) (h : Hdr) (r : Sender)
    (new : h.seq = 1 ∨ ∀ n, alookup r.seqs h.addr = some n → seqAfter h.seq n = true)
    (rp : ∀ u : State, u.cl.roster = s.cl.roster → u.cl.members = s.cl.members → u.pw = s.pw → u.cl.id = s.cl.id →
      u.rosterPass h = (u, true)) :
    s.skovJudge h r .pass
      = (s.setSender { r with alive := some h.alive, seqs := aset r.seqs h.addr h.seq, heard := s.clk }, some h) := by
  have fr : (h.seq == 1 || (alookup r.seqs h.addr).all (seqAfter h.seq)) = true := or_all (new.imp_left beq_iff_eq.mpr)
  refine (if_neg (by simp [fr])).trans ?_
  generalize hu : s.setSender { r with alive := some h.alive, seqs := aset r.seqs h.addr h.seq, heard := s.clk } = u
  show ((State.rosterPass _ h).1, if (State.rosterPass _ h).2 = true then some h else none) = _
  rw [rp u (by rw [← hu]; rfl) (by rw [← hu]; rfl) (by rw [← hu]; rfl) (by rw [← hu]; rfl)]
  rfl

/-- A frame that arrives whole on Skovlink is passed on. -/
theorem skovIn_took {f : SkovFrame} {s : State} (h : Skovved f s) : skovIn s f = (s.skovTook f, some (hdrOf f)) := by
  have rp := rosterPass_took h
  obtain ⟨h1, h2, h3, h3', h4, h5, h6, -⟩ := h
  have c2 : ((hdrOf f).src == (s.pass f.wait).myId && (hdrOf f).twinB == (s.pass f.wait).selB) = false := by
    simpa [State.myId, State.selB, State.pass] using h2
  have c3 : (s.pass f.wait).hears f.port = true := h3
  have c3' : (s.pass f.wait).hearsOn f.port (hdrOf f) = true := h3'
  have c4 : (s.pass f.wait).addressed (hdrOf f) = true := h4
  unfold skovIn
  refine (if_neg (by simp [h1, c2, c3, c3', c4])).trans ?_
  rw [h5]
  exact skovJudge_pass _ _ _ h6 fun u a b c d => rp u a b c d

end Sys2Proof.Machine
end

