-- ==== Sys2Proof/Laws/Mem.lean ====
section
/-!
SUPPORT. The laws of the byte memories: every write keeps the canonical form, a read after a write to the same address gives
what was written, and every other address reads as before.
-/
namespace Sys2Proof.Machine

theorem Mem.wfFrom_mono {lo lo' : Nat} (h : lo' ≤ lo) : ∀ {m : Mem}, m.wfFrom lo = true → m.wfFrom lo' = true
  | [], _ => rfl
  | (k, v) :: rest, hm => by
    simp only [Mem.wfFrom, Bool.and_eq_true, decide_eq_true_eq] at hm ⊢
    exact ⟨⟨by omega, hm.1.2⟩, hm.2⟩

theorem Mem.read_below {a : Nat} : ∀ {m : Mem} {lo : Nat}, m.wfFrom lo = true → a < lo → m.read a = Mem.empty
  | [], _, _, _ => rfl
  | (k, v) :: rest, lo, hm, ha => by
    simp only [Mem.wfFrom, Bool.and_eq_true, decide_eq_true_eq] at hm
    simp [Mem.read, show ¬ k = a by omega, show a < k by omega]

theorem Mem.write_wfFrom {a : Nat} {b : Byte} :
    ∀ {m : Mem} {lo : Nat}, m.wfFrom lo = true → lo ≤ a → (m.write a b).wfFrom lo = true
  | [], lo, _, ha => by
    by_cases hb : b = Mem.empty <;> simp [Mem.write, hb, Mem.wfFrom, ha]
  | (k, v) :: rest, lo, hm, ha => by
    simp only [Mem.wfFrom, Bool.and_eq_true, decide_eq_true_eq] at hm
    obtain ⟨⟨hk, hv⟩, hr⟩ := hm
    simp only [Mem.write]
    split
    · subst_vars
      split
      · exact Mem.wfFrom_mono (by omega) hr
      · simp_all [Mem.wfFrom]
    · split
      · split
        · simp_all [Mem.wfFrom]
        · simp_all [Mem.wfFrom] <;> omega
      · simp only [Mem.wfFrom, Bool.and_eq_true, decide_eq_true_eq]
        exact ⟨⟨hk, hv⟩, Mem.write_wfFrom hr (by omega)⟩

/-- A write keeps the canonical form. -/
theorem Mem.write_wf {m : Mem} {a : Nat} {b : Byte} (h : m.wf = true) : (m.write a b).wf = true :=
  Mem.write_wfFrom h (Nat.zero_le a)

theorem Mem.read_write_self_from {a : Nat} {b : Byte} :
    ∀ {m : Mem} {lo : Nat}, m.wfFrom lo = true → (m.write a b).read a = b
  | [], _, _ => by by_cases hb : b = Mem.empty <;> simp [Mem.write, hb, Mem.read]
  | (k, v) :: rest, lo, hm => by
    simp only [Mem.wfFrom, Bool.and_eq_true, decide_eq_true_eq] at hm
    simp only [Mem.write]
    split
    · subst_vars
      split
      · next hb => rw [hb]; exact Mem.read_below hm.2 (by omega)
      · simp [Mem.read]
    · split
      · split <;> simp_all [Mem.read]
      · simp only [Mem.read]
        rw [if_neg (by assumption), if_neg (by omega), Mem.read_write_self_from hm.2]

/-- A read after a write to the same address gives what was written. -/
theorem Mem.read_write_self {m : Mem} {a : Nat} {b : Byte} (h : m.wf = true) : (m.write a b).read a = b :=
  Mem.read_write_self_from h

theorem Mem.read_write_other_from {a c : Nat} {b : Byte} (hc : c ≠ a) :
    ∀ {m : Mem} {lo : Nat}, m.wfFrom lo = true → (m.write a b).read c = m.read c
  | [], _, _ => by
    by_cases hb : b = Mem.empty
    · simp [Mem.write, hb]
    · simp [Mem.write, hb, Mem.read, hc.symm]
  | (k, v) :: rest, lo, hm => by
    simp only [Mem.wfFrom, Bool.and_eq_true, decide_eq_true_eq] at hm
    simp only [Mem.write]
    split
    · subst_vars
      split
      · simp only [Mem.read]
        split
        · exact absurd (by assumption) hc.symm
        · split
          · exact Mem.read_below hm.2 (by omega)
          · rfl
      · simp [Mem.read, hc.symm]
    · split
      · split
        · rfl
        · simp only [Mem.read]
          split
          · exact absurd (by assumption) hc.symm
          · split
            · simp [show ¬ k = c by omega, show c < k by omega]
            · rfl
      · simp only [Mem.read]
        rw [Mem.read_write_other_from hc hm.2]

/-- Every other address reads as before. -/
theorem Mem.read_write_other {m : Mem} {a c : Nat} {b : Byte} (h : m.wf = true) (hc : c ≠ a) :
    (m.write a b).read c = m.read c := Mem.read_write_other_from hc h

theorem Mem.writeAll_wf : ∀ {bs : List Byte} {m : Mem} {a : Nat}, m.wf = true → (m.writeAll a bs).wf = true
  | [], _, _, h => h
  | _ :: bs, _, _, h => Mem.writeAll_wf (bs := bs) (Mem.write_wf h)

theorem Mem.read_writeAll_other {c : Nat} :
    ∀ {bs : List Byte} {m : Mem} {a : Nat}, m.wf = true → (c < a ∨ a + bs.length ≤ c) → (m.writeAll a bs).read c = m.read c
  | [], _, _, _, _ => rfl
  | b :: bs, m, a, h, hc => by
    simp only [List.length_cons] at hc
    rw [Mem.writeAll, Mem.read_writeAll_other (Mem.write_wf h) (by omega), Mem.read_write_other h (by omega)]

theorem Mem.read_writeAll :
    ∀ {bs : List Byte} {m : Mem} {a i : Nat}, m.wf = true → i < bs.length → (m.writeAll a bs).read (a + i) = bs.getD i 0
  | [], _, _, i, _, hi => absurd hi (by simp)
  | b :: bs, m, a, 0, h, _ => by
    rw [Mem.writeAll, Nat.add_zero, Mem.read_writeAll_other (Mem.write_wf h) (by omega)]
    exact Mem.read_write_self h
  | b :: bs, m, a, i + 1, h, hi => by
    have hi' : i < bs.length := by simpa using hi
    rw [Mem.writeAll, show a + (i + 1) = (a + 1) + i by omega, Mem.read_writeAll (Mem.write_wf h) hi']
    rfl

@[simp] theorem leBytes_length (n v : Nat) : (leBytes n v).length = n := by simp [leBytes]

theorem Mem.write32_wf {m : Mem} {a : Nat} {v : Word} (h : m.wf = true) : (m.write32 a v).wf = true := Mem.writeAll_wf h

theorem Mem.writeWords_wf : ∀ {ws : List Word} {m : Mem} {a : Nat}, m.wf = true → (m.writeWords a ws).wf = true
  | [], _, _, h => h
  | _ :: ws, _, _, h => Mem.writeWords_wf (ws := ws) (Mem.write32_wf h)

theorem Mem.read_writeWords_other {c : Nat} :
    ∀ {ws : List Word} {m : Mem} {a : Nat}, m.wf = true → (c < a ∨ a + 4 * ws.length ≤ c) →
      (m.writeWords a ws).read c = m.read c
  | [], _, _, _, _ => rfl
  | w :: ws, m, a, h, hc => by
    simp only [List.length_cons] at hc
    rw [Mem.writeWords, Mem.read_writeWords_other (Mem.write32_wf h) (by omega), Mem.write32,
      Mem.read_writeAll_other h (by simp; omega)]

theorem leNat_leBytes4 (v : Word) : w32 (leNat (leBytes 4 v.toNat)) = v := by
  have hv := v.isLt
  apply BitVec.eq_of_toNat_eq
  simp only [leBytes, List.range, List.range.loop, List.map, leNat, w32, BitVec.toNat_ofNat, Nat.pow_zero, Nat.div_one]
  omega

theorem Mem.read32_congr {m m' : Mem} {a : Nat} (h : ∀ i < 4, m.read (a + i) = m'.read (a + i)) :
    m.read32 a = m'.read32 a := by
  have h0 := h 0 (by omega)
  rw [Nat.add_zero] at h0
  simp [Mem.read32, Mem.readN, List.range, List.range.loop, h0, h 1, h 2, h 3]

theorem Mem.read32_write32 {m : Mem} {a : Nat} {v : Word} (h : m.wf = true) : (m.write32 a v).read32 a = v := by
  have e : Mem.readN (m.write32 a v) a 4 = leBytes 4 v.toNat := by
    have r (i : Nat) (hi : i < 4) := Mem.read_writeAll (a := a) (bs := leBytes 4 v.toNat) h (i := i) (by simpa using hi)
    simp only [Mem.readN, Mem.write32, List.range, List.range.loop, List.map, r 0 (by omega), r 1 (by omega), r 2 (by omega),
      r 3 (by omega)]
    rfl
  rw [Mem.read32, e, leNat_leBytes4]

/-- Each word of a list that was written reads back. -/
theorem Mem.read32_writeWords :
    ∀ {ws : List Word} {m : Mem} {a i : Nat}, m.wf = true → i < ws.length → (m.writeWords a ws).read32 (a + 4 * i) = ws.getD i 0
  | [], _, _, _, _, hi => absurd hi (by simp)
  | w :: ws, m, a, 0, h, _ => by
    rw [Mem.writeWords, Mem.read32_congr (m' := m.write32 a w), Nat.mul_zero, Nat.add_zero, Mem.read32_write32 h]
    · rfl
    · intro i hi
      exact Mem.read_writeWords_other (Mem.write32_wf h) (by omega)
  | w :: ws, m, a, i + 1, h, hi => by
    have hi' : i < ws.length := by simpa using hi
    rw [Mem.writeWords, show a + 4 * (i + 1) = (a + 4) + 4 * i by omega, Mem.read32_writeWords (Mem.write32_wf h) hi']
    rfl

/-- The words that were written are the words that are read. -/
theorem Mem.readWords_writeWords {ws : List Word} {m : Mem} {a : Nat} (h : m.wf = true) :
    (m.writeWords a ws).readWords a ws.length = ws := by
  apply List.ext_getElem
  · simp [Mem.readWords]
  · intro i h1 h2
    have := Mem.read32_writeWords (a := a) (i := i) h h2
    simp [Mem.readWords, this, h2]

end Sys2Proof.Machine
end

