-- ==== Sys2Proof/Laws/State.lean ====
section
/-!
SUPPORT. What each update of the state leaves in each of its fields.
-/
namespace Sys2Proof.Machine

variable (s : State)

@[simp] theorem State.onHost_pending (f : HostSt → HostSt) : (s.onHost f).pending = s.pending := rfl
@[simp] theorem State.onHost_free (f : HostSt → HostSt) : (s.onHost f).free = s.free := rfl
@[simp] theorem State.onHost_now (f : HostSt → HostSt) : (s.onHost f).now = s.now := rfl
@[simp] theorem State.onHost_raw (f : HostSt → HostSt) : (s.onHost f).raw = s.raw := rfl
@[simp] theorem State.onHost_clk (f : HostSt → HostSt) : (s.onHost f).clk = s.clk := rfl
@[simp] theorem State.onHost_out (f : HostSt → HostSt) : (s.onHost f).out = s.out := rfl
@[simp] theorem State.onHost_rdata (f : HostSt → HostSt) : (s.onHost f).rdata = s.rdata := rfl
@[simp] theorem State.onHost_host (f : HostSt → HostSt) : (s.onHost f).host = f s.host := rfl
@[simp] theorem State.onHost_flt (f : HostSt → HostSt) : (s.onHost f).flt = s.flt := rfl
@[simp] theorem State.onHost_cvu (f : HostSt → HostSt) : (s.onHost f).cvu = s.cvu := rfl
@[simp] theorem State.onHost_time (f : HostSt → HostSt) : (s.onHost f).time = s.time := rfl
@[simp] theorem State.onHost_cap (f : HostSt → HostSt) : (s.onHost f).cap = s.cap := rfl
@[simp] theorem State.onHost_enc (f : HostSt → HostSt) : (s.onHost f).enc = s.enc := rfl
@[simp] theorem State.onHost_ds (f : HostSt → HostSt) : (s.onHost f).ds = s.ds := rfl
@[simp] theorem State.onHost_comp (f : HostSt → HostSt) : (s.onHost f).comp = s.comp := rfl
@[simp] theorem State.onHost_blit (f : HostSt → HostSt) : (s.onHost f).blit = s.blit := rfl
@[simp] theorem State.onHost_pkg (f : HostSt → HostSt) : (s.onHost f).pkg = s.pkg := rfl
@[simp] theorem State.onHost_dec (f : HostSt → HostSt) : (s.onHost f).dec = s.dec := rfl
@[simp] theorem State.onHost_dip (f : HostSt → HostSt) : (s.onHost f).dip = s.dip := rfl
@[simp] theorem State.onHost_net (f : HostSt → HostSt) : (s.onHost f).net = s.net := rfl
@[simp] theorem State.onHost_cl (f : HostSt → HostSt) : (s.onHost f).cl = s.cl := rfl
@[simp] theorem State.onHost_aud (f : HostSt → HostSt) : (s.onHost f).aud = s.aud := rfl
@[simp] theorem State.onHost_twin (f : HostSt → HostSt) : (s.onHost f).twin = s.twin := rfl
@[simp] theorem State.onHost_pw (f : HostSt → HostSt) : (s.onHost f).pw = s.pw := rfl
@[simp] theorem State.onHost_lane (f : HostSt → HostSt) : (s.onHost f).lane = s.lane := rfl
@[simp] theorem State.onHost_mem (f : HostSt → HostSt) : (s.onHost f).mem = s.mem := rfl

@[simp] theorem State.onFlt_pending (f : FltSt → FltSt) : (s.onFlt f).pending = s.pending := rfl
@[simp] theorem State.onFlt_free (f : FltSt → FltSt) : (s.onFlt f).free = s.free := rfl
@[simp] theorem State.onFlt_now (f : FltSt → FltSt) : (s.onFlt f).now = s.now := rfl
@[simp] theorem State.onFlt_raw (f : FltSt → FltSt) : (s.onFlt f).raw = s.raw := rfl
@[simp] theorem State.onFlt_clk (f : FltSt → FltSt) : (s.onFlt f).clk = s.clk := rfl
@[simp] theorem State.onFlt_out (f : FltSt → FltSt) : (s.onFlt f).out = s.out := rfl
@[simp] theorem State.onFlt_rdata (f : FltSt → FltSt) : (s.onFlt f).rdata = s.rdata := rfl
@[simp] theorem State.onFlt_host (f : FltSt → FltSt) : (s.onFlt f).host = s.host := rfl
@[simp] theorem State.onFlt_flt (f : FltSt → FltSt) : (s.onFlt f).flt = f s.flt := rfl
@[simp] theorem State.onFlt_cvu (f : FltSt → FltSt) : (s.onFlt f).cvu = s.cvu := rfl
@[simp] theorem State.onFlt_time (f : FltSt → FltSt) : (s.onFlt f).time = s.time := rfl
@[simp] theorem State.onFlt_cap (f : FltSt → FltSt) : (s.onFlt f).cap = s.cap := rfl
@[simp] theorem State.onFlt_enc (f : FltSt → FltSt) : (s.onFlt f).enc = s.enc := rfl
@[simp] theorem State.onFlt_ds (f : FltSt → FltSt) : (s.onFlt f).ds = s.ds := rfl
@[simp] theorem State.onFlt_comp (f : FltSt → FltSt) : (s.onFlt f).comp = s.comp := rfl
@[simp] theorem State.onFlt_blit (f : FltSt → FltSt) : (s.onFlt f).blit = s.blit := rfl
@[simp] theorem State.onFlt_pkg (f : FltSt → FltSt) : (s.onFlt f).pkg = s.pkg := rfl
@[simp] theorem State.onFlt_dec (f : FltSt → FltSt) : (s.onFlt f).dec = s.dec := rfl
@[simp] theorem State.onFlt_dip (f : FltSt → FltSt) : (s.onFlt f).dip = s.dip := rfl
@[simp] theorem State.onFlt_net (f : FltSt → FltSt) : (s.onFlt f).net = s.net := rfl
@[simp] theorem State.onFlt_cl (f : FltSt → FltSt) : (s.onFlt f).cl = s.cl := rfl
@[simp] theorem State.onFlt_aud (f : FltSt → FltSt) : (s.onFlt f).aud = s.aud := rfl
@[simp] theorem State.onFlt_twin (f : FltSt → FltSt) : (s.onFlt f).twin = s.twin := rfl
@[simp] theorem State.onFlt_pw (f : FltSt → FltSt) : (s.onFlt f).pw = s.pw := rfl
@[simp] theorem State.onFlt_lane (f : FltSt → FltSt) : (s.onFlt f).lane = s.lane := rfl
@[simp] theorem State.onFlt_mem (f : FltSt → FltSt) : (s.onFlt f).mem = s.mem := rfl

@[simp] theorem State.onCvu_pending (f : CvuSt → CvuSt) : (s.onCvu f).pending = s.pending := rfl
@[simp] theorem State.onCvu_free (f : CvuSt → CvuSt) : (s.onCvu f).free = s.free := rfl
@[simp] theorem State.onCvu_now (f : CvuSt → CvuSt) : (s.onCvu f).now = s.now := rfl
@[simp] theorem State.onCvu_raw (f : CvuSt → CvuSt) : (s.onCvu f).raw = s.raw := rfl
@[simp] theorem State.onCvu_clk (f : CvuSt → CvuSt) : (s.onCvu f).clk = s.clk := rfl
@[simp] theorem State.onCvu_out (f : CvuSt → CvuSt) : (s.onCvu f).out = s.out := rfl
@[simp] theorem State.onCvu_rdata (f : CvuSt → CvuSt) : (s.onCvu f).rdata = s.rdata := rfl
@[simp] theorem State.onCvu_host (f : CvuSt → CvuSt) : (s.onCvu f).host = s.host := rfl
@[simp] theorem State.onCvu_flt (f : CvuSt → CvuSt) : (s.onCvu f).flt = s.flt := rfl
@[simp] theorem State.onCvu_cvu (f : CvuSt → CvuSt) : (s.onCvu f).cvu = f s.cvu := rfl
@[simp] theorem State.onCvu_time (f : CvuSt → CvuSt) : (s.onCvu f).time = s.time := rfl
@[simp] theorem State.onCvu_cap (f : CvuSt → CvuSt) : (s.onCvu f).cap = s.cap := rfl
@[simp] theorem State.onCvu_enc (f : CvuSt → CvuSt) : (s.onCvu f).enc = s.enc := rfl
@[simp] theorem State.onCvu_ds (f : CvuSt → CvuSt) : (s.onCvu f).ds = s.ds := rfl
@[simp] theorem State.onCvu_comp (f : CvuSt → CvuSt) : (s.onCvu f).comp = s.comp := rfl
@[simp] theorem State.onCvu_blit (f : CvuSt → CvuSt) : (s.onCvu f).blit = s.blit := rfl
@[simp] theorem State.onCvu_pkg (f : CvuSt → CvuSt) : (s.onCvu f).pkg = s.pkg := rfl
@[simp] theorem State.onCvu_dec (f : CvuSt → CvuSt) : (s.onCvu f).dec = s.dec := rfl
@[simp] theorem State.onCvu_dip (f : CvuSt → CvuSt) : (s.onCvu f).dip = s.dip := rfl
@[simp] theorem State.onCvu_net (f : CvuSt → CvuSt) : (s.onCvu f).net = s.net := rfl
@[simp] theorem State.onCvu_cl (f : CvuSt → CvuSt) : (s.onCvu f).cl = s.cl := rfl
@[simp] theorem State.onCvu_aud (f : CvuSt → CvuSt) : (s.onCvu f).aud = s.aud := rfl
@[simp] theorem State.onCvu_twin (f : CvuSt → CvuSt) : (s.onCvu f).twin = s.twin := rfl
@[simp] theorem State.onCvu_pw (f : CvuSt → CvuSt) : (s.onCvu f).pw = s.pw := rfl
@[simp] theorem State.onCvu_lane (f : CvuSt → CvuSt) : (s.onCvu f).lane = s.lane := rfl
@[simp] theorem State.onCvu_mem (f : CvuSt → CvuSt) : (s.onCvu f).mem = s.mem := rfl

@[simp] theorem State.onTime_pending (f : TimeSt → TimeSt) : (s.onTime f).pending = s.pending := rfl
@[simp] theorem State.onTime_free (f : TimeSt → TimeSt) : (s.onTime f).free = s.free := rfl
@[simp] theorem State.onTime_now (f : TimeSt → TimeSt) : (s.onTime f).now = s.now := rfl
@[simp] theorem State.onTime_raw (f : TimeSt → TimeSt) : (s.onTime f).raw = s.raw := rfl
@[simp] theorem State.onTime_clk (f : TimeSt → TimeSt) : (s.onTime f).clk = s.clk := rfl
@[simp] theorem State.onTime_out (f : TimeSt → TimeSt) : (s.onTime f).out = s.out := rfl
@[simp] theorem State.onTime_rdata (f : TimeSt → TimeSt) : (s.onTime f).rdata = s.rdata := rfl
@[simp] theorem State.onTime_host (f : TimeSt → TimeSt) : (s.onTime f).host = s.host := rfl
@[simp] theorem State.onTime_flt (f : TimeSt → TimeSt) : (s.onTime f).flt = s.flt := rfl
@[simp] theorem State.onTime_cvu (f : TimeSt → TimeSt) : (s.onTime f).cvu = s.cvu := rfl
@[simp] theorem State.onTime_time (f : TimeSt → TimeSt) : (s.onTime f).time = f s.time := rfl
@[simp] theorem State.onTime_cap (f : TimeSt → TimeSt) : (s.onTime f).cap = s.cap := rfl
@[simp] theorem State.onTime_enc (f : TimeSt → TimeSt) : (s.onTime f).enc = s.enc := rfl
@[simp] theorem State.onTime_ds (f : TimeSt → TimeSt) : (s.onTime f).ds = s.ds := rfl
@[simp] theorem State.onTime_comp (f : TimeSt → TimeSt) : (s.onTime f).comp = s.comp := rfl
@[simp] theorem State.onTime_blit (f : TimeSt → TimeSt) : (s.onTime f).blit = s.blit := rfl
@[simp] theorem State.onTime_pkg (f : TimeSt → TimeSt) : (s.onTime f).pkg = s.pkg := rfl
@[simp] theorem State.onTime_dec (f : TimeSt → TimeSt) : (s.onTime f).dec = s.dec := rfl
@[simp] theorem State.onTime_dip (f : TimeSt → TimeSt) : (s.onTime f).dip = s.dip := rfl
@[simp] theorem State.onTime_net (f : TimeSt → TimeSt) : (s.onTime f).net = s.net := rfl
@[simp] theorem State.onTime_cl (f : TimeSt → TimeSt) : (s.onTime f).cl = s.cl := rfl
@[simp] theorem State.onTime_aud (f : TimeSt → TimeSt) : (s.onTime f).aud = s.aud := rfl
@[simp] theorem State.onTime_twin (f : TimeSt → TimeSt) : (s.onTime f).twin = s.twin := rfl
@[simp] theorem State.onTime_pw (f : TimeSt → TimeSt) : (s.onTime f).pw = s.pw := rfl
@[simp] theorem State.onTime_lane (f : TimeSt → TimeSt) : (s.onTime f).lane = s.lane := rfl
@[simp] theorem State.onTime_mem (f : TimeSt → TimeSt) : (s.onTime f).mem = s.mem := rfl

@[simp] theorem State.onCap_pending (f : CapSt → CapSt) : (s.onCap f).pending = s.pending := rfl
@[simp] theorem State.onCap_free (f : CapSt → CapSt) : (s.onCap f).free = s.free := rfl
@[simp] theorem State.onCap_now (f : CapSt → CapSt) : (s.onCap f).now = s.now := rfl
@[simp] theorem State.onCap_raw (f : CapSt → CapSt) : (s.onCap f).raw = s.raw := rfl
@[simp] theorem State.onCap_clk (f : CapSt → CapSt) : (s.onCap f).clk = s.clk := rfl
@[simp] theorem State.onCap_out (f : CapSt → CapSt) : (s.onCap f).out = s.out := rfl
@[simp] theorem State.onCap_rdata (f : CapSt → CapSt) : (s.onCap f).rdata = s.rdata := rfl
@[simp] theorem State.onCap_host (f : CapSt → CapSt) : (s.onCap f).host = s.host := rfl
@[simp] theorem State.onCap_flt (f : CapSt → CapSt) : (s.onCap f).flt = s.flt := rfl
@[simp] theorem State.onCap_cvu (f : CapSt → CapSt) : (s.onCap f).cvu = s.cvu := rfl
@[simp] theorem State.onCap_time (f : CapSt → CapSt) : (s.onCap f).time = s.time := rfl
@[simp] theorem State.onCap_cap (f : CapSt → CapSt) : (s.onCap f).cap = f s.cap := rfl
@[simp] theorem State.onCap_enc (f : CapSt → CapSt) : (s.onCap f).enc = s.enc := rfl
@[simp] theorem State.onCap_ds (f : CapSt → CapSt) : (s.onCap f).ds = s.ds := rfl
@[simp] theorem State.onCap_comp (f : CapSt → CapSt) : (s.onCap f).comp = s.comp := rfl
@[simp] theorem State.onCap_blit (f : CapSt → CapSt) : (s.onCap f).blit = s.blit := rfl
@[simp] theorem State.onCap_pkg (f : CapSt → CapSt) : (s.onCap f).pkg = s.pkg := rfl
@[simp] theorem State.onCap_dec (f : CapSt → CapSt) : (s.onCap f).dec = s.dec := rfl
@[simp] theorem State.onCap_dip (f : CapSt → CapSt) : (s.onCap f).dip = s.dip := rfl
@[simp] theorem State.onCap_net (f : CapSt → CapSt) : (s.onCap f).net = s.net := rfl
@[simp] theorem State.onCap_cl (f : CapSt → CapSt) : (s.onCap f).cl = s.cl := rfl
@[simp] theorem State.onCap_aud (f : CapSt → CapSt) : (s.onCap f).aud = s.aud := rfl
@[simp] theorem State.onCap_twin (f : CapSt → CapSt) : (s.onCap f).twin = s.twin := rfl
@[simp] theorem State.onCap_pw (f : CapSt → CapSt) : (s.onCap f).pw = s.pw := rfl
@[simp] theorem State.onCap_lane (f : CapSt → CapSt) : (s.onCap f).lane = s.lane := rfl
@[simp] theorem State.onCap_mem (f : CapSt → CapSt) : (s.onCap f).mem = s.mem := rfl

@[simp] theorem State.onEnc_pending (f : EncSt → EncSt) : (s.onEnc f).pending = s.pending := rfl
@[simp] theorem State.onEnc_free (f : EncSt → EncSt) : (s.onEnc f).free = s.free := rfl
@[simp] theorem State.onEnc_now (f : EncSt → EncSt) : (s.onEnc f).now = s.now := rfl
@[simp] theorem State.onEnc_raw (f : EncSt → EncSt) : (s.onEnc f).raw = s.raw := rfl
@[simp] theorem State.onEnc_clk (f : EncSt → EncSt) : (s.onEnc f).clk = s.clk := rfl
@[simp] theorem State.onEnc_out (f : EncSt → EncSt) : (s.onEnc f).out = s.out := rfl
@[simp] theorem State.onEnc_rdata (f : EncSt → EncSt) : (s.onEnc f).rdata = s.rdata := rfl
@[simp] theorem State.onEnc_host (f : EncSt → EncSt) : (s.onEnc f).host = s.host := rfl
@[simp] theorem State.onEnc_flt (f : EncSt → EncSt) : (s.onEnc f).flt = s.flt := rfl
@[simp] theorem State.onEnc_cvu (f : EncSt → EncSt) : (s.onEnc f).cvu = s.cvu := rfl
@[simp] theorem State.onEnc_time (f : EncSt → EncSt) : (s.onEnc f).time = s.time := rfl
@[simp] theorem State.onEnc_cap (f : EncSt → EncSt) : (s.onEnc f).cap = s.cap := rfl
@[simp] theorem State.onEnc_enc (f : EncSt → EncSt) : (s.onEnc f).enc = f s.enc := rfl
@[simp] theorem State.onEnc_ds (f : EncSt → EncSt) : (s.onEnc f).ds = s.ds := rfl
@[simp] theorem State.onEnc_comp (f : EncSt → EncSt) : (s.onEnc f).comp = s.comp := rfl
@[simp] theorem State.onEnc_blit (f : EncSt → EncSt) : (s.onEnc f).blit = s.blit := rfl
@[simp] theorem State.onEnc_pkg (f : EncSt → EncSt) : (s.onEnc f).pkg = s.pkg := rfl
@[simp] theorem State.onEnc_dec (f : EncSt → EncSt) : (s.onEnc f).dec = s.dec := rfl
@[simp] theorem State.onEnc_dip (f : EncSt → EncSt) : (s.onEnc f).dip = s.dip := rfl
@[simp] theorem State.onEnc_net (f : EncSt → EncSt) : (s.onEnc f).net = s.net := rfl
@[simp] theorem State.onEnc_cl (f : EncSt → EncSt) : (s.onEnc f).cl = s.cl := rfl
@[simp] theorem State.onEnc_aud (f : EncSt → EncSt) : (s.onEnc f).aud = s.aud := rfl
@[simp] theorem State.onEnc_twin (f : EncSt → EncSt) : (s.onEnc f).twin = s.twin := rfl
@[simp] theorem State.onEnc_pw (f : EncSt → EncSt) : (s.onEnc f).pw = s.pw := rfl
@[simp] theorem State.onEnc_lane (f : EncSt → EncSt) : (s.onEnc f).lane = s.lane := rfl
@[simp] theorem State.onEnc_mem (f : EncSt → EncSt) : (s.onEnc f).mem = s.mem := rfl

@[simp] theorem State.onDs_pending (f : DsSt → DsSt) : (s.onDs f).pending = s.pending := rfl
@[simp] theorem State.onDs_free (f : DsSt → DsSt) : (s.onDs f).free = s.free := rfl
@[simp] theorem State.onDs_now (f : DsSt → DsSt) : (s.onDs f).now = s.now := rfl
@[simp] theorem State.onDs_raw (f : DsSt → DsSt) : (s.onDs f).raw = s.raw := rfl
@[simp] theorem State.onDs_clk (f : DsSt → DsSt) : (s.onDs f).clk = s.clk := rfl
@[simp] theorem State.onDs_out (f : DsSt → DsSt) : (s.onDs f).out = s.out := rfl
@[simp] theorem State.onDs_rdata (f : DsSt → DsSt) : (s.onDs f).rdata = s.rdata := rfl
@[simp] theorem State.onDs_host (f : DsSt → DsSt) : (s.onDs f).host = s.host := rfl
@[simp] theorem State.onDs_flt (f : DsSt → DsSt) : (s.onDs f).flt = s.flt := rfl
@[simp] theorem State.onDs_cvu (f : DsSt → DsSt) : (s.onDs f).cvu = s.cvu := rfl
@[simp] theorem State.onDs_time (f : DsSt → DsSt) : (s.onDs f).time = s.time := rfl
@[simp] theorem State.onDs_cap (f : DsSt → DsSt) : (s.onDs f).cap = s.cap := rfl
@[simp] theorem State.onDs_enc (f : DsSt → DsSt) : (s.onDs f).enc = s.enc := rfl
@[simp] theorem State.onDs_ds (f : DsSt → DsSt) : (s.onDs f).ds = f s.ds := rfl
@[simp] theorem State.onDs_comp (f : DsSt → DsSt) : (s.onDs f).comp = s.comp := rfl
@[simp] theorem State.onDs_blit (f : DsSt → DsSt) : (s.onDs f).blit = s.blit := rfl
@[simp] theorem State.onDs_pkg (f : DsSt → DsSt) : (s.onDs f).pkg = s.pkg := rfl
@[simp] theorem State.onDs_dec (f : DsSt → DsSt) : (s.onDs f).dec = s.dec := rfl
@[simp] theorem State.onDs_dip (f : DsSt → DsSt) : (s.onDs f).dip = s.dip := rfl
@[simp] theorem State.onDs_net (f : DsSt → DsSt) : (s.onDs f).net = s.net := rfl
@[simp] theorem State.onDs_cl (f : DsSt → DsSt) : (s.onDs f).cl = s.cl := rfl
@[simp] theorem State.onDs_aud (f : DsSt → DsSt) : (s.onDs f).aud = s.aud := rfl
@[simp] theorem State.onDs_twin (f : DsSt → DsSt) : (s.onDs f).twin = s.twin := rfl
@[simp] theorem State.onDs_pw (f : DsSt → DsSt) : (s.onDs f).pw = s.pw := rfl
@[simp] theorem State.onDs_lane (f : DsSt → DsSt) : (s.onDs f).lane = s.lane := rfl
@[simp] theorem State.onDs_mem (f : DsSt → DsSt) : (s.onDs f).mem = s.mem := rfl

@[simp] theorem State.onComp_pending (f : CompSt → CompSt) : (s.onComp f).pending = s.pending := rfl
@[simp] theorem State.onComp_free (f : CompSt → CompSt) : (s.onComp f).free = s.free := rfl
@[simp] theorem State.onComp_now (f : CompSt → CompSt) : (s.onComp f).now = s.now := rfl
@[simp] theorem State.onComp_raw (f : CompSt → CompSt) : (s.onComp f).raw = s.raw := rfl
@[simp] theorem State.onComp_clk (f : CompSt → CompSt) : (s.onComp f).clk = s.clk := rfl
@[simp] theorem State.onComp_out (f : CompSt → CompSt) : (s.onComp f).out = s.out := rfl
@[simp] theorem State.onComp_rdata (f : CompSt → CompSt) : (s.onComp f).rdata = s.rdata := rfl
@[simp] theorem State.onComp_host (f : CompSt → CompSt) : (s.onComp f).host = s.host := rfl
@[simp] theorem State.onComp_flt (f : CompSt → CompSt) : (s.onComp f).flt = s.flt := rfl
@[simp] theorem State.onComp_cvu (f : CompSt → CompSt) : (s.onComp f).cvu = s.cvu := rfl
@[simp] theorem State.onComp_time (f : CompSt → CompSt) : (s.onComp f).time = s.time := rfl
@[simp] theorem State.onComp_cap (f : CompSt → CompSt) : (s.onComp f).cap = s.cap := rfl
@[simp] theorem State.onComp_enc (f : CompSt → CompSt) : (s.onComp f).enc = s.enc := rfl
@[simp] theorem State.onComp_ds (f : CompSt → CompSt) : (s.onComp f).ds = s.ds := rfl
@[simp] theorem State.onComp_comp (f : CompSt → CompSt) : (s.onComp f).comp = f s.comp := rfl
@[simp] theorem State.onComp_blit (f : CompSt → CompSt) : (s.onComp f).blit = s.blit := rfl
@[simp] theorem State.onComp_pkg (f : CompSt → CompSt) : (s.onComp f).pkg = s.pkg := rfl
@[simp] theorem State.onComp_dec (f : CompSt → CompSt) : (s.onComp f).dec = s.dec := rfl
@[simp] theorem State.onComp_dip (f : CompSt → CompSt) : (s.onComp f).dip = s.dip := rfl
@[simp] theorem State.onComp_net (f : CompSt → CompSt) : (s.onComp f).net = s.net := rfl
@[simp] theorem State.onComp_cl (f : CompSt → CompSt) : (s.onComp f).cl = s.cl := rfl
@[simp] theorem State.onComp_aud (f : CompSt → CompSt) : (s.onComp f).aud = s.aud := rfl
@[simp] theorem State.onComp_twin (f : CompSt → CompSt) : (s.onComp f).twin = s.twin := rfl
@[simp] theorem State.onComp_pw (f : CompSt → CompSt) : (s.onComp f).pw = s.pw := rfl
@[simp] theorem State.onComp_lane (f : CompSt → CompSt) : (s.onComp f).lane = s.lane := rfl
@[simp] theorem State.onComp_mem (f : CompSt → CompSt) : (s.onComp f).mem = s.mem := rfl

@[simp] theorem State.onBlit_pending (f : BlitSt → BlitSt) : (s.onBlit f).pending = s.pending := rfl
@[simp] theorem State.onBlit_free (f : BlitSt → BlitSt) : (s.onBlit f).free = s.free := rfl
@[simp] theorem State.onBlit_now (f : BlitSt → BlitSt) : (s.onBlit f).now = s.now := rfl
@[simp] theorem State.onBlit_raw (f : BlitSt → BlitSt) : (s.onBlit f).raw = s.raw := rfl
@[simp] theorem State.onBlit_clk (f : BlitSt → BlitSt) : (s.onBlit f).clk = s.clk := rfl
@[simp] theorem State.onBlit_out (f : BlitSt → BlitSt) : (s.onBlit f).out = s.out := rfl
@[simp] theorem State.onBlit_rdata (f : BlitSt → BlitSt) : (s.onBlit f).rdata = s.rdata := rfl
@[simp] theorem State.onBlit_host (f : BlitSt → BlitSt) : (s.onBlit f).host = s.host := rfl
@[simp] theorem State.onBlit_flt (f : BlitSt → BlitSt) : (s.onBlit f).flt = s.flt := rfl
@[simp] theorem State.onBlit_cvu (f : BlitSt → BlitSt) : (s.onBlit f).cvu = s.cvu := rfl
@[simp] theorem State.onBlit_time (f : BlitSt → BlitSt) : (s.onBlit f).time = s.time := rfl
@[simp] theorem State.onBlit_cap (f : BlitSt → BlitSt) : (s.onBlit f).cap = s.cap := rfl
@[simp] theorem State.onBlit_enc (f : BlitSt → BlitSt) : (s.onBlit f).enc = s.enc := rfl
@[simp] theorem State.onBlit_ds (f : BlitSt → BlitSt) : (s.onBlit f).ds = s.ds := rfl
@[simp] theorem State.onBlit_comp (f : BlitSt → BlitSt) : (s.onBlit f).comp = s.comp := rfl
@[simp] theorem State.onBlit_blit (f : BlitSt → BlitSt) : (s.onBlit f).blit = f s.blit := rfl
@[simp] theorem State.onBlit_pkg (f : BlitSt → BlitSt) : (s.onBlit f).pkg = s.pkg := rfl
@[simp] theorem State.onBlit_dec (f : BlitSt → BlitSt) : (s.onBlit f).dec = s.dec := rfl
@[simp] theorem State.onBlit_dip (f : BlitSt → BlitSt) : (s.onBlit f).dip = s.dip := rfl
@[simp] theorem State.onBlit_net (f : BlitSt → BlitSt) : (s.onBlit f).net = s.net := rfl
@[simp] theorem State.onBlit_cl (f : BlitSt → BlitSt) : (s.onBlit f).cl = s.cl := rfl
@[simp] theorem State.onBlit_aud (f : BlitSt → BlitSt) : (s.onBlit f).aud = s.aud := rfl
@[simp] theorem State.onBlit_twin (f : BlitSt → BlitSt) : (s.onBlit f).twin = s.twin := rfl
@[simp] theorem State.onBlit_pw (f : BlitSt → BlitSt) : (s.onBlit f).pw = s.pw := rfl
@[simp] theorem State.onBlit_lane (f : BlitSt → BlitSt) : (s.onBlit f).lane = s.lane := rfl
@[simp] theorem State.onBlit_mem (f : BlitSt → BlitSt) : (s.onBlit f).mem = s.mem := rfl

@[simp] theorem State.onPkg_pending (f : PkgSt → PkgSt) : (s.onPkg f).pending = s.pending := rfl
@[simp] theorem State.onPkg_free (f : PkgSt → PkgSt) : (s.onPkg f).free = s.free := rfl
@[simp] theorem State.onPkg_now (f : PkgSt → PkgSt) : (s.onPkg f).now = s.now := rfl
@[simp] theorem State.onPkg_raw (f : PkgSt → PkgSt) : (s.onPkg f).raw = s.raw := rfl
@[simp] theorem State.onPkg_clk (f : PkgSt → PkgSt) : (s.onPkg f).clk = s.clk := rfl
@[simp] theorem State.onPkg_out (f : PkgSt → PkgSt) : (s.onPkg f).out = s.out := rfl
@[simp] theorem State.onPkg_rdata (f : PkgSt → PkgSt) : (s.onPkg f).rdata = s.rdata := rfl
@[simp] theorem State.onPkg_host (f : PkgSt → PkgSt) : (s.onPkg f).host = s.host := rfl
@[simp] theorem State.onPkg_flt (f : PkgSt → PkgSt) : (s.onPkg f).flt = s.flt := rfl
@[simp] theorem State.onPkg_cvu (f : PkgSt → PkgSt) : (s.onPkg f).cvu = s.cvu := rfl
@[simp] theorem State.onPkg_time (f : PkgSt → PkgSt) : (s.onPkg f).time = s.time := rfl
@[simp] theorem State.onPkg_cap (f : PkgSt → PkgSt) : (s.onPkg f).cap = s.cap := rfl
@[simp] theorem State.onPkg_enc (f : PkgSt → PkgSt) : (s.onPkg f).enc = s.enc := rfl
@[simp] theorem State.onPkg_ds (f : PkgSt → PkgSt) : (s.onPkg f).ds = s.ds := rfl
@[simp] theorem State.onPkg_comp (f : PkgSt → PkgSt) : (s.onPkg f).comp = s.comp := rfl
@[simp] theorem State.onPkg_blit (f : PkgSt → PkgSt) : (s.onPkg f).blit = s.blit := rfl
@[simp] theorem State.onPkg_pkg (f : PkgSt → PkgSt) : (s.onPkg f).pkg = f s.pkg := rfl
@[simp] theorem State.onPkg_dec (f : PkgSt → PkgSt) : (s.onPkg f).dec = s.dec := rfl
@[simp] theorem State.onPkg_dip (f : PkgSt → PkgSt) : (s.onPkg f).dip = s.dip := rfl
@[simp] theorem State.onPkg_net (f : PkgSt → PkgSt) : (s.onPkg f).net = s.net := rfl
@[simp] theorem State.onPkg_cl (f : PkgSt → PkgSt) : (s.onPkg f).cl = s.cl := rfl
@[simp] theorem State.onPkg_aud (f : PkgSt → PkgSt) : (s.onPkg f).aud = s.aud := rfl
@[simp] theorem State.onPkg_twin (f : PkgSt → PkgSt) : (s.onPkg f).twin = s.twin := rfl
@[simp] theorem State.onPkg_pw (f : PkgSt → PkgSt) : (s.onPkg f).pw = s.pw := rfl
@[simp] theorem State.onPkg_lane (f : PkgSt → PkgSt) : (s.onPkg f).lane = s.lane := rfl
@[simp] theorem State.onPkg_mem (f : PkgSt → PkgSt) : (s.onPkg f).mem = s.mem := rfl

@[simp] theorem State.onDec_pending (f : DecSt → DecSt) : (s.onDec f).pending = s.pending := rfl
@[simp] theorem State.onDec_free (f : DecSt → DecSt) : (s.onDec f).free = s.free := rfl
@[simp] theorem State.onDec_now (f : DecSt → DecSt) : (s.onDec f).now = s.now := rfl
@[simp] theorem State.onDec_raw (f : DecSt → DecSt) : (s.onDec f).raw = s.raw := rfl
@[simp] theorem State.onDec_clk (f : DecSt → DecSt) : (s.onDec f).clk = s.clk := rfl
@[simp] theorem State.onDec_out (f : DecSt → DecSt) : (s.onDec f).out = s.out := rfl
@[simp] theorem State.onDec_rdata (f : DecSt → DecSt) : (s.onDec f).rdata = s.rdata := rfl
@[simp] theorem State.onDec_host (f : DecSt → DecSt) : (s.onDec f).host = s.host := rfl
@[simp] theorem State.onDec_flt (f : DecSt → DecSt) : (s.onDec f).flt = s.flt := rfl
@[simp] theorem State.onDec_cvu (f : DecSt → DecSt) : (s.onDec f).cvu = s.cvu := rfl
@[simp] theorem State.onDec_time (f : DecSt → DecSt) : (s.onDec f).time = s.time := rfl
@[simp] theorem State.onDec_cap (f : DecSt → DecSt) : (s.onDec f).cap = s.cap := rfl
@[simp] theorem State.onDec_enc (f : DecSt → DecSt) : (s.onDec f).enc = s.enc := rfl
@[simp] theorem State.onDec_ds (f : DecSt → DecSt) : (s.onDec f).ds = s.ds := rfl
@[simp] theorem State.onDec_comp (f : DecSt → DecSt) : (s.onDec f).comp = s.comp := rfl
@[simp] theorem State.onDec_blit (f : DecSt → DecSt) : (s.onDec f).blit = s.blit := rfl
@[simp] theorem State.onDec_pkg (f : DecSt → DecSt) : (s.onDec f).pkg = s.pkg := rfl
@[simp] theorem State.onDec_dec (f : DecSt → DecSt) : (s.onDec f).dec = f s.dec := rfl
@[simp] theorem State.onDec_dip (f : DecSt → DecSt) : (s.onDec f).dip = s.dip := rfl
@[simp] theorem State.onDec_net (f : DecSt → DecSt) : (s.onDec f).net = s.net := rfl
@[simp] theorem State.onDec_cl (f : DecSt → DecSt) : (s.onDec f).cl = s.cl := rfl
@[simp] theorem State.onDec_aud (f : DecSt → DecSt) : (s.onDec f).aud = s.aud := rfl
@[simp] theorem State.onDec_twin (f : DecSt → DecSt) : (s.onDec f).twin = s.twin := rfl
@[simp] theorem State.onDec_pw (f : DecSt → DecSt) : (s.onDec f).pw = s.pw := rfl
@[simp] theorem State.onDec_lane (f : DecSt → DecSt) : (s.onDec f).lane = s.lane := rfl
@[simp] theorem State.onDec_mem (f : DecSt → DecSt) : (s.onDec f).mem = s.mem := rfl

@[simp] theorem State.onDip_pending (f : DipSt → DipSt) : (s.onDip f).pending = s.pending := rfl
@[simp] theorem State.onDip_free (f : DipSt → DipSt) : (s.onDip f).free = s.free := rfl
@[simp] theorem State.onDip_now (f : DipSt → DipSt) : (s.onDip f).now = s.now := rfl
@[simp] theorem State.onDip_raw (f : DipSt → DipSt) : (s.onDip f).raw = s.raw := rfl
@[simp] theorem State.onDip_clk (f : DipSt → DipSt) : (s.onDip f).clk = s.clk := rfl
@[simp] theorem State.onDip_out (f : DipSt → DipSt) : (s.onDip f).out = s.out := rfl
@[simp] theorem State.onDip_rdata (f : DipSt → DipSt) : (s.onDip f).rdata = s.rdata := rfl
@[simp] theorem State.onDip_host (f : DipSt → DipSt) : (s.onDip f).host = s.host := rfl
@[simp] theorem State.onDip_flt (f : DipSt → DipSt) : (s.onDip f).flt = s.flt := rfl
@[simp] theorem State.onDip_cvu (f : DipSt → DipSt) : (s.onDip f).cvu = s.cvu := rfl
@[simp] theorem State.onDip_time (f : DipSt → DipSt) : (s.onDip f).time = s.time := rfl
@[simp] theorem State.onDip_cap (f : DipSt → DipSt) : (s.onDip f).cap = s.cap := rfl
@[simp] theorem State.onDip_enc (f : DipSt → DipSt) : (s.onDip f).enc = s.enc := rfl
@[simp] theorem State.onDip_ds (f : DipSt → DipSt) : (s.onDip f).ds = s.ds := rfl
@[simp] theorem State.onDip_comp (f : DipSt → DipSt) : (s.onDip f).comp = s.comp := rfl
@[simp] theorem State.onDip_blit (f : DipSt → DipSt) : (s.onDip f).blit = s.blit := rfl
@[simp] theorem State.onDip_pkg (f : DipSt → DipSt) : (s.onDip f).pkg = s.pkg := rfl
@[simp] theorem State.onDip_dec (f : DipSt → DipSt) : (s.onDip f).dec = s.dec := rfl
@[simp] theorem State.onDip_dip (f : DipSt → DipSt) : (s.onDip f).dip = f s.dip := rfl
@[simp] theorem State.onDip_net (f : DipSt → DipSt) : (s.onDip f).net = s.net := rfl
@[simp] theorem State.onDip_cl (f : DipSt → DipSt) : (s.onDip f).cl = s.cl := rfl
@[simp] theorem State.onDip_aud (f : DipSt → DipSt) : (s.onDip f).aud = s.aud := rfl
@[simp] theorem State.onDip_twin (f : DipSt → DipSt) : (s.onDip f).twin = s.twin := rfl
@[simp] theorem State.onDip_pw (f : DipSt → DipSt) : (s.onDip f).pw = s.pw := rfl
@[simp] theorem State.onDip_lane (f : DipSt → DipSt) : (s.onDip f).lane = s.lane := rfl
@[simp] theorem State.onDip_mem (f : DipSt → DipSt) : (s.onDip f).mem = s.mem := rfl

@[simp] theorem State.onNet_pending (f : NetSt → NetSt) : (s.onNet f).pending = s.pending := rfl
@[simp] theorem State.onNet_free (f : NetSt → NetSt) : (s.onNet f).free = s.free := rfl
@[simp] theorem State.onNet_now (f : NetSt → NetSt) : (s.onNet f).now = s.now := rfl
@[simp] theorem State.onNet_raw (f : NetSt → NetSt) : (s.onNet f).raw = s.raw := rfl
@[simp] theorem State.onNet_clk (f : NetSt → NetSt) : (s.onNet f).clk = s.clk := rfl
@[simp] theorem State.onNet_out (f : NetSt → NetSt) : (s.onNet f).out = s.out := rfl
@[simp] theorem State.onNet_rdata (f : NetSt → NetSt) : (s.onNet f).rdata = s.rdata := rfl
@[simp] theorem State.onNet_host (f : NetSt → NetSt) : (s.onNet f).host = s.host := rfl
@[simp] theorem State.onNet_flt (f : NetSt → NetSt) : (s.onNet f).flt = s.flt := rfl
@[simp] theorem State.onNet_cvu (f : NetSt → NetSt) : (s.onNet f).cvu = s.cvu := rfl
@[simp] theorem State.onNet_time (f : NetSt → NetSt) : (s.onNet f).time = s.time := rfl
@[simp] theorem State.onNet_cap (f : NetSt → NetSt) : (s.onNet f).cap = s.cap := rfl
@[simp] theorem State.onNet_enc (f : NetSt → NetSt) : (s.onNet f).enc = s.enc := rfl
@[simp] theorem State.onNet_ds (f : NetSt → NetSt) : (s.onNet f).ds = s.ds := rfl
@[simp] theorem State.onNet_comp (f : NetSt → NetSt) : (s.onNet f).comp = s.comp := rfl
@[simp] theorem State.onNet_blit (f : NetSt → NetSt) : (s.onNet f).blit = s.blit := rfl
@[simp] theorem State.onNet_pkg (f : NetSt → NetSt) : (s.onNet f).pkg = s.pkg := rfl
@[simp] theorem State.onNet_dec (f : NetSt → NetSt) : (s.onNet f).dec = s.dec := rfl
@[simp] theorem State.onNet_dip (f : NetSt → NetSt) : (s.onNet f).dip = s.dip := rfl
@[simp] theorem State.onNet_net (f : NetSt → NetSt) : (s.onNet f).net = f s.net := rfl
@[simp] theorem State.onNet_cl (f : NetSt → NetSt) : (s.onNet f).cl = s.cl := rfl
@[simp] theorem State.onNet_aud (f : NetSt → NetSt) : (s.onNet f).aud = s.aud := rfl
@[simp] theorem State.onNet_twin (f : NetSt → NetSt) : (s.onNet f).twin = s.twin := rfl
@[simp] theorem State.onNet_pw (f : NetSt → NetSt) : (s.onNet f).pw = s.pw := rfl
@[simp] theorem State.onNet_lane (f : NetSt → NetSt) : (s.onNet f).lane = s.lane := rfl
@[simp] theorem State.onNet_mem (f : NetSt → NetSt) : (s.onNet f).mem = s.mem := rfl

@[simp] theorem State.onCl_pending (f : ClSt → ClSt) : (s.onCl f).pending = s.pending := rfl
@[simp] theorem State.onCl_free (f : ClSt → ClSt) : (s.onCl f).free = s.free := rfl
@[simp] theorem State.onCl_now (f : ClSt → ClSt) : (s.onCl f).now = s.now := rfl
@[simp] theorem State.onCl_raw (f : ClSt → ClSt) : (s.onCl f).raw = s.raw := rfl
@[simp] theorem State.onCl_clk (f : ClSt → ClSt) : (s.onCl f).clk = s.clk := rfl
@[simp] theorem State.onCl_out (f : ClSt → ClSt) : (s.onCl f).out = s.out := rfl
@[simp] theorem State.onCl_rdata (f : ClSt → ClSt) : (s.onCl f).rdata = s.rdata := rfl
@[simp] theorem State.onCl_host (f : ClSt → ClSt) : (s.onCl f).host = s.host := rfl
@[simp] theorem State.onCl_flt (f : ClSt → ClSt) : (s.onCl f).flt = s.flt := rfl
@[simp] theorem State.onCl_cvu (f : ClSt → ClSt) : (s.onCl f).cvu = s.cvu := rfl
@[simp] theorem State.onCl_time (f : ClSt → ClSt) : (s.onCl f).time = s.time := rfl
@[simp] theorem State.onCl_cap (f : ClSt → ClSt) : (s.onCl f).cap = s.cap := rfl
@[simp] theorem State.onCl_enc (f : ClSt → ClSt) : (s.onCl f).enc = s.enc := rfl
@[simp] theorem State.onCl_ds (f : ClSt → ClSt) : (s.onCl f).ds = s.ds := rfl
@[simp] theorem State.onCl_comp (f : ClSt → ClSt) : (s.onCl f).comp = s.comp := rfl
@[simp] theorem State.onCl_blit (f : ClSt → ClSt) : (s.onCl f).blit = s.blit := rfl
@[simp] theorem State.onCl_pkg (f : ClSt → ClSt) : (s.onCl f).pkg = s.pkg := rfl
@[simp] theorem State.onCl_dec (f : ClSt → ClSt) : (s.onCl f).dec = s.dec := rfl
@[simp] theorem State.onCl_dip (f : ClSt → ClSt) : (s.onCl f).dip = s.dip := rfl
@[simp] theorem State.onCl_net (f : ClSt → ClSt) : (s.onCl f).net = s.net := rfl
@[simp] theorem State.onCl_cl (f : ClSt → ClSt) : (s.onCl f).cl = f s.cl := rfl
@[simp] theorem State.onCl_aud (f : ClSt → ClSt) : (s.onCl f).aud = s.aud := rfl
@[simp] theorem State.onCl_twin (f : ClSt → ClSt) : (s.onCl f).twin = s.twin := rfl
@[simp] theorem State.onCl_pw (f : ClSt → ClSt) : (s.onCl f).pw = s.pw := rfl
@[simp] theorem State.onCl_lane (f : ClSt → ClSt) : (s.onCl f).lane = s.lane := rfl
@[simp] theorem State.onCl_mem (f : ClSt → ClSt) : (s.onCl f).mem = s.mem := rfl

@[simp] theorem State.onAud_pending (f : AudSt → AudSt) : (s.onAud f).pending = s.pending := rfl
@[simp] theorem State.onAud_free (f : AudSt → AudSt) : (s.onAud f).free = s.free := rfl
@[simp] theorem State.onAud_now (f : AudSt → AudSt) : (s.onAud f).now = s.now := rfl
@[simp] theorem State.onAud_raw (f : AudSt → AudSt) : (s.onAud f).raw = s.raw := rfl
@[simp] theorem State.onAud_clk (f : AudSt → AudSt) : (s.onAud f).clk = s.clk := rfl
@[simp] theorem State.onAud_out (f : AudSt → AudSt) : (s.onAud f).out = s.out := rfl
@[simp] theorem State.onAud_rdata (f : AudSt → AudSt) : (s.onAud f).rdata = s.rdata := rfl
@[simp] theorem State.onAud_host (f : AudSt → AudSt) : (s.onAud f).host = s.host := rfl
@[simp] theorem State.onAud_flt (f : AudSt → AudSt) : (s.onAud f).flt = s.flt := rfl
@[simp] theorem State.onAud_cvu (f : AudSt → AudSt) : (s.onAud f).cvu = s.cvu := rfl
@[simp] theorem State.onAud_time (f : AudSt → AudSt) : (s.onAud f).time = s.time := rfl
@[simp] theorem State.onAud_cap (f : AudSt → AudSt) : (s.onAud f).cap = s.cap := rfl
@[simp] theorem State.onAud_enc (f : AudSt → AudSt) : (s.onAud f).enc = s.enc := rfl
@[simp] theorem State.onAud_ds (f : AudSt → AudSt) : (s.onAud f).ds = s.ds := rfl
@[simp] theorem State.onAud_comp (f : AudSt → AudSt) : (s.onAud f).comp = s.comp := rfl
@[simp] theorem State.onAud_blit (f : AudSt → AudSt) : (s.onAud f).blit = s.blit := rfl
@[simp] theorem State.onAud_pkg (f : AudSt → AudSt) : (s.onAud f).pkg = s.pkg := rfl
@[simp] theorem State.onAud_dec (f : AudSt → AudSt) : (s.onAud f).dec = s.dec := rfl
@[simp] theorem State.onAud_dip (f : AudSt → AudSt) : (s.onAud f).dip = s.dip := rfl
@[simp] theorem State.onAud_net (f : AudSt → AudSt) : (s.onAud f).net = s.net := rfl
@[simp] theorem State.onAud_cl (f : AudSt → AudSt) : (s.onAud f).cl = s.cl := rfl
@[simp] theorem State.onAud_aud (f : AudSt → AudSt) : (s.onAud f).aud = f s.aud := rfl
@[simp] theorem State.onAud_twin (f : AudSt → AudSt) : (s.onAud f).twin = s.twin := rfl
@[simp] theorem State.onAud_pw (f : AudSt → AudSt) : (s.onAud f).pw = s.pw := rfl
@[simp] theorem State.onAud_lane (f : AudSt → AudSt) : (s.onAud f).lane = s.lane := rfl
@[simp] theorem State.onAud_mem (f : AudSt → AudSt) : (s.onAud f).mem = s.mem := rfl

@[simp] theorem State.onTwin_pending (f : TwinSt → TwinSt) : (s.onTwin f).pending = s.pending := rfl
@[simp] theorem State.onTwin_free (f : TwinSt → TwinSt) : (s.onTwin f).free = s.free := rfl
@[simp] theorem State.onTwin_now (f : TwinSt → TwinSt) : (s.onTwin f).now = s.now := rfl
@[simp] theorem State.onTwin_raw (f : TwinSt → TwinSt) : (s.onTwin f).raw = s.raw := rfl
@[simp] theorem State.onTwin_clk (f : TwinSt → TwinSt) : (s.onTwin f).clk = s.clk := rfl
@[simp] theorem State.onTwin_out (f : TwinSt → TwinSt) : (s.onTwin f).out = s.out := rfl
@[simp] theorem State.onTwin_rdata (f : TwinSt → TwinSt) : (s.onTwin f).rdata = s.rdata := rfl
@[simp] theorem State.onTwin_host (f : TwinSt → TwinSt) : (s.onTwin f).host = s.host := rfl
@[simp] theorem State.onTwin_flt (f : TwinSt → TwinSt) : (s.onTwin f).flt = s.flt := rfl
@[simp] theorem State.onTwin_cvu (f : TwinSt → TwinSt) : (s.onTwin f).cvu = s.cvu := rfl
@[simp] theorem State.onTwin_time (f : TwinSt → TwinSt) : (s.onTwin f).time = s.time := rfl
@[simp] theorem State.onTwin_cap (f : TwinSt → TwinSt) : (s.onTwin f).cap = s.cap := rfl
@[simp] theorem State.onTwin_enc (f : TwinSt → TwinSt) : (s.onTwin f).enc = s.enc := rfl
@[simp] theorem State.onTwin_ds (f : TwinSt → TwinSt) : (s.onTwin f).ds = s.ds := rfl
@[simp] theorem State.onTwin_comp (f : TwinSt → TwinSt) : (s.onTwin f).comp = s.comp := rfl
@[simp] theorem State.onTwin_blit (f : TwinSt → TwinSt) : (s.onTwin f).blit = s.blit := rfl
@[simp] theorem State.onTwin_pkg (f : TwinSt → TwinSt) : (s.onTwin f).pkg = s.pkg := rfl
@[simp] theorem State.onTwin_dec (f : TwinSt → TwinSt) : (s.onTwin f).dec = s.dec := rfl
@[simp] theorem State.onTwin_dip (f : TwinSt → TwinSt) : (s.onTwin f).dip = s.dip := rfl
@[simp] theorem State.onTwin_net (f : TwinSt → TwinSt) : (s.onTwin f).net = s.net := rfl
@[simp] theorem State.onTwin_cl (f : TwinSt → TwinSt) : (s.onTwin f).cl = s.cl := rfl
@[simp] theorem State.onTwin_aud (f : TwinSt → TwinSt) : (s.onTwin f).aud = s.aud := rfl
@[simp] theorem State.onTwin_twin (f : TwinSt → TwinSt) : (s.onTwin f).twin = f s.twin := rfl
@[simp] theorem State.onTwin_pw (f : TwinSt → TwinSt) : (s.onTwin f).pw = s.pw := rfl
@[simp] theorem State.onTwin_lane (f : TwinSt → TwinSt) : (s.onTwin f).lane = s.lane := rfl
@[simp] theorem State.onTwin_mem (f : TwinSt → TwinSt) : (s.onTwin f).mem = s.mem := rfl

@[simp] theorem State.onPw_pending (f : PwSt → PwSt) : (s.onPw f).pending = s.pending := rfl
@[simp] theorem State.onPw_free (f : PwSt → PwSt) : (s.onPw f).free = s.free := rfl
@[simp] theorem State.onPw_now (f : PwSt → PwSt) : (s.onPw f).now = s.now := rfl
@[simp] theorem State.onPw_raw (f : PwSt → PwSt) : (s.onPw f).raw = s.raw := rfl
@[simp] theorem State.onPw_clk (f : PwSt → PwSt) : (s.onPw f).clk = s.clk := rfl
@[simp] theorem State.onPw_out (f : PwSt → PwSt) : (s.onPw f).out = s.out := rfl
@[simp] theorem State.onPw_rdata (f : PwSt → PwSt) : (s.onPw f).rdata = s.rdata := rfl
@[simp] theorem State.onPw_host (f : PwSt → PwSt) : (s.onPw f).host = s.host := rfl
@[simp] theorem State.onPw_flt (f : PwSt → PwSt) : (s.onPw f).flt = s.flt := rfl
@[simp] theorem State.onPw_cvu (f : PwSt → PwSt) : (s.onPw f).cvu = s.cvu := rfl
@[simp] theorem State.onPw_time (f : PwSt → PwSt) : (s.onPw f).time = s.time := rfl
@[simp] theorem State.onPw_cap (f : PwSt → PwSt) : (s.onPw f).cap = s.cap := rfl
@[simp] theorem State.onPw_enc (f : PwSt → PwSt) : (s.onPw f).enc = s.enc := rfl
@[simp] theorem State.onPw_ds (f : PwSt → PwSt) : (s.onPw f).ds = s.ds := rfl
@[simp] theorem State.onPw_comp (f : PwSt → PwSt) : (s.onPw f).comp = s.comp := rfl
@[simp] theorem State.onPw_blit (f : PwSt → PwSt) : (s.onPw f).blit = s.blit := rfl
@[simp] theorem State.onPw_pkg (f : PwSt → PwSt) : (s.onPw f).pkg = s.pkg := rfl
@[simp] theorem State.onPw_dec (f : PwSt → PwSt) : (s.onPw f).dec = s.dec := rfl
@[simp] theorem State.onPw_dip (f : PwSt → PwSt) : (s.onPw f).dip = s.dip := rfl
@[simp] theorem State.onPw_net (f : PwSt → PwSt) : (s.onPw f).net = s.net := rfl
@[simp] theorem State.onPw_cl (f : PwSt → PwSt) : (s.onPw f).cl = s.cl := rfl
@[simp] theorem State.onPw_aud (f : PwSt → PwSt) : (s.onPw f).aud = s.aud := rfl
@[simp] theorem State.onPw_twin (f : PwSt → PwSt) : (s.onPw f).twin = s.twin := rfl
@[simp] theorem State.onPw_pw (f : PwSt → PwSt) : (s.onPw f).pw = f s.pw := rfl
@[simp] theorem State.onPw_lane (f : PwSt → PwSt) : (s.onPw f).lane = s.lane := rfl
@[simp] theorem State.onPw_mem (f : PwSt → PwSt) : (s.onPw f).mem = s.mem := rfl

@[simp] theorem State.onLane_pending (f : LaneSt → LaneSt) : (s.onLane f).pending = s.pending := rfl
@[simp] theorem State.onLane_free (f : LaneSt → LaneSt) : (s.onLane f).free = s.free := rfl
@[simp] theorem State.onLane_now (f : LaneSt → LaneSt) : (s.onLane f).now = s.now := rfl
@[simp] theorem State.onLane_raw (f : LaneSt → LaneSt) : (s.onLane f).raw = s.raw := rfl
@[simp] theorem State.onLane_clk (f : LaneSt → LaneSt) : (s.onLane f).clk = s.clk := rfl
@[simp] theorem State.onLane_out (f : LaneSt → LaneSt) : (s.onLane f).out = s.out := rfl
@[simp] theorem State.onLane_rdata (f : LaneSt → LaneSt) : (s.onLane f).rdata = s.rdata := rfl
@[simp] theorem State.onLane_host (f : LaneSt → LaneSt) : (s.onLane f).host = s.host := rfl
@[simp] theorem State.onLane_flt (f : LaneSt → LaneSt) : (s.onLane f).flt = s.flt := rfl
@[simp] theorem State.onLane_cvu (f : LaneSt → LaneSt) : (s.onLane f).cvu = s.cvu := rfl
@[simp] theorem State.onLane_time (f : LaneSt → LaneSt) : (s.onLane f).time = s.time := rfl
@[simp] theorem State.onLane_cap (f : LaneSt → LaneSt) : (s.onLane f).cap = s.cap := rfl
@[simp] theorem State.onLane_enc (f : LaneSt → LaneSt) : (s.onLane f).enc = s.enc := rfl
@[simp] theorem State.onLane_ds (f : LaneSt → LaneSt) : (s.onLane f).ds = s.ds := rfl
@[simp] theorem State.onLane_comp (f : LaneSt → LaneSt) : (s.onLane f).comp = s.comp := rfl
@[simp] theorem State.onLane_blit (f : LaneSt → LaneSt) : (s.onLane f).blit = s.blit := rfl
@[simp] theorem State.onLane_pkg (f : LaneSt → LaneSt) : (s.onLane f).pkg = s.pkg := rfl
@[simp] theorem State.onLane_dec (f : LaneSt → LaneSt) : (s.onLane f).dec = s.dec := rfl
@[simp] theorem State.onLane_dip (f : LaneSt → LaneSt) : (s.onLane f).dip = s.dip := rfl
@[simp] theorem State.onLane_net (f : LaneSt → LaneSt) : (s.onLane f).net = s.net := rfl
@[simp] theorem State.onLane_cl (f : LaneSt → LaneSt) : (s.onLane f).cl = s.cl := rfl
@[simp] theorem State.onLane_aud (f : LaneSt → LaneSt) : (s.onLane f).aud = s.aud := rfl
@[simp] theorem State.onLane_twin (f : LaneSt → LaneSt) : (s.onLane f).twin = s.twin := rfl
@[simp] theorem State.onLane_pw (f : LaneSt → LaneSt) : (s.onLane f).pw = s.pw := rfl
@[simp] theorem State.onLane_lane (f : LaneSt → LaneSt) : (s.onLane f).lane = f s.lane := rfl
@[simp] theorem State.onLane_mem (f : LaneSt → LaneSt) : (s.onLane f).mem = s.mem := rfl

@[simp] theorem State.onMem_pending (f : MemSt → MemSt) : (s.onMem f).pending = s.pending := rfl
@[simp] theorem State.onMem_free (f : MemSt → MemSt) : (s.onMem f).free = s.free := rfl
@[simp] theorem State.onMem_now (f : MemSt → MemSt) : (s.onMem f).now = s.now := rfl
@[simp] theorem State.onMem_raw (f : MemSt → MemSt) : (s.onMem f).raw = s.raw := rfl
@[simp] theorem State.onMem_clk (f : MemSt → MemSt) : (s.onMem f).clk = s.clk := rfl
@[simp] theorem State.onMem_out (f : MemSt → MemSt) : (s.onMem f).out = s.out := rfl
@[simp] theorem State.onMem_rdata (f : MemSt → MemSt) : (s.onMem f).rdata = s.rdata := rfl
@[simp] theorem State.onMem_host (f : MemSt → MemSt) : (s.onMem f).host = s.host := rfl
@[simp] theorem State.onMem_flt (f : MemSt → MemSt) : (s.onMem f).flt = s.flt := rfl
@[simp] theorem State.onMem_cvu (f : MemSt → MemSt) : (s.onMem f).cvu = s.cvu := rfl
@[simp] theorem State.onMem_time (f : MemSt → MemSt) : (s.onMem f).time = s.time := rfl
@[simp] theorem State.onMem_cap (f : MemSt → MemSt) : (s.onMem f).cap = s.cap := rfl
@[simp] theorem State.onMem_enc (f : MemSt → MemSt) : (s.onMem f).enc = s.enc := rfl
@[simp] theorem State.onMem_ds (f : MemSt → MemSt) : (s.onMem f).ds = s.ds := rfl
@[simp] theorem State.onMem_comp (f : MemSt → MemSt) : (s.onMem f).comp = s.comp := rfl
@[simp] theorem State.onMem_blit (f : MemSt → MemSt) : (s.onMem f).blit = s.blit := rfl
@[simp] theorem State.onMem_pkg (f : MemSt → MemSt) : (s.onMem f).pkg = s.pkg := rfl
@[simp] theorem State.onMem_dec (f : MemSt → MemSt) : (s.onMem f).dec = s.dec := rfl
@[simp] theorem State.onMem_dip (f : MemSt → MemSt) : (s.onMem f).dip = s.dip := rfl
@[simp] theorem State.onMem_net (f : MemSt → MemSt) : (s.onMem f).net = s.net := rfl
@[simp] theorem State.onMem_cl (f : MemSt → MemSt) : (s.onMem f).cl = s.cl := rfl
@[simp] theorem State.onMem_aud (f : MemSt → MemSt) : (s.onMem f).aud = s.aud := rfl
@[simp] theorem State.onMem_twin (f : MemSt → MemSt) : (s.onMem f).twin = s.twin := rfl
@[simp] theorem State.onMem_pw (f : MemSt → MemSt) : (s.onMem f).pw = s.pw := rfl
@[simp] theorem State.onMem_lane (f : MemSt → MemSt) : (s.onMem f).lane = s.lane := rfl
@[simp] theorem State.onMem_mem (f : MemSt → MemSt) : (s.onMem f).mem = f s.mem := rfl

end Sys2Proof.Machine
end

