-- ==== Sys2Proof/Laws/Ops.lean ====
section
/-!
SUPPORT. What the shared operations can do. Interrupts, events, responses and completions touch the host interface, the ring
memory, what left at the connectors and the reports of the fault hub, and nothing else.
-/
namespace Sys2Proof.Machine

/-- From s to t only the host interface, the connectors, the ring memory and the fault hub change, and the ring memory keeps
its canonical form. -/
structure HostSide (s t : State) : Prop where
  rest : t = { s with host := t.host, out := t.out, mem := t.mem, flt := t.flt }
  gddr : t.mem.gddr = s.mem.gddr
  ring : s.mem.ring.wf = true → t.mem.ring.wf = true

theorem HostSide.refl (s : State) : HostSide s s := ⟨rfl, rfl, id⟩

theorem HostSide.trans {s t u : State} (h : HostSide s t) (k : HostSide t u) : HostSide s u :=
  ⟨by rw [k.rest, h.rest], k.gddr.trans h.gddr, fun w => k.ring (h.ring w)⟩

theorem HostSide.onHost (s : State) (f : HostSt → HostSt) : HostSide s (s.onHost f) := ⟨rfl, rfl, id⟩

theorem HostSide.onFlt (s : State) (f : FltSt → FltSt) : HostSide s (s.onFlt f) := ⟨rfl, rfl, id⟩

theorem HostSide.emit (s : State) (k : OutKind) (l : List Nat) : HostSide s (s.emit k l) := ⟨rfl, rfl, id⟩

theorem HostSide.writeRing (s : State) (a : Nat) (ws : List Word) :
    HostSide s (s.onMem fun m => { m with ring := Mem.writeWords m.ring a ws }) := ⟨rfl, rfl, fun w => Mem.writeWords_wf w⟩

theorem HostSide.foldl {α : Type} {f : State → α → State} (h : ∀ s a, HostSide s (f s a)) :
    ∀ (l : List α) (s : State), HostSide s (l.foldl f s)
  | [], s => .refl s
  | a :: l, s => (h s a).trans (HostSide.foldl h l (f s a))

theorem sendMsix_hostSide (s : State) (v : Nat) : HostSide s (s.sendMsix v) := by
  unfold State.sendMsix
  split
  · split
    · exact .onHost _ _
    · exact .emit _ _ _
  · exact .refl _

theorem evalIrq_hostSide (s : State) : HostSide s s.evalIrq :=
  (HostSide.onHost s _).trans (.foldl sendMsix_hostSide _ _)

theorem setIrq_hostSide (s : State) (v : Nat) : HostSide s (s.setIrq v) := (HostSide.onHost s _).trans (evalIrq_hostSide _)

theorem coFlush_hostSide (s : State) : HostSide s s.coFlush := (HostSide.onHost s _).trans (.foldl setIrq_hostSide _ _)

theorem coAdd_hostSide (s : State) (v : Nat) (c : BitVec 16) : HostSide s (s.coAdd v c) := by
  unfold State.coAdd
  split
  · exact setIrq_hostSide _ _
  · dsimp only
    split
    · exact (HostSide.onHost s _).trans (coFlush_hostSide _)
    · exact .onHost _ _

theorem dbSet_hostSide (s : State) (i : Nat) : HostSide s (s.dbSet i) := (HostSide.onHost s _).trans (setIrq_hostSide _ _)

theorem raise_hostSide (s : State) (cls code data chan : Nat) : HostSide s (s.raise cls code data chan) := ⟨rfl, rfl, id⟩

theorem placeEvt_hostSide (s : State) (e : Ev) : HostSide s (s.placeEvt e) := by
  unfold State.placeEvt
  dsimp only
  split
  · exact (HostSide.writeRing s _ _).trans (.onHost _ _)
  · exact ((HostSide.writeRing s _ _).trans (.onHost _ _)).trans (coAdd_hostSide _ _ _)

theorem drainLoop_hostSide : ∀ (l : List Ev) (s : State), HostSide s (s.drainLoop l)
  | [], s => .onHost _ _
  | e :: l, s => by
    unfold State.drainLoop
    split
    · exact (placeEvt_hostSide s e).trans (drainLoop_hostSide l _)
    · exact .onHost _ _

theorem placeLost_hostSide (s : State) : HostSide s s.placeLost := by
  unfold State.placeLost
  split
  · exact .onHost _ _
  · exact .refl _

theorem drain_hostSide (s : State) : HostSide s s.drain :=
  ((drainLoop_hostSide _ s).trans (placeLost_hostSide _)).trans (drainLoop_hostSide _ _)

theorem pushEvt_hostSide (s : State) (e : Ev) : HostSide s (s.pushEvt e) := by
  unfold State.pushEvt
  split
  · exact placeEvt_hostSide _ _
  · split
    · dsimp only
      split
      · exact (raise_hostSide s _ _ _ _).trans (.onHost _ _)
      · exact .onHost _ _
    · dsimp only
      split
      · exact (HostSide.onHost s _).trans (dbSet_hostSide _ _)
      · exact (((HostSide.onHost s _).trans (dbSet_hostSide _ _)).trans (raise_hostSide _ _ _ _ _)).trans (.onHost _ _)

theorem eventAt_hostSide (s : State) (t code chan vec : Nat) (data : List Nat) :
    HostSide s (s.eventAt t code chan vec data) := by
  unfold State.eventAt
  split
  · dsimp only
    split
    · exact ((HostSide.onHost s _).trans (setIrq_hostSide _ _)).trans (pushEvt_hostSide _ _)
    · exact (HostSide.onHost s _).trans (pushEvt_hostSide _ _)
  · exact .refl _

theorem event_hostSide (s : State) (code chan vec : Nat) (data : List Nat) : HostSide s (s.event code chan vec data) :=
  eventAt_hostSide _ _ _ _ _ _

theorem placeRsp_hostSide (s : State) (ws : List Word) : HostSide s (s.placeRsp ws) := by
  unfold State.placeRsp
  dsimp only
  split
  · exact ((HostSide.writeRing s _ _).trans (.onHost _ _)).trans (setIrq_hostSide _ _)
  · exact (HostSide.writeRing s _ _).trans (.onHost _ _)

theorem flushLoop_hostSide : ∀ (l : List Answer) (s : State), HostSide s (s.flushLoop l)
  | [], s => .onHost _ _
  | .done ws :: l, s => by
    unfold State.flushLoop
    split
    · exact (placeRsp_hostSide s ws).trans (flushLoop_hostSide l _)
    · exact .onHost _ _
  | .remote _ :: l, s => .onHost _ _
  | .inject _ :: l, s => .onHost _ _

theorem answer_hostSide (s : State) (a : Answer) : HostSide s (s.answer a) :=
  (HostSide.onHost s _).trans (flushLoop_hostSide _ _)

theorem finish_hostSide (s : State) (a : Answer) (ws : List Word) : HostSide s (s.finish a ws) :=
  (HostSide.onHost s _).trans (flushLoop_hostSide _ _)

theorem complete_hostSide (s : State) (op key : Nat) (st : Status) (res : List Nat) :
    HostSide s (s.complete op key st res) := by
  unfold State.complete
  split
  · exact (HostSide.onHost s _).trans (event_hostSide _ _ _ _ _)
  · exact .refl _

theorem failSets_hostSide (s : State) (p : CommitSet → Bool) (reason : Nat) : HostSide s (s.failSets p reason) :=
  .foldl (fun s _ => (HostSide.onHost s _).trans (event_hostSide _ _ _ _ _)) _ _

/-! ### What they leave -/

variable (s : State)

@[simp] theorem State.setIrq_pending (v : Nat) : (s.setIrq v).pending = s.pending := by rw [(setIrq_hostSide s v).rest]
@[simp] theorem State.setIrq_free (v : Nat) : (s.setIrq v).free = s.free := by rw [(setIrq_hostSide s v).rest]
@[simp] theorem State.setIrq_now (v : Nat) : (s.setIrq v).now = s.now := by rw [(setIrq_hostSide s v).rest]
@[simp] theorem State.setIrq_raw (v : Nat) : (s.setIrq v).raw = s.raw := by rw [(setIrq_hostSide s v).rest]
@[simp] theorem State.setIrq_clk (v : Nat) : (s.setIrq v).clk = s.clk := by rw [(setIrq_hostSide s v).rest]
@[simp] theorem State.setIrq_rdata (v : Nat) : (s.setIrq v).rdata = s.rdata := by rw [(setIrq_hostSide s v).rest]
@[simp] theorem State.setIrq_cvu (v : Nat) : (s.setIrq v).cvu = s.cvu := by rw [(setIrq_hostSide s v).rest]
@[simp] theorem State.setIrq_time (v : Nat) : (s.setIrq v).time = s.time := by rw [(setIrq_hostSide s v).rest]
@[simp] theorem State.setIrq_cap (v : Nat) : (s.setIrq v).cap = s.cap := by rw [(setIrq_hostSide s v).rest]
@[simp] theorem State.setIrq_enc (v : Nat) : (s.setIrq v).enc = s.enc := by rw [(setIrq_hostSide s v).rest]
@[simp] theorem State.setIrq_ds (v : Nat) : (s.setIrq v).ds = s.ds := by rw [(setIrq_hostSide s v).rest]
@[simp] theorem State.setIrq_comp (v : Nat) : (s.setIrq v).comp = s.comp := by rw [(setIrq_hostSide s v).rest]
@[simp] theorem State.setIrq_blit (v : Nat) : (s.setIrq v).blit = s.blit := by rw [(setIrq_hostSide s v).rest]
@[simp] theorem State.setIrq_pkg (v : Nat) : (s.setIrq v).pkg = s.pkg := by rw [(setIrq_hostSide s v).rest]
@[simp] theorem State.setIrq_dec (v : Nat) : (s.setIrq v).dec = s.dec := by rw [(setIrq_hostSide s v).rest]
@[simp] theorem State.setIrq_dip (v : Nat) : (s.setIrq v).dip = s.dip := by rw [(setIrq_hostSide s v).rest]
@[simp] theorem State.setIrq_net (v : Nat) : (s.setIrq v).net = s.net := by rw [(setIrq_hostSide s v).rest]
@[simp] theorem State.setIrq_cl (v : Nat) : (s.setIrq v).cl = s.cl := by rw [(setIrq_hostSide s v).rest]
@[simp] theorem State.setIrq_aud (v : Nat) : (s.setIrq v).aud = s.aud := by rw [(setIrq_hostSide s v).rest]
@[simp] theorem State.setIrq_twin (v : Nat) : (s.setIrq v).twin = s.twin := by rw [(setIrq_hostSide s v).rest]
@[simp] theorem State.setIrq_pw (v : Nat) : (s.setIrq v).pw = s.pw := by rw [(setIrq_hostSide s v).rest]
@[simp] theorem State.setIrq_lane (v : Nat) : (s.setIrq v).lane = s.lane := by rw [(setIrq_hostSide s v).rest]
@[simp] theorem State.setIrq_gddr (v : Nat) : (s.setIrq v).mem.gddr = s.mem.gddr := (setIrq_hostSide s v).gddr

@[simp] theorem State.event_pending (code chan vec : Nat) (data : List Nat) : (s.event code chan vec data).pending = s.pending := by rw [(event_hostSide s code chan vec data).rest]
@[simp] theorem State.event_free (code chan vec : Nat) (data : List Nat) : (s.event code chan vec data).free = s.free := by rw [(event_hostSide s code chan vec data).rest]
@[simp] theorem State.event_now (code chan vec : Nat) (data : List Nat) : (s.event code chan vec data).now = s.now := by rw [(event_hostSide s code chan vec data).rest]
@[simp] theorem State.event_raw (code chan vec : Nat) (data : List Nat) : (s.event code chan vec data).raw = s.raw := by rw [(event_hostSide s code chan vec data).rest]
@[simp] theorem State.event_clk (code chan vec : Nat) (data : List Nat) : (s.event code chan vec data).clk = s.clk := by rw [(event_hostSide s code chan vec data).rest]
@[simp] theorem State.event_rdata (code chan vec : Nat) (data : List Nat) : (s.event code chan vec data).rdata = s.rdata := by rw [(event_hostSide s code chan vec data).rest]
@[simp] theorem State.event_cvu (code chan vec : Nat) (data : List Nat) : (s.event code chan vec data).cvu = s.cvu := by rw [(event_hostSide s code chan vec data).rest]
@[simp] theorem State.event_time (code chan vec : Nat) (data : List Nat) : (s.event code chan vec data).time = s.time := by rw [(event_hostSide s code chan vec data).rest]
@[simp] theorem State.event_cap (code chan vec : Nat) (data : List Nat) : (s.event code chan vec data).cap = s.cap := by rw [(event_hostSide s code chan vec data).rest]
@[simp] theorem State.event_enc (code chan vec : Nat) (data : List Nat) : (s.event code chan vec data).enc = s.enc := by rw [(event_hostSide s code chan vec data).rest]
@[simp] theorem State.event_ds (code chan vec : Nat) (data : List Nat) : (s.event code chan vec data).ds = s.ds := by rw [(event_hostSide s code chan vec data).rest]
@[simp] theorem State.event_comp (code chan vec : Nat) (data : List Nat) : (s.event code chan vec data).comp = s.comp := by rw [(event_hostSide s code chan vec data).rest]
@[simp] theorem State.event_blit (code chan vec : Nat) (data : List Nat) : (s.event code chan vec data).blit = s.blit := by rw [(event_hostSide s code chan vec data).rest]
@[simp] theorem State.event_pkg (code chan vec : Nat) (data : List Nat) : (s.event code chan vec data).pkg = s.pkg := by rw [(event_hostSide s code chan vec data).rest]
@[simp] theorem State.event_dec (code chan vec : Nat) (data : List Nat) : (s.event code chan vec data).dec = s.dec := by rw [(event_hostSide s code chan vec data).rest]
@[simp] theorem State.event_dip (code chan vec : Nat) (data : List Nat) : (s.event code chan vec data).dip = s.dip := by rw [(event_hostSide s code chan vec data).rest]
@[simp] theorem State.event_net (code chan vec : Nat) (data : List Nat) : (s.event code chan vec data).net = s.net := by rw [(event_hostSide s code chan vec data).rest]
@[simp] theorem State.event_cl (code chan vec : Nat) (data : List Nat) : (s.event code chan vec data).cl = s.cl := by rw [(event_hostSide s code chan vec data).rest]
@[simp] theorem State.event_aud (code chan vec : Nat) (data : List Nat) : (s.event code chan vec data).aud = s.aud := by rw [(event_hostSide s code chan vec data).rest]
@[simp] theorem State.event_twin (code chan vec : Nat) (data : List Nat) : (s.event code chan vec data).twin = s.twin := by rw [(event_hostSide s code chan vec data).rest]
@[simp] theorem State.event_pw (code chan vec : Nat) (data : List Nat) : (s.event code chan vec data).pw = s.pw := by rw [(event_hostSide s code chan vec data).rest]
@[simp] theorem State.event_lane (code chan vec : Nat) (data : List Nat) : (s.event code chan vec data).lane = s.lane := by rw [(event_hostSide s code chan vec data).rest]
@[simp] theorem State.event_gddr (code chan vec : Nat) (data : List Nat) : (s.event code chan vec data).mem.gddr = s.mem.gddr := (event_hostSide s code chan vec data).gddr

@[simp] theorem State.eventAt_pending (t code chan vec : Nat) (data : List Nat) : (s.eventAt t code chan vec data).pending = s.pending := by rw [(eventAt_hostSide s t code chan vec data).rest]
@[simp] theorem State.eventAt_free (t code chan vec : Nat) (data : List Nat) : (s.eventAt t code chan vec data).free = s.free := by rw [(eventAt_hostSide s t code chan vec data).rest]
@[simp] theorem State.eventAt_now (t code chan vec : Nat) (data : List Nat) : (s.eventAt t code chan vec data).now = s.now := by rw [(eventAt_hostSide s t code chan vec data).rest]
@[simp] theorem State.eventAt_raw (t code chan vec : Nat) (data : List Nat) : (s.eventAt t code chan vec data).raw = s.raw := by rw [(eventAt_hostSide s t code chan vec data).rest]
@[simp] theorem State.eventAt_clk (t code chan vec : Nat) (data : List Nat) : (s.eventAt t code chan vec data).clk = s.clk := by rw [(eventAt_hostSide s t code chan vec data).rest]
@[simp] theorem State.eventAt_rdata (t code chan vec : Nat) (data : List Nat) : (s.eventAt t code chan vec data).rdata = s.rdata := by rw [(eventAt_hostSide s t code chan vec data).rest]
@[simp] theorem State.eventAt_cvu (t code chan vec : Nat) (data : List Nat) : (s.eventAt t code chan vec data).cvu = s.cvu := by rw [(eventAt_hostSide s t code chan vec data).rest]
@[simp] theorem State.eventAt_time (t code chan vec : Nat) (data : List Nat) : (s.eventAt t code chan vec data).time = s.time := by rw [(eventAt_hostSide s t code chan vec data).rest]
@[simp] theorem State.eventAt_cap (t code chan vec : Nat) (data : List Nat) : (s.eventAt t code chan vec data).cap = s.cap := by rw [(eventAt_hostSide s t code chan vec data).rest]
@[simp] theorem State.eventAt_enc (t code chan vec : Nat) (data : List Nat) : (s.eventAt t code chan vec data).enc = s.enc := by rw [(eventAt_hostSide s t code chan vec data).rest]
@[simp] theorem State.eventAt_ds (t code chan vec : Nat) (data : List Nat) : (s.eventAt t code chan vec data).ds = s.ds := by rw [(eventAt_hostSide s t code chan vec data).rest]
@[simp] theorem State.eventAt_comp (t code chan vec : Nat) (data : List Nat) : (s.eventAt t code chan vec data).comp = s.comp := by rw [(eventAt_hostSide s t code chan vec data).rest]
@[simp] theorem State.eventAt_blit (t code chan vec : Nat) (data : List Nat) : (s.eventAt t code chan vec data).blit = s.blit := by rw [(eventAt_hostSide s t code chan vec data).rest]
@[simp] theorem State.eventAt_pkg (t code chan vec : Nat) (data : List Nat) : (s.eventAt t code chan vec data).pkg = s.pkg := by rw [(eventAt_hostSide s t code chan vec data).rest]
@[simp] theorem State.eventAt_dec (t code chan vec : Nat) (data : List Nat) : (s.eventAt t code chan vec data).dec = s.dec := by rw [(eventAt_hostSide s t code chan vec data).rest]
@[simp] theorem State.eventAt_dip (t code chan vec : Nat) (data : List Nat) : (s.eventAt t code chan vec data).dip = s.dip := by rw [(eventAt_hostSide s t code chan vec data).rest]
@[simp] theorem State.eventAt_net (t code chan vec : Nat) (data : List Nat) : (s.eventAt t code chan vec data).net = s.net := by rw [(eventAt_hostSide s t code chan vec data).rest]
@[simp] theorem State.eventAt_cl (t code chan vec : Nat) (data : List Nat) : (s.eventAt t code chan vec data).cl = s.cl := by rw [(eventAt_hostSide s t code chan vec data).rest]
@[simp] theorem State.eventAt_aud (t code chan vec : Nat) (data : List Nat) : (s.eventAt t code chan vec data).aud = s.aud := by rw [(eventAt_hostSide s t code chan vec data).rest]
@[simp] theorem State.eventAt_twin (t code chan vec : Nat) (data : List Nat) : (s.eventAt t code chan vec data).twin = s.twin := by rw [(eventAt_hostSide s t code chan vec data).rest]
@[simp] theorem State.eventAt_pw (t code chan vec : Nat) (data : List Nat) : (s.eventAt t code chan vec data).pw = s.pw := by rw [(eventAt_hostSide s t code chan vec data).rest]
@[simp] theorem State.eventAt_lane (t code chan vec : Nat) (data : List Nat) : (s.eventAt t code chan vec data).lane = s.lane := by rw [(eventAt_hostSide s t code chan vec data).rest]
@[simp] theorem State.eventAt_gddr (t code chan vec : Nat) (data : List Nat) : (s.eventAt t code chan vec data).mem.gddr = s.mem.gddr := (eventAt_hostSide s t code chan vec data).gddr

@[simp] theorem State.answer_pending (a : Answer) : (s.answer a).pending = s.pending := by rw [(answer_hostSide s a).rest]
@[simp] theorem State.answer_free (a : Answer) : (s.answer a).free = s.free := by rw [(answer_hostSide s a).rest]
@[simp] theorem State.answer_now (a : Answer) : (s.answer a).now = s.now := by rw [(answer_hostSide s a).rest]
@[simp] theorem State.answer_raw (a : Answer) : (s.answer a).raw = s.raw := by rw [(answer_hostSide s a).rest]
@[simp] theorem State.answer_clk (a : Answer) : (s.answer a).clk = s.clk := by rw [(answer_hostSide s a).rest]
@[simp] theorem State.answer_rdata (a : Answer) : (s.answer a).rdata = s.rdata := by rw [(answer_hostSide s a).rest]
@[simp] theorem State.answer_cvu (a : Answer) : (s.answer a).cvu = s.cvu := by rw [(answer_hostSide s a).rest]
@[simp] theorem State.answer_time (a : Answer) : (s.answer a).time = s.time := by rw [(answer_hostSide s a).rest]
@[simp] theorem State.answer_cap (a : Answer) : (s.answer a).cap = s.cap := by rw [(answer_hostSide s a).rest]
@[simp] theorem State.answer_enc (a : Answer) : (s.answer a).enc = s.enc := by rw [(answer_hostSide s a).rest]
@[simp] theorem State.answer_ds (a : Answer) : (s.answer a).ds = s.ds := by rw [(answer_hostSide s a).rest]
@[simp] theorem State.answer_comp (a : Answer) : (s.answer a).comp = s.comp := by rw [(answer_hostSide s a).rest]
@[simp] theorem State.answer_blit (a : Answer) : (s.answer a).blit = s.blit := by rw [(answer_hostSide s a).rest]
@[simp] theorem State.answer_pkg (a : Answer) : (s.answer a).pkg = s.pkg := by rw [(answer_hostSide s a).rest]
@[simp] theorem State.answer_dec (a : Answer) : (s.answer a).dec = s.dec := by rw [(answer_hostSide s a).rest]
@[simp] theorem State.answer_dip (a : Answer) : (s.answer a).dip = s.dip := by rw [(answer_hostSide s a).rest]
@[simp] theorem State.answer_net (a : Answer) : (s.answer a).net = s.net := by rw [(answer_hostSide s a).rest]
@[simp] theorem State.answer_cl (a : Answer) : (s.answer a).cl = s.cl := by rw [(answer_hostSide s a).rest]
@[simp] theorem State.answer_aud (a : Answer) : (s.answer a).aud = s.aud := by rw [(answer_hostSide s a).rest]
@[simp] theorem State.answer_twin (a : Answer) : (s.answer a).twin = s.twin := by rw [(answer_hostSide s a).rest]
@[simp] theorem State.answer_pw (a : Answer) : (s.answer a).pw = s.pw := by rw [(answer_hostSide s a).rest]
@[simp] theorem State.answer_lane (a : Answer) : (s.answer a).lane = s.lane := by rw [(answer_hostSide s a).rest]
@[simp] theorem State.answer_gddr (a : Answer) : (s.answer a).mem.gddr = s.mem.gddr := (answer_hostSide s a).gddr

@[simp] theorem State.finish_pending (a : Answer) (ws : List Word) : (s.finish a ws).pending = s.pending := by rw [(finish_hostSide s a ws).rest]
@[simp] theorem State.finish_free (a : Answer) (ws : List Word) : (s.finish a ws).free = s.free := by rw [(finish_hostSide s a ws).rest]
@[simp] theorem State.finish_now (a : Answer) (ws : List Word) : (s.finish a ws).now = s.now := by rw [(finish_hostSide s a ws).rest]
@[simp] theorem State.finish_raw (a : Answer) (ws : List Word) : (s.finish a ws).raw = s.raw := by rw [(finish_hostSide s a ws).rest]
@[simp] theorem State.finish_clk (a : Answer) (ws : List Word) : (s.finish a ws).clk = s.clk := by rw [(finish_hostSide s a ws).rest]
@[simp] theorem State.finish_rdata (a : Answer) (ws : List Word) : (s.finish a ws).rdata = s.rdata := by rw [(finish_hostSide s a ws).rest]
@[simp] theorem State.finish_cvu (a : Answer) (ws : List Word) : (s.finish a ws).cvu = s.cvu := by rw [(finish_hostSide s a ws).rest]
@[simp] theorem State.finish_time (a : Answer) (ws : List Word) : (s.finish a ws).time = s.time := by rw [(finish_hostSide s a ws).rest]
@[simp] theorem State.finish_cap (a : Answer) (ws : List Word) : (s.finish a ws).cap = s.cap := by rw [(finish_hostSide s a ws).rest]
@[simp] theorem State.finish_enc (a : Answer) (ws : List Word) : (s.finish a ws).enc = s.enc := by rw [(finish_hostSide s a ws).rest]
@[simp] theorem State.finish_ds (a : Answer) (ws : List Word) : (s.finish a ws).ds = s.ds := by rw [(finish_hostSide s a ws).rest]
@[simp] theorem State.finish_comp (a : Answer) (ws : List Word) : (s.finish a ws).comp = s.comp := by rw [(finish_hostSide s a ws).rest]
@[simp] theorem State.finish_blit (a : Answer) (ws : List Word) : (s.finish a ws).blit = s.blit := by rw [(finish_hostSide s a ws).rest]
@[simp] theorem State.finish_pkg (a : Answer) (ws : List Word) : (s.finish a ws).pkg = s.pkg := by rw [(finish_hostSide s a ws).rest]
@[simp] theorem State.finish_dec (a : Answer) (ws : List Word) : (s.finish a ws).dec = s.dec := by rw [(finish_hostSide s a ws).rest]
@[simp] theorem State.finish_dip (a : Answer) (ws : List Word) : (s.finish a ws).dip = s.dip := by rw [(finish_hostSide s a ws).rest]
@[simp] theorem State.finish_net (a : Answer) (ws : List Word) : (s.finish a ws).net = s.net := by rw [(finish_hostSide s a ws).rest]
@[simp] theorem State.finish_cl (a : Answer) (ws : List Word) : (s.finish a ws).cl = s.cl := by rw [(finish_hostSide s a ws).rest]
@[simp] theorem State.finish_aud (a : Answer) (ws : List Word) : (s.finish a ws).aud = s.aud := by rw [(finish_hostSide s a ws).rest]
@[simp] theorem State.finish_twin (a : Answer) (ws : List Word) : (s.finish a ws).twin = s.twin := by rw [(finish_hostSide s a ws).rest]
@[simp] theorem State.finish_pw (a : Answer) (ws : List Word) : (s.finish a ws).pw = s.pw := by rw [(finish_hostSide s a ws).rest]
@[simp] theorem State.finish_lane (a : Answer) (ws : List Word) : (s.finish a ws).lane = s.lane := by rw [(finish_hostSide s a ws).rest]
@[simp] theorem State.finish_gddr (a : Answer) (ws : List Word) : (s.finish a ws).mem.gddr = s.mem.gddr := (finish_hostSide s a ws).gddr

@[simp] theorem State.complete_pending (op key : Nat) (st : Status) (res : List Nat) : (s.complete op key st res).pending = s.pending := by rw [(complete_hostSide s op key st res).rest]
@[simp] theorem State.complete_free (op key : Nat) (st : Status) (res : List Nat) : (s.complete op key st res).free = s.free := by rw [(complete_hostSide s op key st res).rest]
@[simp] theorem State.complete_now (op key : Nat) (st : Status) (res : List Nat) : (s.complete op key st res).now = s.now := by rw [(complete_hostSide s op key st res).rest]
@[simp] theorem State.complete_raw (op key : Nat) (st : Status) (res : List Nat) : (s.complete op key st res).raw = s.raw := by rw [(complete_hostSide s op key st res).rest]
@[simp] theorem State.complete_clk (op key : Nat) (st : Status) (res : List Nat) : (s.complete op key st res).clk = s.clk := by rw [(complete_hostSide s op key st res).rest]
@[simp] theorem State.complete_rdata (op key : Nat) (st : Status) (res : List Nat) : (s.complete op key st res).rdata = s.rdata := by rw [(complete_hostSide s op key st res).rest]
@[simp] theorem State.complete_cvu (op key : Nat) (st : Status) (res : List Nat) : (s.complete op key st res).cvu = s.cvu := by rw [(complete_hostSide s op key st res).rest]
@[simp] theorem State.complete_time (op key : Nat) (st : Status) (res : List Nat) : (s.complete op key st res).time = s.time := by rw [(complete_hostSide s op key st res).rest]
@[simp] theorem State.complete_cap (op key : Nat) (st : Status) (res : List Nat) : (s.complete op key st res).cap = s.cap := by rw [(complete_hostSide s op key st res).rest]
@[simp] theorem State.complete_enc (op key : Nat) (st : Status) (res : List Nat) : (s.complete op key st res).enc = s.enc := by rw [(complete_hostSide s op key st res).rest]
@[simp] theorem State.complete_ds (op key : Nat) (st : Status) (res : List Nat) : (s.complete op key st res).ds = s.ds := by rw [(complete_hostSide s op key st res).rest]
@[simp] theorem State.complete_comp (op key : Nat) (st : Status) (res : List Nat) : (s.complete op key st res).comp = s.comp := by rw [(complete_hostSide s op key st res).rest]
@[simp] theorem State.complete_blit (op key : Nat) (st : Status) (res : List Nat) : (s.complete op key st res).blit = s.blit := by rw [(complete_hostSide s op key st res).rest]
@[simp] theorem State.complete_pkg (op key : Nat) (st : Status) (res : List Nat) : (s.complete op key st res).pkg = s.pkg := by rw [(complete_hostSide s op key st res).rest]
@[simp] theorem State.complete_dec (op key : Nat) (st : Status) (res : List Nat) : (s.complete op key st res).dec = s.dec := by rw [(complete_hostSide s op key st res).rest]
@[simp] theorem State.complete_dip (op key : Nat) (st : Status) (res : List Nat) : (s.complete op key st res).dip = s.dip := by rw [(complete_hostSide s op key st res).rest]
@[simp] theorem State.complete_net (op key : Nat) (st : Status) (res : List Nat) : (s.complete op key st res).net = s.net := by rw [(complete_hostSide s op key st res).rest]
@[simp] theorem State.complete_cl (op key : Nat) (st : Status) (res : List Nat) : (s.complete op key st res).cl = s.cl := by rw [(complete_hostSide s op key st res).rest]
@[simp] theorem State.complete_aud (op key : Nat) (st : Status) (res : List Nat) : (s.complete op key st res).aud = s.aud := by rw [(complete_hostSide s op key st res).rest]
@[simp] theorem State.complete_twin (op key : Nat) (st : Status) (res : List Nat) : (s.complete op key st res).twin = s.twin := by rw [(complete_hostSide s op key st res).rest]
@[simp] theorem State.complete_pw (op key : Nat) (st : Status) (res : List Nat) : (s.complete op key st res).pw = s.pw := by rw [(complete_hostSide s op key st res).rest]
@[simp] theorem State.complete_lane (op key : Nat) (st : Status) (res : List Nat) : (s.complete op key st res).lane = s.lane := by rw [(complete_hostSide s op key st res).rest]
@[simp] theorem State.complete_gddr (op key : Nat) (st : Status) (res : List Nat) : (s.complete op key st res).mem.gddr = s.mem.gddr := (complete_hostSide s op key st res).gddr

@[simp] theorem State.failSets_pending (p : CommitSet → Bool) (reason : Nat) : (s.failSets p reason).pending = s.pending := by rw [(failSets_hostSide s p reason).rest]
@[simp] theorem State.failSets_free (p : CommitSet → Bool) (reason : Nat) : (s.failSets p reason).free = s.free := by rw [(failSets_hostSide s p reason).rest]
@[simp] theorem State.failSets_now (p : CommitSet → Bool) (reason : Nat) : (s.failSets p reason).now = s.now := by rw [(failSets_hostSide s p reason).rest]
@[simp] theorem State.failSets_raw (p : CommitSet → Bool) (reason : Nat) : (s.failSets p reason).raw = s.raw := by rw [(failSets_hostSide s p reason).rest]
@[simp] theorem State.failSets_clk (p : CommitSet → Bool) (reason : Nat) : (s.failSets p reason).clk = s.clk := by rw [(failSets_hostSide s p reason).rest]
@[simp] theorem State.failSets_rdata (p : CommitSet → Bool) (reason : Nat) : (s.failSets p reason).rdata = s.rdata := by rw [(failSets_hostSide s p reason).rest]
@[simp] theorem State.failSets_cvu (p : CommitSet → Bool) (reason : Nat) : (s.failSets p reason).cvu = s.cvu := by rw [(failSets_hostSide s p reason).rest]
@[simp] theorem State.failSets_time (p : CommitSet → Bool) (reason : Nat) : (s.failSets p reason).time = s.time := by rw [(failSets_hostSide s p reason).rest]
@[simp] theorem State.failSets_cap (p : CommitSet → Bool) (reason : Nat) : (s.failSets p reason).cap = s.cap := by rw [(failSets_hostSide s p reason).rest]
@[simp] theorem State.failSets_enc (p : CommitSet → Bool) (reason : Nat) : (s.failSets p reason).enc = s.enc := by rw [(failSets_hostSide s p reason).rest]
@[simp] theorem State.failSets_ds (p : CommitSet → Bool) (reason : Nat) : (s.failSets p reason).ds = s.ds := by rw [(failSets_hostSide s p reason).rest]
@[simp] theorem State.failSets_comp (p : CommitSet → Bool) (reason : Nat) : (s.failSets p reason).comp = s.comp := by rw [(failSets_hostSide s p reason).rest]
@[simp] theorem State.failSets_blit (p : CommitSet → Bool) (reason : Nat) : (s.failSets p reason).blit = s.blit := by rw [(failSets_hostSide s p reason).rest]
@[simp] theorem State.failSets_pkg (p : CommitSet → Bool) (reason : Nat) : (s.failSets p reason).pkg = s.pkg := by rw [(failSets_hostSide s p reason).rest]
@[simp] theorem State.failSets_dec (p : CommitSet → Bool) (reason : Nat) : (s.failSets p reason).dec = s.dec := by rw [(failSets_hostSide s p reason).rest]
@[simp] theorem State.failSets_dip (p : CommitSet → Bool) (reason : Nat) : (s.failSets p reason).dip = s.dip := by rw [(failSets_hostSide s p reason).rest]
@[simp] theorem State.failSets_net (p : CommitSet → Bool) (reason : Nat) : (s.failSets p reason).net = s.net := by rw [(failSets_hostSide s p reason).rest]
@[simp] theorem State.failSets_cl (p : CommitSet → Bool) (reason : Nat) : (s.failSets p reason).cl = s.cl := by rw [(failSets_hostSide s p reason).rest]
@[simp] theorem State.failSets_aud (p : CommitSet → Bool) (reason : Nat) : (s.failSets p reason).aud = s.aud := by rw [(failSets_hostSide s p reason).rest]
@[simp] theorem State.failSets_twin (p : CommitSet → Bool) (reason : Nat) : (s.failSets p reason).twin = s.twin := by rw [(failSets_hostSide s p reason).rest]
@[simp] theorem State.failSets_pw (p : CommitSet → Bool) (reason : Nat) : (s.failSets p reason).pw = s.pw := by rw [(failSets_hostSide s p reason).rest]
@[simp] theorem State.failSets_lane (p : CommitSet → Bool) (reason : Nat) : (s.failSets p reason).lane = s.lane := by rw [(failSets_hostSide s p reason).rest]
@[simp] theorem State.failSets_gddr (p : CommitSet → Bool) (reason : Nat) : (s.failSets p reason).mem.gddr = s.mem.gddr := (failSets_hostSide s p reason).gddr

@[simp] theorem State.raiseAt_pending (cls code data chan t : Nat) : (s.raiseAt cls code data chan t).pending = s.pending := rfl
@[simp] theorem State.raiseAt_free (cls code data chan t : Nat) : (s.raiseAt cls code data chan t).free = s.free := rfl
@[simp] theorem State.raiseAt_now (cls code data chan t : Nat) : (s.raiseAt cls code data chan t).now = s.now := rfl
@[simp] theorem State.raiseAt_raw (cls code data chan t : Nat) : (s.raiseAt cls code data chan t).raw = s.raw := rfl
@[simp] theorem State.raiseAt_clk (cls code data chan t : Nat) : (s.raiseAt cls code data chan t).clk = s.clk := rfl
@[simp] theorem State.raiseAt_out (cls code data chan t : Nat) : (s.raiseAt cls code data chan t).out = s.out := rfl
@[simp] theorem State.raiseAt_rdata (cls code data chan t : Nat) : (s.raiseAt cls code data chan t).rdata = s.rdata := rfl
@[simp] theorem State.raiseAt_host (cls code data chan t : Nat) : (s.raiseAt cls code data chan t).host = s.host := rfl
@[simp] theorem State.raiseAt_cvu (cls code data chan t : Nat) : (s.raiseAt cls code data chan t).cvu = s.cvu := rfl
@[simp] theorem State.raiseAt_time (cls code data chan t : Nat) : (s.raiseAt cls code data chan t).time = s.time := rfl
@[simp] theorem State.raiseAt_cap (cls code data chan t : Nat) : (s.raiseAt cls code data chan t).cap = s.cap := rfl
@[simp] theorem State.raiseAt_enc (cls code data chan t : Nat) : (s.raiseAt cls code data chan t).enc = s.enc := rfl
@[simp] theorem State.raiseAt_ds (cls code data chan t : Nat) : (s.raiseAt cls code data chan t).ds = s.ds := rfl
@[simp] theorem State.raiseAt_comp (cls code data chan t : Nat) : (s.raiseAt cls code data chan t).comp = s.comp := rfl
@[simp] theorem State.raiseAt_blit (cls code data chan t : Nat) : (s.raiseAt cls code data chan t).blit = s.blit := rfl
@[simp] theorem State.raiseAt_pkg (cls code data chan t : Nat) : (s.raiseAt cls code data chan t).pkg = s.pkg := rfl
@[simp] theorem State.raiseAt_dec (cls code data chan t : Nat) : (s.raiseAt cls code data chan t).dec = s.dec := rfl
@[simp] theorem State.raiseAt_dip (cls code data chan t : Nat) : (s.raiseAt cls code data chan t).dip = s.dip := rfl
@[simp] theorem State.raiseAt_net (cls code data chan t : Nat) : (s.raiseAt cls code data chan t).net = s.net := rfl
@[simp] theorem State.raiseAt_cl (cls code data chan t : Nat) : (s.raiseAt cls code data chan t).cl = s.cl := rfl
@[simp] theorem State.raiseAt_aud (cls code data chan t : Nat) : (s.raiseAt cls code data chan t).aud = s.aud := rfl
@[simp] theorem State.raiseAt_twin (cls code data chan t : Nat) : (s.raiseAt cls code data chan t).twin = s.twin := rfl
@[simp] theorem State.raiseAt_pw (cls code data chan t : Nat) : (s.raiseAt cls code data chan t).pw = s.pw := rfl
@[simp] theorem State.raiseAt_lane (cls code data chan t : Nat) : (s.raiseAt cls code data chan t).lane = s.lane := rfl
@[simp] theorem State.raiseAt_mem (cls code data chan t : Nat) : (s.raiseAt cls code data chan t).mem = s.mem := rfl

@[simp] theorem State.raise_pending (cls code data chan : Nat) : (s.raise cls code data chan).pending = s.pending := rfl
@[simp] theorem State.raise_free (cls code data chan : Nat) : (s.raise cls code data chan).free = s.free := rfl
@[simp] theorem State.raise_now (cls code data chan : Nat) : (s.raise cls code data chan).now = s.now := rfl
@[simp] theorem State.raise_raw (cls code data chan : Nat) : (s.raise cls code data chan).raw = s.raw := rfl
@[simp] theorem State.raise_clk (cls code data chan : Nat) : (s.raise cls code data chan).clk = s.clk := rfl
@[simp] theorem State.raise_out (cls code data chan : Nat) : (s.raise cls code data chan).out = s.out := rfl
@[simp] theorem State.raise_rdata (cls code data chan : Nat) : (s.raise cls code data chan).rdata = s.rdata := rfl
@[simp] theorem State.raise_host (cls code data chan : Nat) : (s.raise cls code data chan).host = s.host := rfl
@[simp] theorem State.raise_cvu (cls code data chan : Nat) : (s.raise cls code data chan).cvu = s.cvu := rfl
@[simp] theorem State.raise_time (cls code data chan : Nat) : (s.raise cls code data chan).time = s.time := rfl
@[simp] theorem State.raise_cap (cls code data chan : Nat) : (s.raise cls code data chan).cap = s.cap := rfl
@[simp] theorem State.raise_enc (cls code data chan : Nat) : (s.raise cls code data chan).enc = s.enc := rfl
@[simp] theorem State.raise_ds (cls code data chan : Nat) : (s.raise cls code data chan).ds = s.ds := rfl
@[simp] theorem State.raise_comp (cls code data chan : Nat) : (s.raise cls code data chan).comp = s.comp := rfl
@[simp] theorem State.raise_blit (cls code data chan : Nat) : (s.raise cls code data chan).blit = s.blit := rfl
@[simp] theorem State.raise_pkg (cls code data chan : Nat) : (s.raise cls code data chan).pkg = s.pkg := rfl
@[simp] theorem State.raise_dec (cls code data chan : Nat) : (s.raise cls code data chan).dec = s.dec := rfl
@[simp] theorem State.raise_dip (cls code data chan : Nat) : (s.raise cls code data chan).dip = s.dip := rfl
@[simp] theorem State.raise_net (cls code data chan : Nat) : (s.raise cls code data chan).net = s.net := rfl
@[simp] theorem State.raise_cl (cls code data chan : Nat) : (s.raise cls code data chan).cl = s.cl := rfl
@[simp] theorem State.raise_aud (cls code data chan : Nat) : (s.raise cls code data chan).aud = s.aud := rfl
@[simp] theorem State.raise_twin (cls code data chan : Nat) : (s.raise cls code data chan).twin = s.twin := rfl
@[simp] theorem State.raise_pw (cls code data chan : Nat) : (s.raise cls code data chan).pw = s.pw := rfl
@[simp] theorem State.raise_lane (cls code data chan : Nat) : (s.raise cls code data chan).lane = s.lane := rfl
@[simp] theorem State.raise_mem (cls code data chan : Nat) : (s.raise cls code data chan).mem = s.mem := rfl

@[simp] theorem State.causeOn_pending (cls code data chan : Nat) : (s.causeOn cls code data chan).pending = s.pending := rfl
@[simp] theorem State.causeOn_free (cls code data chan : Nat) : (s.causeOn cls code data chan).free = s.free := rfl
@[simp] theorem State.causeOn_now (cls code data chan : Nat) : (s.causeOn cls code data chan).now = s.now := rfl
@[simp] theorem State.causeOn_raw (cls code data chan : Nat) : (s.causeOn cls code data chan).raw = s.raw := rfl
@[simp] theorem State.causeOn_clk (cls code data chan : Nat) : (s.causeOn cls code data chan).clk = s.clk := rfl
@[simp] theorem State.causeOn_out (cls code data chan : Nat) : (s.causeOn cls code data chan).out = s.out := rfl
@[simp] theorem State.causeOn_rdata (cls code data chan : Nat) : (s.causeOn cls code data chan).rdata = s.rdata := rfl
@[simp] theorem State.causeOn_host (cls code data chan : Nat) : (s.causeOn cls code data chan).host = s.host := rfl
@[simp] theorem State.causeOn_cvu (cls code data chan : Nat) : (s.causeOn cls code data chan).cvu = s.cvu := rfl
@[simp] theorem State.causeOn_time (cls code data chan : Nat) : (s.causeOn cls code data chan).time = s.time := rfl
@[simp] theorem State.causeOn_cap (cls code data chan : Nat) : (s.causeOn cls code data chan).cap = s.cap := rfl
@[simp] theorem State.causeOn_enc (cls code data chan : Nat) : (s.causeOn cls code data chan).enc = s.enc := rfl
@[simp] theorem State.causeOn_ds (cls code data chan : Nat) : (s.causeOn cls code data chan).ds = s.ds := rfl
@[simp] theorem State.causeOn_comp (cls code data chan : Nat) : (s.causeOn cls code data chan).comp = s.comp := rfl
@[simp] theorem State.causeOn_blit (cls code data chan : Nat) : (s.causeOn cls code data chan).blit = s.blit := rfl
@[simp] theorem State.causeOn_pkg (cls code data chan : Nat) : (s.causeOn cls code data chan).pkg = s.pkg := rfl
@[simp] theorem State.causeOn_dec (cls code data chan : Nat) : (s.causeOn cls code data chan).dec = s.dec := rfl
@[simp] theorem State.causeOn_dip (cls code data chan : Nat) : (s.causeOn cls code data chan).dip = s.dip := rfl
@[simp] theorem State.causeOn_net (cls code data chan : Nat) : (s.causeOn cls code data chan).net = s.net := rfl
@[simp] theorem State.causeOn_cl (cls code data chan : Nat) : (s.causeOn cls code data chan).cl = s.cl := rfl
@[simp] theorem State.causeOn_aud (cls code data chan : Nat) : (s.causeOn cls code data chan).aud = s.aud := rfl
@[simp] theorem State.causeOn_twin (cls code data chan : Nat) : (s.causeOn cls code data chan).twin = s.twin := rfl
@[simp] theorem State.causeOn_pw (cls code data chan : Nat) : (s.causeOn cls code data chan).pw = s.pw := rfl
@[simp] theorem State.causeOn_lane (cls code data chan : Nat) : (s.causeOn cls code data chan).lane = s.lane := rfl
@[simp] theorem State.causeOn_mem (cls code data chan : Nat) : (s.causeOn cls code data chan).mem = s.mem := rfl

@[simp] theorem State.causeOff_pending (cls code data chan : Nat) : (s.causeOff cls code data chan).pending = s.pending := rfl
@[simp] theorem State.causeOff_free (cls code data chan : Nat) : (s.causeOff cls code data chan).free = s.free := rfl
@[simp] theorem State.causeOff_now (cls code data chan : Nat) : (s.causeOff cls code data chan).now = s.now := rfl
@[simp] theorem State.causeOff_raw (cls code data chan : Nat) : (s.causeOff cls code data chan).raw = s.raw := rfl
@[simp] theorem State.causeOff_clk (cls code data chan : Nat) : (s.causeOff cls code data chan).clk = s.clk := rfl
@[simp] theorem State.causeOff_out (cls code data chan : Nat) : (s.causeOff cls code data chan).out = s.out := rfl
@[simp] theorem State.causeOff_rdata (cls code data chan : Nat) : (s.causeOff cls code data chan).rdata = s.rdata := rfl
@[simp] theorem State.causeOff_host (cls code data chan : Nat) : (s.causeOff cls code data chan).host = s.host := rfl
@[simp] theorem State.causeOff_cvu (cls code data chan : Nat) : (s.causeOff cls code data chan).cvu = s.cvu := rfl
@[simp] theorem State.causeOff_time (cls code data chan : Nat) : (s.causeOff cls code data chan).time = s.time := rfl
@[simp] theorem State.causeOff_cap (cls code data chan : Nat) : (s.causeOff cls code data chan).cap = s.cap := rfl
@[simp] theorem State.causeOff_enc (cls code data chan : Nat) : (s.causeOff cls code data chan).enc = s.enc := rfl
@[simp] theorem State.causeOff_ds (cls code data chan : Nat) : (s.causeOff cls code data chan).ds = s.ds := rfl
@[simp] theorem State.causeOff_comp (cls code data chan : Nat) : (s.causeOff cls code data chan).comp = s.comp := rfl
@[simp] theorem State.causeOff_blit (cls code data chan : Nat) : (s.causeOff cls code data chan).blit = s.blit := rfl
@[simp] theorem State.causeOff_pkg (cls code data chan : Nat) : (s.causeOff cls code data chan).pkg = s.pkg := rfl
@[simp] theorem State.causeOff_dec (cls code data chan : Nat) : (s.causeOff cls code data chan).dec = s.dec := rfl
@[simp] theorem State.causeOff_dip (cls code data chan : Nat) : (s.causeOff cls code data chan).dip = s.dip := rfl
@[simp] theorem State.causeOff_net (cls code data chan : Nat) : (s.causeOff cls code data chan).net = s.net := rfl
@[simp] theorem State.causeOff_cl (cls code data chan : Nat) : (s.causeOff cls code data chan).cl = s.cl := rfl
@[simp] theorem State.causeOff_aud (cls code data chan : Nat) : (s.causeOff cls code data chan).aud = s.aud := rfl
@[simp] theorem State.causeOff_twin (cls code data chan : Nat) : (s.causeOff cls code data chan).twin = s.twin := rfl
@[simp] theorem State.causeOff_pw (cls code data chan : Nat) : (s.causeOff cls code data chan).pw = s.pw := rfl
@[simp] theorem State.causeOff_lane (cls code data chan : Nat) : (s.causeOff cls code data chan).lane = s.lane := rfl
@[simp] theorem State.causeOff_mem (cls code data chan : Nat) : (s.causeOff cls code data chan).mem = s.mem := rfl

@[simp] theorem State.raiseOn_pending (cls code data chan : Nat) : (s.raiseOn cls code data chan).pending = s.pending := rfl
@[simp] theorem State.raiseOn_free (cls code data chan : Nat) : (s.raiseOn cls code data chan).free = s.free := rfl
@[simp] theorem State.raiseOn_now (cls code data chan : Nat) : (s.raiseOn cls code data chan).now = s.now := rfl
@[simp] theorem State.raiseOn_raw (cls code data chan : Nat) : (s.raiseOn cls code data chan).raw = s.raw := rfl
@[simp] theorem State.raiseOn_clk (cls code data chan : Nat) : (s.raiseOn cls code data chan).clk = s.clk := rfl
@[simp] theorem State.raiseOn_out (cls code data chan : Nat) : (s.raiseOn cls code data chan).out = s.out := rfl
@[simp] theorem State.raiseOn_rdata (cls code data chan : Nat) : (s.raiseOn cls code data chan).rdata = s.rdata := rfl
@[simp] theorem State.raiseOn_host (cls code data chan : Nat) : (s.raiseOn cls code data chan).host = s.host := rfl
@[simp] theorem State.raiseOn_cvu (cls code data chan : Nat) : (s.raiseOn cls code data chan).cvu = s.cvu := rfl
@[simp] theorem State.raiseOn_time (cls code data chan : Nat) : (s.raiseOn cls code data chan).time = s.time := rfl
@[simp] theorem State.raiseOn_cap (cls code data chan : Nat) : (s.raiseOn cls code data chan).cap = s.cap := rfl
@[simp] theorem State.raiseOn_enc (cls code data chan : Nat) : (s.raiseOn cls code data chan).enc = s.enc := rfl
@[simp] theorem State.raiseOn_ds (cls code data chan : Nat) : (s.raiseOn cls code data chan).ds = s.ds := rfl
@[simp] theorem State.raiseOn_comp (cls code data chan : Nat) : (s.raiseOn cls code data chan).comp = s.comp := rfl
@[simp] theorem State.raiseOn_blit (cls code data chan : Nat) : (s.raiseOn cls code data chan).blit = s.blit := rfl
@[simp] theorem State.raiseOn_pkg (cls code data chan : Nat) : (s.raiseOn cls code data chan).pkg = s.pkg := rfl
@[simp] theorem State.raiseOn_dec (cls code data chan : Nat) : (s.raiseOn cls code data chan).dec = s.dec := rfl
@[simp] theorem State.raiseOn_dip (cls code data chan : Nat) : (s.raiseOn cls code data chan).dip = s.dip := rfl
@[simp] theorem State.raiseOn_net (cls code data chan : Nat) : (s.raiseOn cls code data chan).net = s.net := rfl
@[simp] theorem State.raiseOn_cl (cls code data chan : Nat) : (s.raiseOn cls code data chan).cl = s.cl := rfl
@[simp] theorem State.raiseOn_aud (cls code data chan : Nat) : (s.raiseOn cls code data chan).aud = s.aud := rfl
@[simp] theorem State.raiseOn_twin (cls code data chan : Nat) : (s.raiseOn cls code data chan).twin = s.twin := rfl
@[simp] theorem State.raiseOn_pw (cls code data chan : Nat) : (s.raiseOn cls code data chan).pw = s.pw := rfl
@[simp] theorem State.raiseOn_lane (cls code data chan : Nat) : (s.raiseOn cls code data chan).lane = s.lane := rfl
@[simp] theorem State.raiseOn_mem (cls code data chan : Nat) : (s.raiseOn cls code data chan).mem = s.mem := rfl

@[simp] theorem State.pass_pending (n : Nat) : (s.pass n).pending = s.pending := rfl
@[simp] theorem State.pass_free (n : Nat) : (s.pass n).free = s.free := rfl
@[simp] theorem State.pass_out (n : Nat) : (s.pass n).out = s.out := rfl
@[simp] theorem State.pass_rdata (n : Nat) : (s.pass n).rdata = s.rdata := rfl
@[simp] theorem State.pass_host (n : Nat) : (s.pass n).host = s.host := rfl
@[simp] theorem State.pass_flt (n : Nat) : (s.pass n).flt = s.flt := rfl
@[simp] theorem State.pass_cvu (n : Nat) : (s.pass n).cvu = s.cvu := rfl
@[simp] theorem State.pass_time (n : Nat) : (s.pass n).time = s.time := rfl
@[simp] theorem State.pass_cap (n : Nat) : (s.pass n).cap = s.cap := rfl
@[simp] theorem State.pass_enc (n : Nat) : (s.pass n).enc = s.enc := rfl
@[simp] theorem State.pass_ds (n : Nat) : (s.pass n).ds = s.ds := rfl
@[simp] theorem State.pass_comp (n : Nat) : (s.pass n).comp = s.comp := rfl
@[simp] theorem State.pass_blit (n : Nat) : (s.pass n).blit = s.blit := rfl
@[simp] theorem State.pass_pkg (n : Nat) : (s.pass n).pkg = s.pkg := rfl
@[simp] theorem State.pass_dec (n : Nat) : (s.pass n).dec = s.dec := rfl
@[simp] theorem State.pass_dip (n : Nat) : (s.pass n).dip = s.dip := rfl
@[simp] theorem State.pass_net (n : Nat) : (s.pass n).net = s.net := rfl
@[simp] theorem State.pass_cl (n : Nat) : (s.pass n).cl = s.cl := rfl
@[simp] theorem State.pass_aud (n : Nat) : (s.pass n).aud = s.aud := rfl
@[simp] theorem State.pass_twin (n : Nat) : (s.pass n).twin = s.twin := rfl
@[simp] theorem State.pass_pw (n : Nat) : (s.pass n).pw = s.pw := rfl
@[simp] theorem State.pass_lane (n : Nat) : (s.pass n).lane = s.lane := rfl
@[simp] theorem State.pass_mem (n : Nat) : (s.pass n).mem = s.mem := rfl

@[simp] theorem State.start_pending (op : Nat) (tag : Word) (key : Nat) : (s.start op tag key).pending = s.pending := rfl
@[simp] theorem State.start_free (op : Nat) (tag : Word) (key : Nat) : (s.start op tag key).free = s.free := rfl
@[simp] theorem State.start_now (op : Nat) (tag : Word) (key : Nat) : (s.start op tag key).now = s.now := rfl
@[simp] theorem State.start_raw (op : Nat) (tag : Word) (key : Nat) : (s.start op tag key).raw = s.raw := rfl
@[simp] theorem State.start_clk (op : Nat) (tag : Word) (key : Nat) : (s.start op tag key).clk = s.clk := rfl
@[simp] theorem State.start_out (op : Nat) (tag : Word) (key : Nat) : (s.start op tag key).out = s.out := rfl
@[simp] theorem State.start_rdata (op : Nat) (tag : Word) (key : Nat) : (s.start op tag key).rdata = s.rdata := rfl
@[simp] theorem State.start_flt (op : Nat) (tag : Word) (key : Nat) : (s.start op tag key).flt = s.flt := rfl
@[simp] theorem State.start_cvu (op : Nat) (tag : Word) (key : Nat) : (s.start op tag key).cvu = s.cvu := rfl
@[simp] theorem State.start_time (op : Nat) (tag : Word) (key : Nat) : (s.start op tag key).time = s.time := rfl
@[simp] theorem State.start_cap (op : Nat) (tag : Word) (key : Nat) : (s.start op tag key).cap = s.cap := rfl
@[simp] theorem State.start_enc (op : Nat) (tag : Word) (key : Nat) : (s.start op tag key).enc = s.enc := rfl
@[simp] theorem State.start_ds (op : Nat) (tag : Word) (key : Nat) : (s.start op tag key).ds = s.ds := rfl
@[simp] theorem State.start_comp (op : Nat) (tag : Word) (key : Nat) : (s.start op tag key).comp = s.comp := rfl
@[simp] theorem State.start_blit (op : Nat) (tag : Word) (key : Nat) : (s.start op tag key).blit = s.blit := rfl
@[simp] theorem State.start_pkg (op : Nat) (tag : Word) (key : Nat) : (s.start op tag key).pkg = s.pkg := rfl
@[simp] theorem State.start_dec (op : Nat) (tag : Word) (key : Nat) : (s.start op tag key).dec = s.dec := rfl
@[simp] theorem State.start_dip (op : Nat) (tag : Word) (key : Nat) : (s.start op tag key).dip = s.dip := rfl
@[simp] theorem State.start_net (op : Nat) (tag : Word) (key : Nat) : (s.start op tag key).net = s.net := rfl
@[simp] theorem State.start_cl (op : Nat) (tag : Word) (key : Nat) : (s.start op tag key).cl = s.cl := rfl
@[simp] theorem State.start_aud (op : Nat) (tag : Word) (key : Nat) : (s.start op tag key).aud = s.aud := rfl
@[simp] theorem State.start_twin (op : Nat) (tag : Word) (key : Nat) : (s.start op tag key).twin = s.twin := rfl
@[simp] theorem State.start_pw (op : Nat) (tag : Word) (key : Nat) : (s.start op tag key).pw = s.pw := rfl
@[simp] theorem State.start_lane (op : Nat) (tag : Word) (key : Nat) : (s.start op tag key).lane = s.lane := rfl
@[simp] theorem State.start_mem (op : Nat) (tag : Word) (key : Nat) : (s.start op tag key).mem = s.mem := rfl

@[simp] theorem State.drawn_pending : s.drawn.pending = s.pending := rfl
@[simp] theorem State.drawn_now : s.drawn.now = s.now := rfl
@[simp] theorem State.drawn_raw : s.drawn.raw = s.raw := rfl
@[simp] theorem State.drawn_clk : s.drawn.clk = s.clk := rfl
@[simp] theorem State.drawn_out : s.drawn.out = s.out := rfl
@[simp] theorem State.drawn_rdata : s.drawn.rdata = s.rdata := rfl
@[simp] theorem State.drawn_host : s.drawn.host = s.host := rfl
@[simp] theorem State.drawn_flt : s.drawn.flt = s.flt := rfl
@[simp] theorem State.drawn_cvu : s.drawn.cvu = s.cvu := rfl
@[simp] theorem State.drawn_time : s.drawn.time = s.time := rfl
@[simp] theorem State.drawn_cap : s.drawn.cap = s.cap := rfl
@[simp] theorem State.drawn_enc : s.drawn.enc = s.enc := rfl
@[simp] theorem State.drawn_ds : s.drawn.ds = s.ds := rfl
@[simp] theorem State.drawn_comp : s.drawn.comp = s.comp := rfl
@[simp] theorem State.drawn_blit : s.drawn.blit = s.blit := rfl
@[simp] theorem State.drawn_pkg : s.drawn.pkg = s.pkg := rfl
@[simp] theorem State.drawn_dec : s.drawn.dec = s.dec := rfl
@[simp] theorem State.drawn_dip : s.drawn.dip = s.dip := rfl
@[simp] theorem State.drawn_net : s.drawn.net = s.net := rfl
@[simp] theorem State.drawn_cl : s.drawn.cl = s.cl := rfl
@[simp] theorem State.drawn_aud : s.drawn.aud = s.aud := rfl
@[simp] theorem State.drawn_twin : s.drawn.twin = s.twin := rfl
@[simp] theorem State.drawn_pw : s.drawn.pw = s.pw := rfl
@[simp] theorem State.drawn_lane : s.drawn.lane = s.lane := rfl
@[simp] theorem State.drawn_mem : s.drawn.mem = s.mem := rfl

@[simp] theorem State.emit_pending (k : OutKind) (l : List Nat) : (s.emit k l).pending = s.pending := rfl
@[simp] theorem State.emit_free (k : OutKind) (l : List Nat) : (s.emit k l).free = s.free := rfl
@[simp] theorem State.emit_now (k : OutKind) (l : List Nat) : (s.emit k l).now = s.now := rfl
@[simp] theorem State.emit_raw (k : OutKind) (l : List Nat) : (s.emit k l).raw = s.raw := rfl
@[simp] theorem State.emit_clk (k : OutKind) (l : List Nat) : (s.emit k l).clk = s.clk := rfl
@[simp] theorem State.emit_rdata (k : OutKind) (l : List Nat) : (s.emit k l).rdata = s.rdata := rfl
@[simp] theorem State.emit_host (k : OutKind) (l : List Nat) : (s.emit k l).host = s.host := rfl
@[simp] theorem State.emit_flt (k : OutKind) (l : List Nat) : (s.emit k l).flt = s.flt := rfl
@[simp] theorem State.emit_cvu (k : OutKind) (l : List Nat) : (s.emit k l).cvu = s.cvu := rfl
@[simp] theorem State.emit_time (k : OutKind) (l : List Nat) : (s.emit k l).time = s.time := rfl
@[simp] theorem State.emit_cap (k : OutKind) (l : List Nat) : (s.emit k l).cap = s.cap := rfl
@[simp] theorem State.emit_enc (k : OutKind) (l : List Nat) : (s.emit k l).enc = s.enc := rfl
@[simp] theorem State.emit_ds (k : OutKind) (l : List Nat) : (s.emit k l).ds = s.ds := rfl
@[simp] theorem State.emit_comp (k : OutKind) (l : List Nat) : (s.emit k l).comp = s.comp := rfl
@[simp] theorem State.emit_blit (k : OutKind) (l : List Nat) : (s.emit k l).blit = s.blit := rfl
@[simp] theorem State.emit_pkg (k : OutKind) (l : List Nat) : (s.emit k l).pkg = s.pkg := rfl
@[simp] theorem State.emit_dec (k : OutKind) (l : List Nat) : (s.emit k l).dec = s.dec := rfl
@[simp] theorem State.emit_dip (k : OutKind) (l : List Nat) : (s.emit k l).dip = s.dip := rfl
@[simp] theorem State.emit_net (k : OutKind) (l : List Nat) : (s.emit k l).net = s.net := rfl
@[simp] theorem State.emit_cl (k : OutKind) (l : List Nat) : (s.emit k l).cl = s.cl := rfl
@[simp] theorem State.emit_aud (k : OutKind) (l : List Nat) : (s.emit k l).aud = s.aud := rfl
@[simp] theorem State.emit_twin (k : OutKind) (l : List Nat) : (s.emit k l).twin = s.twin := rfl
@[simp] theorem State.emit_pw (k : OutKind) (l : List Nat) : (s.emit k l).pw = s.pw := rfl
@[simp] theorem State.emit_lane (k : OutKind) (l : List Nat) : (s.emit k l).lane = s.lane := rfl
@[simp] theorem State.emit_mem (k : OutKind) (l : List Nat) : (s.emit k l).mem = s.mem := rfl

end Sys2Proof.Machine
end

