-- ==== Sys2Proof/Laws/Vx.lean ====
section
/-!
SUPPORT. How a command is taken, judged and answered when nothing is in its way.
-/
namespace Sys2Proof.Machine

theorem Plain.unfenced {c : Vx} {n : Nat} {s : State} (h : Plain c n s) : s.host.fenced = none := by
  have := h.takes
  simp only [State.consumes, Bool.and_eq_true, Option.isNone_iff_eq_none] at this
  exact this.1.2

/-- With nothing waiting on a fence, nothing wakes. -/
theorem wake_nothing {s : State} (look : Nat → Option Handler) (h : s.host.fenced = none) (w : s.host.waiting = []) :
    s.wake look = s := by
  simp [State.wake, h, w]

theorem performOps_nothing {s : State} (h : s.time.opsDue = []) : s.performOps = s := by simp [State.performOps, h]

/-- A command that nothing holds back is served. -/
theorem runCmd_serve {c : Vx} {n op : Nat} {s : State} {look : Nat → Option Handler} (h : Plain c n s) :
    s.runCmd look ⟨op, c⟩ = s.serve look ⟨op, c⟩ := by
  have hf : (c.fence && !s.quiet) = false := by
    cases hc : c.fence
    · rfl
    · simp [h.fence hc]
  simp [State.runCmd, wake_nothing look h.unfenced h.noWaiting, h.takes, State.takeCmd, hf]

/-- No pair stands, or the command is none that a pair mirrors. -/
def Unmirrored (op : Nat) (s : State) : Prop := s.twin.role = 0 ∨ (pairOp op = false ∧ op ≠ 0x0011)

theorem Solo.unmirrored {c : Vx} {n : Nat} {s : State} (h : Solo c n s) (op : Nat) : Unmirrored op s := .inl h.noPair

/-- What a plain command is judged: its handler's own answer. -/
theorem judge_plain {c : Vx} {op : Nat} {s : State} {look : Nat → Option Handler} {hd : Handler} (h : Plain c hd.minLen s)
    (hl : look op = some hd) (hs : hd.needStage c s = false) (hr : 3 ≤ s.pw.st ∨ needsReady ⟨op, c⟩ = false)
    (hm : Unmirrored op s) :
    judge look .host ⟨op, c⟩ s = hd.run c s := by
  have h1 : ¬ 14 < c.len := by have := h.lenHigh; omega
  have h2 : ¬ c.len < hd.minLen := by have := h.lenLow; omega
  have h3 : (decide (s.pw.st < 3) && needsReady ⟨op, c⟩) = false := by
    rcases hr with hr | hr
    · simp [show ¬ s.pw.st < 3 by omega]
    · simp [hr]
  rcases hm with hm | hm
  · simp [judge, h.normal, hl, refuse, h.rsv, h1, h2, h3, h.noStage, hs, State.siphoned, State.paired, hm, State.isStandby]
  · simp [judge, h.normal, hl, refuse, h.rsv, h1, h2, h3, h.noStage, hs, State.siphoned, hm.1]

theorem mirrored_alone {s t : State} {x : Cmd} {r : Res} (h : Unmirrored x.op s) : t.mirrored s.paired x r = t := by
  rcases h with h | h <;> simp [State.mirrored, State.paired, h]

/-- The answer of a plain command whose handler answers at once, and what it leaves. -/
theorem runVx_answered {c : Vx} {op : Nat} {s : State} {hd : Handler} (h : Plain c hd.minLen s) (hl : handlerOf op = some hd)
    (hs : hd.needStage c s = false) (hr : 3 ≤ s.pw.st ∨ needsReady ⟨op, c⟩ = false)
    (hm : Unmirrored op s) (hn : ∀ a t, hd.run c s ≠ .later a t) :
    runVx op c s = .next (((hd.run c s).left s).answer (.done ((hd.run c s).slot ⟨op, c⟩))).performOps := by
  have hj := judge_plain h hl hs hr hm
  unfold runVx
  rw [runCmd_serve h]
  simp only [State.serve, h.noRemote, hj]
  generalize he : hd.run c s = r at *
  cases r with
  | later a t => exact absurd rfl (hn a t)
  | ok ws t => simp [Res.left, mirrored_alone (x := ⟨op, c⟩) hm]
  | acc t ws => simp [Res.left, mirrored_alone (x := ⟨op, c⟩) hm]
  | err st w => simp [Res.left, mirrored_alone (x := ⟨op, c⟩) hm]
  | errWith st k t => simp [Res.left, mirrored_alone (x := ⟨op, c⟩) hm]

/-- A handler that answers OK. -/
theorem runVx_ok {c : Vx} {op : Nat} {s t : State} {hd : Handler} {ws : List Nat} (h : Plain c hd.minLen s)
    (hl : handlerOf op = some hd) (hs : hd.needStage c s = false) (hr : 3 ≤ s.pw.st ∨ needsReady ⟨op, c⟩ = false)
    (hm : Unmirrored op s) (he : hd.run c s = .ok ws t) :
    runVx op c s = .next (t.answer (.done (rspWords c.tag op Status.ok.code (ws.map w32)))).performOps := by
  have := runVx_answered h hl hs hr hm (by simp [he])
  simpa [he, Res.left, Res.slot, Res.status, Res.words] using this

/-- A handler that answers ACCEPTED. -/
theorem runVx_acc {c : Vx} {op : Nat} {s t : State} {hd : Handler} {ws : List Nat} (h : Plain c hd.minLen s)
    (hl : handlerOf op = some hd) (hs : hd.needStage c s = false) (hr : 3 ≤ s.pw.st ∨ needsReady ⟨op, c⟩ = false)
    (hm : Unmirrored op s) (he : hd.run c s = .acc t ws) :
    runVx op c s = .next (t.answer (.done (rspWords c.tag op Status.accepted.code (ws.map w32)))).performOps := by
  have := runVx_answered h hl hs hr hm (by simp [he])
  simpa [he, Res.left, Res.slot, Res.status, Res.words] using this

/-- A handler that refuses leaves what was. -/
theorem runVx_err {c : Vx} {op : Nat} {s : State} {hd : Handler} {st : Status} {w : Nat} (h : Plain c hd.minLen s)
    (hl : handlerOf op = some hd) (hs : hd.needStage c s = false) (hr : 3 ≤ s.pw.st ∨ needsReady ⟨op, c⟩ = false)
    (hm : Unmirrored op s) (he : hd.run c s = .err st w) :
    runVx op c s = .next (s.answer (.done (rspWords c.tag op st.code [w32 (errIndex w)]))).performOps := by
  have := runVx_answered h hl hs hr hm (by simp [he])
  simpa [he, Res.left, Res.slot, Res.status, Res.words] using this

end Sys2Proof.Machine
end

