-- ==== Sys2Proof/WellFormed.lean ====
section
/-!
DEFINITION. Well-formed commands: every field of a record and every operand lies in the range that the manual's layout gives it.
A command that is not well-formed cannot arrive; the meanings are total on it all the same.
-/
namespace Sys2Proof

/-- A number fits a field of n bits. -/
def fits (n w : Nat) : Bool := decide (w < 2 ^ n)

/-- A command slot (R62): LEN of 8 bits, five reserved bits, fourteen payload words. -/
def Vx.wf (c : Vx) : Bool := fits 8 c.len && fits 5 c.rsv && c.pay.length == 14

/-- A command with a 16-bit opcode. -/
def Cmd.wf (x : Cmd) : Bool := fits 16 x.op && x.vx.wf

/-- A block of 2 and 64 bits, with the 58 bits before it (R124). -/
def WlBlock.wf (b : WlBlock) : Bool := fits 2 b.sync && fits 32 b.lo && fits 32 b.hi && fits 58 b.before

/-- A Wellhead Link packet of an input with 1 to 16 lanes (R121, R127). -/
def WlPkt.wf (p : WlPkt) : Bool :=
  decide (p.input < 8) && decide (p.first < p.lanes.length) && decide (p.lanes.length ≤ 16) && p.idle.all WlBlock.wf
    && p.lanes.all (·.all WlBlock.wf)

/-- A line of an SDI input: samples of at most 12 bits, no time code or one of 8 bytes (R134, R135). -/
def SdiLine.wf (d : SdiLine) : Bool :=
  decide (d.input < 8) && decide (d.mode < 3) && d.samples.all (fits 12) && (d.timecode.length == 0 || d.timecode.length == 8)

/-- What a unit hands over: samples of at most 12 bits in at most three components, QPs below 64 (R192, R251), at most 4 KiB of
column context (R206). -/
def TaskResult.wf (r : TaskResult) : Bool :=
  match r with
  | .coded c => decide (c.samples.length ≤ 3) && c.samples.all (·.all (fits 12)) && c.ctus.all (·.cus.all fun u => fits 6 u.qp)
      && decide (c.ctx.length ≤ 4096)
  | .moved _ => true

/-- The fields of a block of a sounder record (R216). -/
def SoundBlock.wf (b : SoundBlock) : Bool :=
  fits 32 b.intra && fits 32 b.inter && fits 16 b.mvX && fits 16 b.mvY && fits 2 b.flags

/-- An RTP packet: 16-bit sequence number, 32-bit timestamp, place in a fragmented unit 0 to 3. -/
def FeedPkt.wf (p : FeedPkt) : Bool := fits 16 p.seq && fits 32 p.ts && decide (p.frag < 4)

/-- What a decode engine makes: samples of at most 12 bits in at most three components (R192). -/
def DecResult.wf (r : DecResult) : Bool := r.ctus.all fun c => decide (c.planes.length ≤ 3) && c.planes.all (·.all (fits 12))

/-- An Ethernet frame: EtherType of 16 bits, a kind 0 to 5, an address of one or four words. -/
def RxFrame.wf (f : RxFrame) : Bool := fits 16 f.etherType && decide (f.mgmt < 6) && decide (f.addr.length ≤ 4)

/-- A PTP message at a port: sequence number of 16 bits, domain of 8. -/
def PtpMsg.wf (m : PtpMsg) : Bool := decide (m.port < 4) && fits 16 m.seq && fits 8 m.domain

/-- A Skovlink frame at a port: at most 1,480 payload bytes (R495). -/
def SkovFrame.wf (f : SkovFrame) : Bool := decide (f.port < 4) && decide (f.payload.length ≤ 370)

/-- A frame on the twin link: at most 8,192 payload bytes (R469). -/
def TwinFrame.wf (f : TwinFrame) : Bool := decide (f.payload.length ≤ 8192)

/-- The row state of a row record: five words for each task. -/
def RowState.wf (r : RowState) : Bool := r.results.all (·.length == 5)

/-- A MIRROR frame carries well-formed commands, a boundary kind 0 to 2, a channel below 16. -/
def MirrorMsg.wf : MirrorMsg → Bool
  | .cmd c => c.wf
  | .set kind chan _ _ cmds => decide (kind < 3) && decide (chan < 16) && cmds.all Cmd.wf
  | .answer seq _ => fits 32 seq
  | .running chan _ _ _ _ => decide (chan < 16)

/-- A SHA-384 digest is twelve words. -/
def Finding.wf (d : Finding) : Bool := d.digest.length == 12

/-- The partner's finding. -/
def Partner.wf (p : Partner) : Bool := p.finding.wf

/-- A well-formed command. -/
def Instr.wf : Instr → Bool
  | .registerWrite offset size value => decide (offset < 0x1000000) && (size == 1 || size == 2 || size == 4 || size == 8) && decide (value < 256 ^ size)
  | .dbCmdTailWrite _ => true
  | .dbRspHeadWrite _ => true
  | .dbEvtHeadWrite _ => true
  | .irqStatusWrite _ => true
  | .glbApertureWrite _ => true
  | .glbMpResetWrite _ => true
  | .bar2Access _ offset size value => decide (offset + size ≤ 0x10000000) && decide (1 ≤ size) && decide (value < 256 ^ size)
  | .tbSnapNsRead => true
  | .dsCtrlClear _ => true
  | .dsTraceRdWrite _ => true
  | .fhFirstValidWrite _ => true
  | .fhUnackWrite _ => true
  | .fhStatusWrite _ => true
  | .fhCtrlWrite _ => true
  | .commandConsume _ => true
  | .irqHoldoffExpire => true
  | .remoteTimeout => true
  | .nop c => c.wf
  | .getInfo c => c.wf
  | .setPowerState c => c.wf
  | .getPowerState c => c.wf
  | .commitOpen c => c.wf
  | .commitArm c => c.wf
  | .commitAbort c => c.wf
  | .commitStatus c => c.wf
  | .setEventFilter c => c.wf
  | .getRestartReport c => c.wf
  | .commitLoad => true
  | .commitApply => true
  | .functionLevelReset _ => true
  | .pcieLinkDown _ => true
  | .perstAssert _ => true
  | .mpRestart _ => true
  | .mpWatchdog _ => true
  | .doeRequest _ _ _ h code p r => decide (h.vendor < 65536) && decide (h.type < 256) && decide (code < 256)
      && decide (p.1 < 256) && decide (p.2 < 256) && decide (r.1 < 65536) && decide (r.2 < 65536)
  | .doeAbort _ => true
  | .timeGet c => c.wf
  | .timeSource c => c.wf
  | .timeSourceDone _ _ => true
  | .timeStep c => c.wf
  | .timeTrim c => c.wf
  | .tlConfig c => c.wf
  | .tlQuery c => c.wf
  | .evtAdd c => c.wf
  | .evtCancel c => c.wf
  | .evtQuery c => c.wf
  | .evConfig c => c.wf
  | .ref10mGate _ _ => true
  | .ref10mLost _ => true
  | .ref10mResume _ => true
  | .phEdge _ ph sig => decide (ph < 4) && decide (sig < 3)
  | .tlLossExpire => true
  | .eventFire => true
  | .eventMissed => true
  | .evPulseEnd => true
  | .wlAmBlock _ input lane _ sync lo hi before => decide (input < 8) && decide (lane < 16) && WlBlock.wf ⟨sync, lo, hi, before⟩
  | .wlFormat p => p.wf
  | .wlFrameStart p => p.wf
  | .wlLine p => p.wf
  | .wlBlank p => p.wf
  | .wlFrameEnd p => p.wf
  | .wlAux p => p.wf
  | .sdiLine d => d.wf
  | .rowNeeded => true
  | .inConfig c => c.wf
  | .inQuery c => c.wf
  | .inClear c => c.wf
  | .ipConfig c => c.wf
  | .ipCsc c => c.wf
  | .composeLine _ t => decide (t.composer < 4) && decide (1 ≤ t.blocks) && decide (t.blocks ≤ 256)
  | .composeDeadline => true
  | .chFrameBoundary => true
  | .signatureCompare => true
  | .compConfig c => c.wf
  | .layerConfig c => c.wf
  | .compQuery c => c.wf
  | .sigConfig c => c.wf
  | .sigQuery c => c.wf
  | .surfConfig c => c.wf
  | .surfPublish c => c.wf
  | .surfQuery c => c.wf
  | .blitSubmit c => c.wf
  | .blitQuery c => c.wf
  | .blitBw c => c.wf
  | .blitStart => true
  | .blitComplete _ bad => decide (bad.length ≤ 4096)
  | .blitDeadline => true
  | .deadWindowOpen => true
  | .deadWindowClose => true
  | .rowIssue => true
  | .producerRetry => true
  | .taskPull _ cls => decide (cls < 4)
  | .taskComplete _ unit res => decide (unit < 42) && res.wf
  | .engineError _ unit => decide (unit < 42)
  | .rowGuard => true
  | .reserveComplete _ path res => decide (path < 16) && res.wf
  | .rowDeadline => true
  | .sounderLine _ sounder blocks => decide (sounder < 4) && blocks.all (fun b => b.2.wf)
  | .soundingDeadline => true
  | .chConfig c => c.wf
  | .chLayout c => c.wf
  | .chDelay c => c.wf
  | .chStart c => c.wf
  | .chStop c => c.wf
  | .chStopBoundary => true
  | .chQuery c => c.wf
  | .chRefresh c => c.wf
  | .losslessConfig c => c.wf
  | .seiConfig c => c.wf
  | .engControl c => c.wf
  | .rcPhaseStart => true
  | .rcFallbackPoint => true
  | .groupPeriod => true
  | .rcCollect => true
  | .arrayShare => true
  | .rcConfig c => c.wf
  | .rcQuery c => c.wf
  | .rcBind c => c.wf
  | .groupConfig c => c.wf
  | .groupMember c => c.wf
  | .clrcConfig c => c.wf
  | .delayRelease => true
  | .taskDeadline => true
  | .serviceTimeout => true
  | .dsWells c => c.wf
  | .dsFlowAlloc c => c.wf
  | .dsFlowFree c => c.wf
  | .dsFlowQuery c => c.wf
  | .dsDelayConfig c => c.wf
  | .dsSubmit c => c.wf
  | .dsCancel c => c.wf
  | .dipperRunStart d => decide (d < 8)
  | .dipperWatchdog d => decide (d < 8)
  | .dipperMemError _ d kind => decide (d < 8) && decide (kind < 3)
  | .programReload _ => true
  | .dipNop d => decide (d < 8)
  | .dipAdd d => decide (d < 8)
  | .dipSub d => decide (d < 8)
  | .dipAnd d => decide (d < 8)
  | .dipOr d => decide (d < 8)
  | .dipXor d => decide (d < 8)
  | .dipShl d => decide (d < 8)
  | .dipShr d => decide (d < 8)
  | .dipSra d => decide (d < 8)
  | .dipMin d => decide (d < 8)
  | .dipMax d => decide (d < 8)
  | .dipMinu d => decide (d < 8)
  | .dipMaxu d => decide (d < 8)
  | .dipSlt d => decide (d < 8)
  | .dipSltu d => decide (d < 8)
  | .dipMul d => decide (d < 8)
  | .dipMul64 d => decide (d < 8)
  | .dipMul64u d => decide (d < 8)
  | .dipDivw d => decide (d < 8)
  | .dipDivu d => decide (d < 8)
  | .dipQmul d => decide (d < 8)
  | .dipQdiv d => decide (d < 8)
  | .dipQlog2 d => decide (d < 8)
  | .dipQsqrt d => decide (d < 8)
  | .dipAddi d => decide (d < 8)
  | .dipAndi d => decide (d < 8)
  | .dipOri d => decide (d < 8)
  | .dipXori d => decide (d < 8)
  | .dipShli d => decide (d < 8)
  | .dipShri d => decide (d < 8)
  | .dipSrai d => decide (d < 8)
  | .dipLui d => decide (d < 8)
  | .dipLd d => decide (d < 8)
  | .dipSt d => decide (d < 8)
  | .dipIn d => decide (d < 8)
  | .dipOut d => decide (d < 8)
  | .portIssue d => decide (d < 8)
  | .portEvtAdd d => decide (d < 8)
  | .portEvtCancel d => decide (d < 8)
  | .portUserEvt d => decide (d < 8)
  | .portUserFault d => decide (d < 8)
  | .dipBcc d => decide (d < 8)
  | .dipLoop d => decide (d < 8)
  | .dipLoopr d => decide (d < 8)
  | .dipBreak d => decide (d < 8)
  | .dipCall d => decide (d < 8)
  | .dipRet d => decide (d < 8)
  | .dipWait d => decide (d < 8)
  | .waitReturn d => decide (d < 8)
  | .dipYield d => decide (d < 8)
  | .dipImageWrite c => c.wf
  | .dipLoad c => c.wf
  | .dipLoadDone _ => true
  | .dipUnload c => c.wf
  | .dipQuery c => c.wf
  | .dipProgQuery c => c.wf
  | .dipHook c => c.wf
  | .decodeReady _ => true
  | .decodeComplete _ unit res => decide (unit < 42) && res.wf
  | .checkDeadline => true
  | .feedPacket _ feed p => decide (feed < 8) && p.wf
  | .feedReorderExpire => true
  | .feedTimeout => true
  | .feedRateMeasure => true
  | .feedErrorSecond => true
  | .selfcheckConfig c => c.wf
  | .selfcheckQuery c => c.wf
  | .feedConfig c => c.wf
  | .feedQuery c => c.wf
  | .feedClear c => c.wf
  | .audioFrame _ port bits samples => decide (port < 4) && decide (bits < 2) && decide (samples.length ≤ 16)
  | .audioLeaderFrame port samples => decide (port < 4) && decide (samples.length ≤ 16)
  | .audRateUpdate => true
  | .audioClockLoss => true
  | .audioWriteDeadline => true
  | .audConfig c => c.wf
  | .audQuery c => c.wf
  | .audClear c => c.wf
  | .packageRow _ dipper => decide (dipper < 8)
  | .audioPacketBuild _ stream => decide (stream < 8)
  | .pkgStream c => c.wf
  | .pkgTemplate c => c.wf
  | .pkgAudio c => c.wf
  | .pkgQuery c => c.wf
  | .txSelect port => decide (port < 4)
  | .txDiscard port => decide (port < 4)
  | .portRxFrame _ port f => decide (port < 4) && f.wf
  | .mgmtRx _ port kind _ _ => decide (port < 4) && decide (kind < 6)
  | .portLinkDown _ port => decide (port < 4)
  | .portLinkUp _ port => decide (port < 4)
  | .fecSecond => true
  | .gateListStart => true
  | .gateEntryChange => true
  | .ptpSyncRx m => m.wf
  | .ptpFollowUpRx m => m.wf
  | .ptpDelayReqRx m => m.wf
  | .ptpDelayRespRx m => m.wf
  | .ptpAnnounceRx m => m.wf
  | .ptpAnnounceTimeout => true
  | .ptpSyncTx => true
  | .ptpAnnounceTx => true
  | .ptpDelayReqTx => true
  | .portConfig c => c.wf
  | .portQuery c => c.wf
  | .queueConfig c => c.wf
  | .queueQuery c => c.wf
  | .gateWrite c => c.wf
  | .gateSet c => c.wf
  | .gateQuery c => c.wf
  | .policerConfig c => c.wf
  | .ptpConfig c => c.wf
  | .ptpQuery c => c.wf
  | .ptpStepAnswer c => c.wf
  | .laneLowAmplitude _ lane => decide (lane < 34)
  | .laneSignalPresent _ lane => decide (lane < 34)
  | .laneLol _ lane => decide (lane < 34)
  | .adaptFreeze _ lane => decide (lane < 34)
  | .laneLock _ lane => decide (lane < 34)
  | .laneExitTimeout => true
  | .laneTrainTimeout => true
  | .prbsSecond lane _ => decide (lane < 34)
  | .pcieEqRequest _ lane pre main post => decide (lane < 34) && decide (pre < 16) && decide (main < 64) && decide (post < 32)
  | .laneConfig c => c.wf
  | .laneTx c => c.wf
  | .laneQuery c => c.wf
  | .laneRetrain c => c.wf
  | .laneIdle c => c.wf
  | .twinHeartbeatTx => true
  | .twinHeartbeatRx f => f.wf
  | .heartbeatPathLoss => true
  | .takeoverComplete _ => true
  | .twinIssueRx f => f.wf
  | .twinSliceRx f => f.wf
  | .twinRowStateRx f st => f.wf && st.wf
  | .twinRowEndRx f => f.wf
  | .twinMirrorRx f m => f.wf && m.wf
  | .twinSpdmRx f p => f.wf && p.wf
  | .twinResendTimeout => true
  | .applyDeadline => true
  | .handoverTime => true
  | .swapPropose => true
  | .swapAnswerTimeout => true
  | .pairingTimeout => true
  | .twinPair c => c.wf
  | .twinUnpair c => c.wf
  | .twinSwap c => c.wf
  | .twinQuery c => c.wf
  | .skovJoinRx f => f.wf
  | .skovSpdmReqRx f => f.wf
  | .skovSpdmRspRx f find => f.wf && (match find with | some d => d.wf | none => true)
  | .skovAdmitRx f => f.wf
  | .skovCmdRx f => f.wf
  | .skovRcReportRx f => f.wf
  | .skovRcBudgetRx f => f.wf
  | .skovBarrierArmRx f => f.wf
  | .skovBarrierAckRx f => f.wf
  | .skovBroadcastRx f => f.wf
  | .skovSnapshotRx f => f.wf
  | .skovHeartbeatRx f => f.wf
  | .joinTx => true
  | .clusterHeartbeatTx => true
  | .memberMissing => true
  | .managerLost => true
  | .seqRecordExpire => true
  | .opCollectClose => true
  | .clConfig c => c.wf
  | .clPin c => c.wf
  | .clRosterWrite c => c.wf
  | .clRosterQuery c => c.wf
  | .clAccept c => c.wf
  | .clOp c => c.wf
  | .clOpSlot c => c.wf
  | .clOpQuery c => c.wf
  | .clStatus c => c.wf
  | .faultLog => true
  | .errPulseEnd => true
  | .memoryEdcError _ device _ _ => decide (device < 8)
  | .memoryEccError _ device _ => decide (device < 8)
  | .fltSeverity c => c.wf
  | .fltClearSafe c => c.wf
  | .fltInject c => c.wf
  | .cvuAlloc c => c.wf
  | .cvuFree c => c.wf
  | .cvuCtxRead c => c.wf
  | .cvuCtxWrite c => c.wf
  | .powerGood _ role _ => decide (role < 4)
  | .vinDrop _ => true
  | .powerStepDone _ _ _ => true
  | .powerStepTimeout => true
  | .bootWatchdog => true
  | .healthSample _ _ _ temps _ => temps.length == 8
  | .trickleRow _ _ => true
  | .fwQuery c => c.wf
  | .fwBegin c => c.wf
  | .fwEraseDone _ => true
  | .fwWrite c => c.wf
  | .fwEnd c => c.wf
  | .fwVerifyDone _ _ => true
  | .fwActivate c => c.wf
  | .fwRestart => true
  | .fwConfirm c => c.wf
  | .bootTarget c => c.wf
  | .trickleConfig c => c.wf
  | .trickleQuery c => c.wf
  | .healthQuery c => c.wf
  | .pcieLinkUp _ => true
  | .perstRelease _ => true
  | .adaptResume _ lane => decide (lane < 34)
  | .pcieIdleEntry _ => true
  | .pcieIdleExit _ => true
  | .mirrorTimeout => true
  | .twinLinkAmBlock _ lane _ sync lo hi before => decide (lane < 4) && WlBlock.wf ⟨sync, lo, hi, before⟩
  | .dsTraceCtrlWrite _ => true

end Sys2Proof
end

