-- ==== Sys2Proof/Tests/Slice0.lean ====
section
/-!
SUPPORT. Tests: ill-formed commands are refused, and for each statement of Obligations.lean with hypotheses, states and operands
that meet all hypotheses of each of its clauses.
-/
namespace Sys2Proof.Tests
open Sys2Proof.Machine

-- One theorem at a time: side by side their evaluation takes too many threads.
set_option Elab.async false

/-- A command slot with the payload words given. -/
def sl (ws : List Nat) : Vx :=
  ⟨ws.length, 0, false, false, false, 7, (List.range 14).map fun k => w32 (ws.getD k 0)⟩

/-- A module that has power and runs in M4, all units on, whose firmware is ready. -/
def up : State := State.setUnits { State.reset with
  pw := { State.reset.pw with on := true, st := 4, step := none, ce := 0xFFFF, other := 0x3F3F }
  host := { State.reset.host with fwReady := true } }

theorem plain {c : Vx} {n : Nat} {s : State}
    (h : (s.consumes && s.host.waiting.isEmpty && (!c.fence || s.quiet) && !s.pw.recovery && decide (n ≤ c.len)
      && decide (c.len ≤ 14) && c.rsv == 0 && !c.stage && !c.remote) = true) : Plain c n s := by
  simp only [Bool.and_eq_true, List.isEmpty_iff, Bool.or_eq_true, Bool.not_eq_true', decide_eq_true_eq, beq_iff_eq] at h
  obtain ⟨⟨⟨⟨⟨⟨⟨⟨a, b⟩, f⟩, d⟩, e⟩, g⟩, i⟩, j⟩, k⟩ := h
  exact ⟨a, b, fun x => f.resolve_left (by simp [x]), d, e, g, i, j, k⟩

theorem solo {c : Vx} {n : Nat} {s : State}
    (h : (s.consumes && s.host.waiting.isEmpty && (!c.fence || s.quiet) && !s.pw.recovery && decide (n ≤ c.len)
      && decide (c.len ≤ 14) && c.rsv == 0 && !c.stage && !c.remote) = true) (r : s.twin.role = 0) : Solo c n s :=
  ⟨plain h, r⟩

theorem clear {c : Vx} {l : List (Nat × Nat)} (h : rsvWord c l = none) : Clear c l := h

theorem opt {α : Type} {o : Option α} {P : α → Prop} [DecidablePred P] (h : o.all (fun x => decide (P x)) = true) :
    ∀ x, o = some x → P x := by
  rintro x rfl
  simpa using h

theorem got {α : Type} {o : Option α} (h : o.isSome = true) : o = some (o.get h) := (Option.some_get h).symm

theorem gotPair {α β : Type} {o : Option (α × β)} (h : o.isSome = true) : o = some ((o.get h).1, (o.get h).2) := got h

theorem gotTriple {α β γ : Type} {o : Option (α × β × γ)} (h : o.isSome = true) :
    o = some ((o.get h).1, (o.get h).2.1, (o.get h).2.2) := got h

/-- What a computation answers, else d. -/
def val {ε α : Type} (d : α) : Except ε α → α
  | .ok x => x
  | .error _ => d

def isOk {ε α : Type} : Except ε α → Bool
  | .ok _ => true
  | .error _ => false

theorem okay {ε α : Type} {e : Except ε α} (d : α) (h : isOk e = true) : e = .ok (val d e) := by
  cases e with
  | ok x => rfl
  | error y => simp [isOk] at h

theorem okPair {ε α β : Type} {e : Except ε (α × β)} (d : α × β) (h : isOk e = true) :
    e = .ok ((val d e).1, (val d e).2) := okay d h

/-- A commit set that waits for its time. -/
def aSet : CommitSet := ⟨2, 2, 0, 0, 5, false, 0, 0, []⟩

/-- An event at 2 microseconds. -/
def anEvt : Evt := evtOf (sl [0x400, 2000]).w false

/-- A surface of two buffers. -/
def aSurf : Surf := { format := 1, two := true, w := 64, h := 64 }

/-- A fill of one pixel of buffer 0. -/
def aCopy : Blit := ⟨0, 0, 0xFF000001, 0, 0x00010001, 0, 0, none, false⟩

/-- The module with surface 255. -/
def upSurf : State := up.onBlit fun b => { b with surfs := [(255, aSurf)] }


/-- A picture of 64 x 64 at 25 frames/s, coded intra. -/
def aCfg : ChCfg := ⟨0, 0, 0, false, 2, 0, 0, 0, 64, 64, 25, 1, 0⟩

/-- Input 0 aligned, with processor 0 and a locked tracker. -/
def fed : State := ((up.onIn 0 fun _ =>
    { kind := 1, lanes := 1, packing := 0x10, pixels := 64, lines := 64, total := 128, good := [2], bad := [0]
      aligned := true, verdict := some true }).onIp 0 fun _ => { used := true, slots := 8, outW := 64, outH := 64 }).onTrk 5 fun t =>
  { t with mode := 5, st := 2, e := 128, tpred := 312500 * nsU, last := some 0 }

/-- Channel 0 configured in full: it may start. -/
def made : State := (((fed.onCh 0 fun h => { h with
    cfg := some aCfg, lay := some ⟨1, 1, 1, 0, 1, 0⟩, rc := some ⟨0, 0, 1000, 0, 20, 0, 0, 0⟩
    bind := some ⟨0, false, 0⟩ }).setStreams 0).settle).onPv 0
  fun v => { v with set := true, tmpl := [some ⟨List.replicate 14 0⟩, none] }

/-- Channel 0 with a picture rate of denominator 0, which no command gives. -/
def slow : State := fed.onCh 0 fun h => { h with cfg := some { aCfg with fden := 0 }, lay := some ⟨1, 1, 1, 1, 1, 0⟩ }

/-- Channel 0 runs. -/
def going : State := up.onCh 0 fun h => { h with st := 2, cfg := some aCfg, lay := some ⟨1, 1, 1, 0, 1, 0⟩ }

/-- A program for rate control on DP3. -/
def aProg : Prog := ⟨63, 0, 0, 4, 0, [1, 1, 1, 1], [0, 0, 0, 0], [1, 1, 1, 1], [], [], false, false, [], []⟩

/-- A pump task of the host. -/
def aDesc : Desc := ⟨8, 3, 0, 0, false, false, 0, 0, none, 0, none⟩

/-- It waits in Dispatch. -/
def anEnt : Ent := ⟨0, 0, 1, aDesc, 12, some 1, 0, 0, 0, 0, false, false, none⟩

/-- A flow of the host. -/
def aFlow : Flow := ⟨3, false, 1, true, 0, 0, []⟩

/-- Port 2, which carries Skovlink, is enabled and up. -/
def linked : State := up.onPort 2 fun x => { x with enable := true, up := true }

/-- The manager of cluster 1. -/
def boss : State := { linked with pw := { up.pw with role := 2 }, cl := { up.cl with id := some 0x40, on := true } }

/-- An operation of cluster 1. -/
def anOp : OpRec := { opRecOf [0x0200FFFF, 0x00010040] with own := true }

/-- A safe-state entry of HOST:0x01. -/
def aSafe : SafeEntry := ⟨0x17, 0x01, 0, 0xFF, 0⟩

/-- Channel 0 runs on input 0, with two rows to a picture. -/
def rolling : State := fed.onCh 0 fun h =>
  { h with st := 2, cfg := some { aCfg with height := 128 }, lay := some ⟨1, 1, 1, 1, 1, 0⟩ }

/-- Its first row, captured and not yet issued. -/
def aRow : RowRec := { chan := 0, frame := 0, row := 0, slot := some 0, got := 64, wrote := 64, capT := some 0, needed := true }

/-- The channel with that row. -/
def rowed : State := rolling.onEnc fun e => { e with rows := [aRow], bands := [(0, [0])] }

/-- The same, composed by composer 0. -/
def composed : State := rowed.onCc 0 fun x => { x with on := true, mask := 1 }

/-- A coding task of that row. -/
def aTask : TaskRec :=
  { id := 7, chan := 0, frame := 0, crow := 0, stream := 0, col := 0, row := 0, skip := false, guarded := false, budget := 100
    floor := 0, qpInit := 0, qpMax := 0, qpMin := 0, guardT := 0, deadline := 0, retried := false, rsv := false, pathOf := none
    st := 0 }

/-- The row is ready and its task in the table. -/
def tasked : State := rolling.onEnc fun e => { e with rows := [{ aRow with readied := true }], tasks := [aTask] }

/-- Channel 0 codes pictures of 8 x 8 in one stream. -/
def tiny : State := (up.onCh 0 fun h => { h with st := 2, cfg := some { aCfg with width := 8, height := 8 }, lay := some ⟨1, 1, 1, 0, 1, 0⟩ }).onStrm 0
  fun t => { t with used := true, rect := ⟨0, 0, 8, 8⟩ }

/-- What an engine makes of the task: one intra CU, coded in a way of R236, no bits. -/
def aCoded (way : Nat) : Coded := ⟨0, [], [⟨0, way, [⟨0, 0, 8, 8, .intra 1, [], 0, []⟩]⟩], [], [List.replicate 64 1], [], []⟩

/-- The task is in service in coding engine 0. -/
def coding : State := ((tiny.onEnc fun e => { e with tasks := [{ aTask with st := 1 }] }).onDs fun d =>
    { d with pool := [{ anEnt with st := 1, desc := { aDesc with type := 1, cls := 0, payload := 7 } }] }).onUnit 0 fun u =>
  { u with holds := some 1 }

theorem arrives {p : WlPkt} {r : WlRx} {f : Found} {s : State}
    (h : (decide (p.input < 8) && (s.inp p.input).kind == 1 && (s.inp p.input).aligned && r.bad == 0 && r.whole
      && !s.inputTested p.input) = true)
    (g : received (s.inp p.input).lanes p = r) (k : ((s.cvu.ctx p.input).check r.cover r.crc).2 = f) :
    Arrives p r ((s.cvu.ctx p.input).check r.cover r.crc).1 f s := by
  simp only [Bool.and_eq_true, decide_eq_true_eq, beq_iff_eq, Bool.not_eq_true'] at h
  exact ⟨h.1.1.1.1.1, h.1.1.1.1.2, h.1.1.1.2, g, h.1.1.2, h.1.2, h.2, Prod.ext rfl k⟩

/-- A block of eight bytes as it stands on its lane behind a scrambler whose 58 bits are 0. -/
def block (sync : Nat) (bytes : List Byte) : WlBlock :=
  let d := leNat bytes
  let e := (d ^^^ d * 2 ^ 39 ^^^ d * 2 ^ 58) % 2 ^ 64
  ⟨sync, e % 2 ^ 32, e / 2 ^ 32, 0⟩

/-- Bytes in data blocks, the last one filled up with zeros. -/
def dataBlocks : Nat → List Byte → List WlBlock
  | 0, _ => []
  | n + 1, l => block 1 ((l ++ List.replicate 8 0).take 8) :: dataBlocks n (l.drop 8)

/-- A packet of input 0, on one lane, with the header words and the payload given and that CRC but for the bits x. -/
def packetOf (x : Nat) (h0 h1 h2 h3 : Word) (payload : List Byte) : WlPkt :=
  let body := [h0, h1, h2, h3].flatMap (fun w => leBytes 4 w.toNat) ++ payload
  let crc := leBytes 4 ((({} : Ctx).cover body ^^^ algXor 0) ^^^ x)
  ⟨0, 0, 0, [], 0,
    [block 2 [0x78, 0, 0, 0, 0, 0, 0, 0] :: dataBlocks ((body.length + 11) / 8) (body ++ crc) ++ [block 2 [0x87, 0, 0, 0, 0, 0, 0, 0]]]⟩

/-- One of a type without payload, whose CRC is right. -/
def sealed (type h1 h2 h3 : Word) : WlPkt := packetOf 0 type h1 h2 h3 []

/-- A run of the host's program. -/
def aRun : Run := ⟨63, false, 0, 0, 0, 0, none, 0, 100, 0, List.replicate 16 0, [], [], 0, 0, 0, none, false, false⟩

/-- Dipper d at the instruction w. -/
def dipAt (d : Nat) (w : Word) : State := up.onDp d fun x => { x with run := some aRun, imem := [(0, w)] }

theorem atWord {d op : Nat} {r : Run} {w : Word} {s : State}
    (h : d < s.dip.dips.length ∧ s.fetch d = some (r, w) ∧ opOf w = op) : At d op r w s := ⟨h.1, h.2.1, h.2.2⟩

/-- The program image of one YIELD. -/
def imaged : State := up.onDip fun x =>
  { x with load := some ⟨3, 63, 7, 0⟩, staging := [(0, 0x44500001), (1, 1), (2, 0), (3, 0), (4, 0), (5, 0), (6, 0xE4000000)] }

/-- A record of the confidence decoder. -/
def aRec : DecRec := ⟨5, 7, 0, 0, 0, 0, 0, 0, 9, 0, 0, 0, 0, 0, 0, false, 0⟩

/-- The slice of the task is with decode engine 0. -/
def checking : State := (((tiny.onEnc fun e => { e with tasks := [{ aTask with st := 3 }] }).onDec fun d => { d with recs := [aRec] }).onDs fun d =>
    { d with pool := [{ anEnt with st := 1, unit := 16, desc := { aDesc with type := 3, cls := 1, payload := 5 } }] }).onUnit 16 fun u =>
  { u with holds := some 1 }

/-- A packet of a feed. -/
def aFeedPkt : FeedPkt := ⟨0, 0, true, 0, false, []⟩

/-- A frame in a queue. -/
def aFrame : QFrame := { len := 64, release := 0, content := .reply 1 [0] }

/-- Port 3 can send. -/
def ported : State := up.onPort 3 fun x => { x with enable := true, up := true }

theorem twinned {f : TwinFrame} {ty : Nat} {s : State}
    (h : s.twin.aligned = true ∧ fld f.h0 7 0 = ty ∧ (s.twin.role ≠ 0 ∨ s.twin.pairing.isSome = true)
      ∧ (s.twinCheck f).2 ≠ .crcFail ∧ (s.twinCheck f).2 ≠ .again ∧ (ty ≠ 1 → f.h1.toNat = s.twin.rxSeq)) : Twinned f ty s :=
  ⟨h.1, h.2.1, h.2.2.1, h.2.2.2.1, h.2.2.2.2.1, h.2.2.2.2.2⟩

/-- A frame of a type on the twin link, whose CRC is right. -/
def twin (type : Nat) (payload : List Byte) : TwinFrame :=
  let f : TwinFrame := ⟨0, w32 (payload.length * 65536 + type), 0, 0, 0, payload, 0⟩
  { f with crc := w32 ((up.cvu.ctx 9).cover (twinBytes f) ^^^ algXor 0) }

/-- A module of a pair. -/
def paired (role : Nat) : State := up.onTwin fun t => { t with role := role, aligned := true }

theorem skovved {f : SkovFrame} {s : State}
    (h : ((hdrOf f).version = 1 ∧ ¬((hdrOf f).src = s.myId ∧ (hdrOf f).twinB = s.selB) ∧ s.hears f.port = true
      ∧ s.hearsOn f.port (hdrOf f) = true ∧ s.addressed (hdrOf f) = true) ∧ (s.skovCheck f).2 = .pass ∧ (hdrOf f).seq = 1
      ∧ (s.isManager = false ∨ (hdrOf f).relayed = true ∨ some (hdrOf f).src = s.managerId ∨ (hdrOf f).src = s.myId ∨
        ((s.entry (hdrOf f).src).enabled = true ∧ ((s.member (hdrOf f).src (hdrOf f).twinB).st ≠ 3
          ∨ ((hdrOf f).type ≠ 2 ∧ (hdrOf f).type ≠ 3 ∧ (hdrOf f).type ≠ 6 ∧ (hdrOf f).type ≠ 8))))) : Skovved f s :=
  ⟨h.1.1, h.1.2.1, h.1.2.2.1, h.1.2.2.2.1, h.1.2.2.2.2, h.2.1, .inl h.2.2.1, h.2.2.2⟩

/-- A member of cluster 1. -/
def worker : State :=
  { linked with pw := { up.pw with role := 1 }, cl := { up.cl with id := some 0x41, on := true, joined := true } }

/-- The manager with member 0x41 in state st. -/
def bossOf (st : Nat) : State := boss.onCl fun x =>
  { x with roster := [{ id := 0x41, role := 1, enabled := true }], members := [{ id := 0x41, selB := false, st := st, role := 1 }] }

/-- A Skovlink frame of a type, from src to dst, bits of its second word beside the subtype given. -/
def skov (type src dst low : Nat) (tag : Word) (payload : List Word) : SkovFrame :=
  let f : SkovFrame := ⟨0, boss.skovPort, w32 (0x10000000 + type * 16777216 + src * 4096 + dst), w32 (payload.length * 262144 + low), 1, tag, payload,
    0⟩
  { f with crc := w32 ((boss.skovCtx f).cover (wireBytes ([f.h0, f.h1, f.h2, f.h3] ++ f.payload)) ^^^ algXor 0) }

def isNext : Host.Outcome State Fault Refusal → Bool
  | .next _ => true
  | _ => false

/-- The next state, else s. -/
def after (s : State) : Host.Outcome State Fault Refusal → State
  | .next t => t
  | _ => s

theorem stepped (s : State) {o : Host.Outcome State Fault Refusal} (h : isNext o = true) : o = .next (after s o) := by
  cases o <;> first | rfl | simp [isNext] at h


/-- A frame whose partner may pair, or whose digest is not the pinned one. -/
def partner (ok : Bool) : Partner :=
  ⟨⟨true, true, List.replicate 12 (if ok then 0 else 1), true⟩, true, true, false, false, true, false, true, 5⟩

/-- An image of FW 5 and SVN 2 in slot B. -/
def theImage : Slot := ⟨1, 0, 0, [(0, 0x47584657), (1, 5), (2, 2)]⟩

/-- It stands in flash, FW_END runs, and the anti-rollback counter is n. -/
def flashed (n : Nat) : State := up.onPw fun p =>
  { p with fwOp := some (0x1003, 3), fwOpen := some 1, counter := n, slots := [⟨2, 1, 4, []⟩, theImage] }

/-- A command forwarded to the module 0x41, which has not answered. -/
def aRemote : RemoteCmd := ⟨3, 0x41, ⟨0x0400, sl [1]⟩, 0⟩

/-- A message of another clock than the module's own. -/
def aMsg (twoStep : Bool) : PtpMsg :=
  ⟨0, 0, 127, 5, ownClock + 1, twoStep, 0, 0, 128, 6, 0x20, 0x4000, 128, ownClock, 1, 37, true⟩

/-- What it says of the leader. -/
def theirs : DataSet := ⟨128, 6, 0x20, 0x4000, 128, ownClock, 1, ownClock + 1⟩

/-- Port 0 hears PTP in state st, and the leader is that clock. -/
def hearing (st : Nat) (only : Bool) : State := (up.onPort 0 fun x => { x with enable := true, up := true }).onPtp fun p =>
  { p with cfg := { p.cfg with on := true, followerOnly := only }, st := st, leader := some theirs, delays := [0]
           sync := some (5, 0, 0), delayReq := some (5, 0), last := some (0, 0) }

theorem hears (st : Nat) (only two : Bool) : ((hearing st only).pass 0).ptpHears (aMsg two) = true := by
  simp only [State.ptpHears, aMsg, Bool.and_eq_true, beq_iff_eq, bne_iff_ne]
  exact ⟨⟨⟨⟨rfl, rfl⟩, rfl⟩, rfl⟩, by omega⟩

theorem led {st : Nat} (h : 1 ≤ st ∧ st ≤ 4) (only two : Bool) :
    ((hearing st only).pass 0).fromLeader (aMsg two) = true := by
  have e := hears st only two
  have k : ((hearing st only).pass 0).net.ptp.st = st := rfl
  have l : ((hearing st only).pass 0).net.ptp.leader = some theirs := rfl
  have g : (aMsg two).sender = ownClock + 1 := rfl
  have d : decide (1 ≤ st ∧ st ≤ 4) = true := decide_eq_true (by omega)
  simp only [State.fromLeader, e, k, l, g, theirs, d, Bool.true_or, Bool.true_and, beq_self_eq_true]

/-- The BAR2 window stands over the operation cistern. -/
def framed : State := up.onHost fun h => { h with aperture := BitVec.ofNat 14 (opBase / 1048576) }

theorem opReach : framed.reachable (framed.host.aperture.toNat * 1048576 + opBase % 1048576) 4 false = true := by
  have h : opBase < 17179869185 - 16384 := Nat.mod_lt _ (by decide)
  have k : framed.host.aperture = BitVec.ofNat 14 (opBase / 1048576) := rfl
  have e : (BitVec.ofNat 14 (opBase / 1048576)).toNat = opBase / 1048576 := by
    rw [BitVec.toNat_ofNat]; exact Nat.mod_eq_of_lt (by omega)
  have g : framed.hostCisterns = [(opBase, 16384, false), (snapBase, 262144, false)] := rfl
  rw [k, e, State.reachable, g]
  simp only [List.any_cons, Bool.and_eq_true, Bool.or_eq_true, decide_eq_true_eq]
  exact ⟨by omega, .inl ⟨by omega, by simp⟩⟩

/-! ### Ill-formed commands -/

/-- LEN, the reserved bits, the number of payload words, and an opcode beyond its field. -/
theorem test_wf_slots : (Instr.nop (sl [])).wf = true ∧ (Instr.healthQuery ⟨255, 31, true, true, true, 0, List.replicate 14 0⟩).wf = true
    ∧ (Instr.nop { sl [] with len := 256 }).wf = false ∧ (Instr.clOp { sl [] with rsv := 32 }).wf = false
    ∧ (Instr.chStart { sl [] with pay := [] }).wf = false ∧ (⟨65536, sl []⟩ : Cmd).wf = false := by decide

/-- An input past the eighth, blocks beyond their 2, 64 and 58 bits; the lines of an SDI input; packets of a feed. -/
theorem test_wf_packets :
    (Instr.wlLine ⟨7, 0, 0, [], 0, [[⟨3, 0, 0, 0⟩]]⟩).wf = true ∧ (Instr.wlLine ⟨8, 0, 0, [], 0, [[]]⟩).wf = false
    ∧ (∀ b ∈ ([⟨4, 0, 0, 0⟩, ⟨0, 2 ^ 32, 0, 0⟩, ⟨0, 0, 2 ^ 32, 0⟩, ⟨0, 0, 0, 2 ^ 58⟩] : List WlBlock), (Instr.wlLine ⟨0, 0, 0, [], 0, [[b]]⟩).wf = false
      ∧ (Instr.wlLine ⟨0, 0, 0, [b], 0, [[]]⟩).wf = false ∧ (Instr.wlAmBlock 0 0 0 0 b.sync b.lo b.hi b.before).wf = false)
    ∧ (Instr.wlLine ⟨0, 0, 0, [], 1, [[]]⟩).wf = false ∧ (Instr.wlLine ⟨0, 0, 0, [], 0, List.replicate 17 []⟩).wf = false
    ∧ (∀ d ∈ ([⟨8, 0, 0, 0, 0, 1, true, true, 1, 1, 25, 1, 0, 10, [], []⟩, ⟨0, 0, 0, 0, 3, 1, true, true, 1, 1, 25, 1, 0, 10, [], []⟩,
        ⟨0, 0, 0, 0, 0, 1, true, true, 1, 1, 25, 1, 0, 10, [4096], []⟩, ⟨0, 0, 0, 0, 0, 1, true, true, 1, 1, 25, 1, 0, 10, [], [0]⟩]
        : List SdiLine), (Instr.sdiLine d).wf = false)
    ∧ (Instr.sdiLine ⟨7, 0, 0, 0, 0, 1, true, true, 1, 1, 25, 1, 0, 10, [4095], []⟩).wf = true
    ∧ (Instr.feedPacket 0 8 ⟨0, 0, true, 0, false, []⟩).wf = false
    ∧ (Instr.feedPacket 0 7 ⟨65536, 0, true, 0, false, []⟩).wf = false
    ∧ (Instr.feedPacket 0 7 ⟨0, 4294967296, true, 0, false, []⟩).wf = false
    ∧ (Instr.feedPacket 0 7 ⟨0, 0, true, 4, false, []⟩).wf = false := by decide

theorem test_wf_payload_lengths :
    (Instr.twinSliceRx ⟨0, 0, 0, 0, 0, List.replicate 8193 0, 0⟩).wf = false
    ∧ (Instr.twinSliceRx ⟨0, 0, 0, 0, 0, List.replicate 8192 0, 0⟩).wf = true
    ∧ (Instr.skovCmdRx ⟨0, 4, 0, 0, 0, 0, [], 0⟩).wf = false
    ∧ (Instr.skovCmdRx ⟨0, 3, 0, 0, 0, 0, List.replicate 371 0, 0⟩).wf = false
    ∧ (Instr.skovCmdRx ⟨0, 3, 0, 0, 0, 0, List.replicate 370 0, 0⟩).wf = true
    ∧ (Instr.blitComplete 0 (List.replicate 4097 default)).wf = false := by
  simp only [Instr.wf, TwinFrame.wf, SkovFrame.wf, List.length_replicate]
  decide

/-- A result of a task whose samples, QPs or column context do not fit; the same of a decode engine and a sounder. -/
theorem test_wf_results :
    (Instr.taskComplete 0 41 (.moved [])).wf = true
    ∧ (∀ r ∈ ([⟨0, [], [], [], [[4096]], [], []⟩, ⟨0, [], [], [], [[], [], [], []], [], []⟩,
        ⟨0, [], [⟨0, 0, [⟨0, 0, 8, 8, .skip, [], 64, []⟩]⟩], [], [], [], []⟩] : List Coded),
          (Instr.taskComplete 0 0 (.coded r)).wf = false ∧ (Instr.reserveComplete 0 0 (.coded r)).wf = false)
    ∧ (∀ b ∈ ([⟨4294967296, 0, 0, 0, 0⟩, ⟨0, 4294967296, 0, 0, 0⟩, ⟨0, 0, 65536, 0, 0⟩, ⟨0, 0, 0, 65536, 0⟩, ⟨0, 0, 0, 0, 4⟩]
        : List SoundBlock), (Instr.sounderLine 0 0 [(0, b)]).wf = false)
    ∧ (Instr.decodeComplete 0 0 ⟨[⟨0, [[4096]]⟩], false, false, [], []⟩).wf = false := by decide

theorem test_wf_frames :
    (Instr.portRxFrame 0 3 ⟨64, 0, 0, false, 65535, false, [1, 2, 3, 4], none, 5⟩).wf = true
    ∧ (∀ f ∈ ([⟨64, 0, 0, false, 65536, false, [], none, 0⟩, ⟨64, 0, 0, false, 0, false, [1, 2, 3, 4, 5], none, 0⟩,
        ⟨64, 0, 0, false, 0, false, [], none, 6⟩] : List RxFrame), (Instr.portRxFrame 0 0 f).wf = false)
    ∧ (∀ m ∈ ([⟨0, 4, 0, 0, 0, false, 0, 0, 0, 0, 0, 0, 0, 0, 0, 0, false⟩,
        ⟨0, 0, 256, 0, 0, false, 0, 0, 0, 0, 0, 0, 0, 0, 0, 0, false⟩,
        ⟨0, 0, 0, 65536, 0, false, 0, 0, 0, 0, 0, 0, 0, 0, 0, 0, false⟩] : List PtpMsg), (Instr.ptpSyncRx m).wf = false)
    ∧ (Instr.twinRowStateRx ⟨0, 0, 0, 0, 0, [], 0⟩ ⟨[[0]], [], [], []⟩).wf = false
    ∧ (∀ m ∈ ([.cmd ⟨65536, sl []⟩, .set 3 0 0 0 [], .set 0 16 0 0 [], .set 0 0 0 0 [⟨65536, sl []⟩], .answer 4294967296 true,
        .running 16 0 0 0 false] : List MirrorMsg), (Instr.twinMirrorRx ⟨0, 0, 0, 0, 0, [], 0⟩ m).wf = false)
    ∧ (Instr.skovSpdmRspRx ⟨0, 0, 0, 0, 0, 0, [], 0⟩ (some ⟨true, true, [], true⟩)).wf = false
    ∧ (Instr.twinSpdmRx ⟨0, 0, 0, 0, 0, [], 0⟩ ⟨⟨true, true, [], true⟩, true, true, true, true, true, true, true, 0⟩).wf
        = false := by decide

theorem test_wf_operands : ∀ i ∈ ([.registerWrite 0x1000000 4 0, .registerWrite 0 3 0, .registerWrite 0 1 256,
      .bar2Access true 0xFFFFFFF 2 0, .bar2Access true 0 0 0, .bar2Access true 0 1 256, .phEdge 0 4 0, .phEdge 0 0 3,
      .wlAmBlock 0 8 0 0 0 0 0 0, .wlAmBlock 0 0 16 0 0 0 0 0, .composeLine 0 ⟨4, 1⟩, .composeLine 0 ⟨0, 0⟩, .taskPull 0 4,
      .taskComplete 0 42 (.moved []), .engineError 0 42, .reserveComplete 0 16 (.moved []), .doeRequest 0 0 true default 256 (0, 0) (0, 0),
      .sounderLine 0 4 [], .dipperRunStart 8, .dipperWatchdog 8, .dipperMemError 0 8 0, .dipperMemError 0 0 3, .dipAdd 8,
      .dipYield 8, .decodeComplete 0 42 default, .audioFrame 0 4 0 [], .audioFrame 0 0 2 [],
      .audioFrame 0 0 0 (List.replicate 17 0), .audioLeaderFrame 4 [], .audioLeaderFrame 0 (List.replicate 17 0),
      .packageRow 0 8, .audioPacketBuild 0 8, .txSelect 4, .txDiscard 4, .mgmtRx 0 4 0 [] 0, .mgmtRx 0 0 6 [] 0,
      .portLinkDown 0 4, .portLinkUp 0 4, .laneLol 0 34, .laneLock 0 34, .prbsSecond 34 0, .pcieEqRequest 0 34 0 0 0,
      .pcieEqRequest 0 0 16 0 0, .pcieEqRequest 0 0 0 64 0, .pcieEqRequest 0 0 0 0 32, .memoryEdcError 0 8 true true,
      .memoryEccError 0 8 true, .powerGood 0 4 false, .healthSample 0 0 0 [] true, .adaptResume 0 34,
      .twinLinkAmBlock 0 4 0 0 0 0 0] : List Instr), i.wf = false := by decide

/-! ### The manual's worked examples -/

/-- Program 16 of chapter 11's worked example, and the word that its MAX 2 at address 6 becomes with another MAX. -/
def program16 (loopr : Word) : List Word :=
  [0x44500001, 0x00400016, 0x00190000, 0, 0, 0]
  ++ [0xA8400000, 0x94840010, 0x8488001F, 0xA0C00000, 0xA1000004, 0x81400000, loopr, 0xAD400004, 0xA9800006, 0xA9C00005,
      0x0999C000]
  ++ [0x4D98C000, 0x82000000, 0xCCC14004, 0xAE00000A, 0xAD80000C, 0xAD00000D, 0x82200001, 0x81540001, 0x82400001, 0xAE40000E,
      0xE4000000]
  ++ [6, 0x00203F10] ++ List.replicate 14 0

/-- Its image of 44 words passes the checks on DP1, and its bound is 358 cycles. -/
theorem test_program16_loads : (program16 0xCC80200C).length = 44 ∧
    (match checkImage up 1 16 (program16 0xCC80200C) with
     | .ok p => decide (p.budgets = [400, 0, 0, 0] ∧ p.bounds = [358, 0, 0, 0] ∧ p.data = 1)
     | .error _ => false) = true := by decide +kernel

/-- With MAX 32 it is bounded at 5,518 cycles, over its budget. -/
theorem test_program16_bound : boundOf ((program16 0xCC82000C).drop 6 |>.take 22) 0 = 5518 ∧
    (match checkImage up 1 16 (program16 0xCC82000C) with
     | .ok _ => false
     | .error e => decide (e = ⟨.badParam, 2, 9⟩)) = true := by decide +kernel

/-- The event script of the same chapter: its longest path is 37 cycles (its words by R314 and the instruction tables). -/
theorem test_script_bound : boundOf
    ([0xAA400014, 0x9D80001E, 0x89982120, 0x04898000, 0x9DC0EE6B, 0x89DC0A00, 0xC09E0004, 0x0889C000, 0x80CC0001, 0xC0C08001, 0x82640001, 0x8A002100]
    ++ [0xAE000008, 0xAC800009, 0xACC0000A, 0xAE40000B, 0xAC00000C, 0xAC00000D, 0xAC00000E, 0xAC00000F, 0x82800001, 0xAE800010, 0xE4000000]) 0 = 37 := by decide +kernel

/-- The exchange of chapter 2's example: three slots from counter 0xFFFE, then DB_CMD_TAIL takes 0x0001. -/
theorem test_exchange :
    [0xFFFE, 0xFFFF, 0].map (slotAddr cmdBase 64 64) = [0x10F80, 0x10FC0, 0x10000]
    ∧ cmdOf ([0x04000011, 0x103, 0x212A] ++ List.replicate 13 0)
        = ⟨0x11, ⟨4, 0, false, false, false, 0x103, [0x212A] ++ List.replicate 13 0⟩⟩
    ∧ (cmdOf [0x00020403, 0x102]).vx.stage = true
    ∧ (let s := up.onHost fun h => { h with cmdHead := 0xFFFE, cmdTail := 0xFFFE }
       ((after s (exec (.dbCmdTailWrite 1) s)).host.cmdTail, (after s (exec (.dbCmdTailWrite 1) s)).flt.reports.length)
         = (1, 0)) := by decide +kernel

/-- Chapter 1's example of R37: requesters 2, 5 and 9 of 28. -/
theorem test_rotating : rotPick 0 28 [2, 9] = some 2 ∧ rotPick 3 28 [2, 5] = some 5 ∧ rotPick 6 28 [2, 9] = some 9
    ∧ rotPick 10 28 [2] = some 2 := by decide

/-- Chapter 14's example of R427: a cycle of 1 ms, base time 5 s, copied at 10.000 350 s. -/
theorem test_gate_start :
    (match hGateSet (sl [0, 0, 5, 0, 1000000]) { up with now := 10 * secU + 350 * usU } with
     | .ok ws _ => ws
     | _ => []) = [1000000, 10, 0] := by decide +kernel

/-- Chapter 13's example: the RTP timestamp of a row captured at 1,700,000,000 s. -/
theorem test_timestamp : ticksOf (1700000000 * secU) 90000 % 4294967296 = 0x16A69000 := by decide +kernel

/-! ### What meets the hypotheses of each statement

One theorem for each statement: for each of its clauses states and operands that meet all its hypotheses. -/

theorem witness_SystemCommandsComplete :
    (∃ c : Vx, ∃ s : State, Plain c 0 s)
    ∧ (∃ c : Vx, ∃ s : State, ∃ target ce other, Solo c 3 s ∧ Clear c [(2, msk 2 0), (3, msk 15 0), (4, msk 15 8 + msk 5 0)] ∧
      fld (c.w 2) 2 0 = target ∧ fld (c.w 3) 15 0 = ce ∧ fld (c.w 4) 15 0 = other ∧ 1 ≤ target ∧ target ≤ 4 ∧ s.pw.step = none ∧
      s.flt.safe = none ∧ (target < 4 → s.anyRuns = false) ∧ (target = 4 → s.masksOk ce other = true) ∧ (target = 4 ∨ target ≠
      s.pw.st))
    ∧ (∃ c : Vx, ∃ s : State, ∃ target ce other, Solo c 3 s ∧ Clear c [(2, msk 2 0), (3, msk 15 0), (4, msk 15 8 + msk 5 0)] ∧
      fld (c.w 2) 2 0 = target ∧ fld (c.w 3) 15 0 = ce ∧ fld (c.w 4) 15 0 = other ∧ s.pw.st = target ∧ 1 ≤ target ∧ target ≤ 4 ∧
      s.pw.step = none ∧ s.flt.safe = none ∧ target < 4 ∧ s.anyRuns = false)
    ∧ (∃ c : Vx, ∃ s : State, Plain c 0 s ∧ s.host.openId = none)
    ∧ (∃ c : Vx, ∃ s : State, ∃ kind ch, Solo c 4 s ∧ Clear c [(2, msk 15 12 + msk 9 0), (5, msk 15 0)] ∧ fld (c.w 2) 9 8 = kind
      ∧ fld (c.w 2) 15 12 = ch ∧ s.host.openId = some (fld (c.w 2) 7 0) ∧ kind < 3 ∧ (kind < 2 → s.runs ch = true) ∧ (kind = 2 →
      (c.w 3).toNat < 1000000000 ∧ s.now + 100 * usU ≤ Vx.time c 3 ∧ Vx.time c 3 ≤ s.now + 60 * secU) ∧ s.host.armed.length < 16
      ∧ s.withArmed.firstBadKind kind ch s.host.openCmds 0 = none ∧ s.withArmed.setFails s.host.openCmds = none ∧ kind = 2)
    ∧ (∃ c : Vx, ∃ s : State, ∃ kind ch, Solo c 4 s ∧ Clear c [(2, msk 15 12 + msk 9 0), (5, msk 15 0)] ∧ fld (c.w 2) 9 8 = kind
      ∧ fld (c.w 2) 15 12 = ch ∧ s.host.openId = some (fld (c.w 2) 7 0) ∧ kind < 3 ∧ (kind < 2 → s.runs ch = true) ∧ (kind = 2 →
      (c.w 3).toNat < 1000000000 ∧ s.now + 100 * usU ≤ Vx.time c 3 ∧ Vx.time c 3 ≤ s.now + 60 * secU) ∧ s.host.armed.length < 16
      ∧ s.withArmed.firstBadKind kind ch s.host.openCmds 0 = none ∧ s.withArmed.setFails s.host.openCmds = none ∧ kind = 0)
    ∧ (∃ c : Vx, ∃ s : State, ∃ kind ch, Solo c 4 s ∧ Clear c [(2, msk 15 12 + msk 9 0), (5, msk 15 0)] ∧ fld (c.w 2) 9 8 = kind
      ∧ fld (c.w 2) 15 12 = ch ∧ s.host.openId = some (fld (c.w 2) 7 0) ∧ kind < 3 ∧ (kind < 2 → s.runs ch = true) ∧ (kind = 2 →
      (c.w 3).toNat < 1000000000 ∧ s.now + 100 * usU ≤ Vx.time c 3 ∧ Vx.time c 3 ≤ s.now + 60 * secU) ∧ s.host.armed.length < 16
      ∧ s.withArmed.firstBadKind kind ch s.host.openCmds 0 = none ∧ s.withArmed.setFails s.host.openCmds = none ∧ kind = 1)
    ∧ (∃ c : Vx, ∃ s : State, ∃ id, Plain c 1 s ∧ Clear c [(2, msk 7 0)] ∧ fld (c.w 2) 7 0 = id ∧ s.host.openId = some id)
    ∧ (∃ c : Vx, ∃ s : State, ∃ id x, Plain c 1 s ∧ Clear c [(2, msk 7 0)] ∧ fld (c.w 2) 7 0 = id ∧ s.host.armed.find? (fun y =>
      y.id == id) = some x ∧ s.host.openId ≠ some id ∧ x.loaded = false)
    ∧ (∃ c : Vx, ∃ s : State, ∃ id x, Plain c 1 s ∧ Clear c [(2, msk 7 0)] ∧ fld (c.w 2) 7 0 = id ∧ s.host.armed.find? (fun y =>
      y.id == id) = some x ∧ s.host.openId ≠ some id)
    ∧ (∃ c : Vx, ∃ s : State, ∃ id e, Plain c 1 s ∧ Clear c [(2, msk 7 0)] ∧ fld (c.w 2) 7 0 = id ∧ alookup s.host.ended id =
      some e ∧ s.host.openId ≠ some id ∧ s.host.armed.find? (fun y => y.id == id) = none)
    ∧ (∃ c : Vx, ∃ s : State, Plain c 1 s ∧ Clear c [(2, msk 16 0)]) :=
  ⟨⟨sl [], up, plain rfl⟩,
   ⟨sl [4, 0x8000, 0x2000], { up with pw := { up.pw with st := 2 } }, _, _, _, solo rfl rfl, clear rfl, rfl, rfl, rfl,
     by decide +kernel⟩,
   ⟨sl [3, 0, 0], { up with pw := { up.pw with st := 3 } }, _, _, _, solo rfl rfl, clear rfl, rfl, rfl, rfl, rfl,
     by decide +kernel⟩,
   ⟨sl [], up, plain rfl, by decide +kernel⟩,
   ⟨sl [0x201, 0, 60, 0], up.onHost fun h => { h with openId := some 1 }, _, _, solo rfl rfl, clear rfl, rfl, rfl,
     by decide +kernel⟩,
   ⟨sl [0xF001, 0, 0, 0], (up.onCh 15 fun h => { h with st := 2 }).onHost fun h => { h with openId := some 1 }, _, _, solo rfl
     rfl, clear rfl, rfl, rfl, by decide +kernel⟩,
   ⟨sl [0xF101, 0, 0, 0], (up.onCh 15 fun h => { h with st := 2 }).onHost fun h => { h with openId := some 1 }, _, _, solo rfl
     rfl, clear rfl, rfl, rfl, by decide +kernel⟩,
   ⟨sl [1], up.onHost fun h => { h with openId := some 1 }, _, plain rfl, clear rfl, rfl, got (by decide +kernel)⟩,
   ⟨sl [2], up.onHost fun h => { h with armed := [aSet] }, _, _, plain rfl, clear rfl, rfl, got (by decide +kernel), by decide +kernel⟩,
   ⟨sl [2], up.onHost fun h => { h with armed := [aSet] }, _, _, plain rfl, clear rfl, rfl, got (by decide +kernel), by decide +kernel⟩,
   ⟨sl [3], up.onHost fun h => { h with ended := [(3, ⟨4, 7⟩)] }, _, _, plain rfl, clear rfl, rfl, got (by decide +kernel),
     by decide +kernel⟩,
   ⟨sl [0x1FFFF], up, plain rfl, clear rfl⟩⟩

theorem witness_TimeCommandsComplete :
    (∃ c : Vx, ∃ s : State, Plain c 0 s)
    ∧ (∃ c : Vx, ∃ s : State, ∃ m, Plain c 1 s ∧ Clear c [(2, msk 1 0)] ∧ fld (c.w 2) 1 0 = m ∧ m = 0 ∧ m < 3 ∧ (m = 2 →
      s.net.ptp.cfg.on = true) ∧ s.time.pending = none ∧ s.time.holdover = false)
    ∧ (∃ c : Vx, ∃ s : State, ∃ m, Plain c 1 s ∧ Clear c [(2, msk 1 0)] ∧ fld (c.w 2) 1 0 = m ∧ m < 3 ∧ (m = 2 →
      s.net.ptp.cfg.on = true) ∧ s.time.pending = none ∧ s.time.holdover = false ∧ m ≠ 0 ∧ m = 1)
    ∧ (∃ c : Vx, ∃ s : State, ∃ m, Plain c 1 s ∧ Clear c [(2, msk 1 0)] ∧ fld (c.w 2) 1 0 = m ∧ m < 3 ∧ (m = 2 →
      s.net.ptp.cfg.on = true) ∧ s.time.pending = none ∧ s.time.holdover = false ∧ m ≠ 0 ∧ m = 2)
    ∧ (∃ c : Vx, ∃ s : State, ∃ d : Int, Plain c 2 s ∧ sgn64 ((c.w 2).toNat + (c.w 3).toNat * 4294967296) = d ∧ s.time.mode ≠ 2
      ∧ 0 ≤ (s.now : Int) + d * nsU ∧ (s.now : Int) + d * nsU < timeLimit)
    ∧ (∃ c : Vx, ∃ s : State, ∃ v : Int, Plain c 1 s ∧ sgn32 (c.w 2).toNat = v ∧ -1000000 ≤ v ∧ v ≤ 1000000 ∧ s.time.mode = 0)
    ∧ (∃ c : Vx, ∃ s : State, ∃ tl mode gain edges loss slew, Plain c 4 s ∧ Clear c [(2, msk 15 12 + msk 10 0), (4, msk 15 0),
      (5, msk 13 0)] ∧ fld (c.w 2) 3 0 = tl ∧ fld (c.w 2) 7 4 = mode ∧ fld (c.w 2) 15 12 = gain ∧ fld (c.w 4) 15 0 = edges ∧ fld
      (c.w 5) 13 8 = loss ∧ fld (c.w 5) 7 0 = slew ∧ 1 ≤ tl ∧ tl ≤ 12 ∧ (tl ≤ 4 → mode ≤ 4) ∧ (5 ≤ tl → mode = 0 ∨ mode = 5) ∧
      (gain ≤ 8 ∨ gain = 15) ∧ (1 ≤ mode → mode ≤ 4 → 48 ≤ (c.w 3).toNat) ∧ (mode = 2 ∨ mode = 3 → edges ≠ 0) ∧ (loss = 0 ∨ 5 ≤
      loss ∧ loss ≤ 32) ∧ slew ≤ 250 ∧ mode = 4)
    ∧ (∃ c : Vx, ∃ s : State, ∃ tl mode gain edges loss slew, Plain c 4 s ∧ Clear c [(2, msk 15 12 + msk 10 0), (4, msk 15 0),
      (5, msk 13 0)] ∧ fld (c.w 2) 3 0 = tl ∧ fld (c.w 2) 7 4 = mode ∧ fld (c.w 2) 15 12 = gain ∧ fld (c.w 4) 15 0 = edges ∧ fld
      (c.w 5) 13 8 = loss ∧ fld (c.w 5) 7 0 = slew ∧ 1 ≤ tl ∧ tl ≤ 12 ∧ (tl ≤ 4 → mode ≤ 4) ∧ (5 ≤ tl → mode = 0 ∨ mode = 5) ∧
      (gain ≤ 8 ∨ gain = 15) ∧ (1 ≤ mode → mode ≤ 4 → 48 ≤ (c.w 3).toNat) ∧ (mode = 2 ∨ mode = 3 → edges ≠ 0) ∧ (loss = 0 ∨ 5 ≤
      loss ∧ loss ≤ 32) ∧ slew ≤ 250 ∧ mode = 5)
    ∧ (∃ c : Vx, ∃ s : State, ∃ tl mode gain edges loss slew, Plain c 4 s ∧ Clear c [(2, msk 15 12 + msk 10 0), (4, msk 15 0),
      (5, msk 13 0)] ∧ fld (c.w 2) 3 0 = tl ∧ fld (c.w 2) 7 4 = mode ∧ fld (c.w 2) 15 12 = gain ∧ fld (c.w 4) 15 0 = edges ∧ fld
      (c.w 5) 13 8 = loss ∧ fld (c.w 5) 7 0 = slew ∧ 1 ≤ tl ∧ tl ≤ 12 ∧ (tl ≤ 4 → mode ≤ 4) ∧ (5 ≤ tl → mode = 0 ∨ mode = 5) ∧
      (gain ≤ 8 ∨ gain = 15) ∧ (1 ≤ mode → mode ≤ 4 → 48 ≤ (c.w 3).toNat) ∧ (mode = 2 ∨ mode = 3 → edges ≠ 0) ∧ (loss = 0 ∨ 5 ≤
      loss ∧ loss ≤ 32) ∧ slew ≤ 250 ∧ mode = 2)
    ∧ (∃ c : Vx, ∃ s : State, ∃ tl, Plain c 1 s ∧ Clear c [(2, msk 3 0)] ∧ fld (c.w 2) 3 0 = tl ∧ tl ≤ 12)
    ∧ (∃ c : Vx, ∃ s : State, ∃ slot t, Plain c 8 s ∧ addEvt s c.w (s.scriptUsable (fld (c.w 8) 5 0)) false = .ok (slot, t))
    ∧ (∃ c : Vx, ∃ s : State, ∃ slot, Plain c 8 s ∧ fld (c.w 2) 3 0 = 0 ∧ (c.w 2).toNat = 0x400 ∧ (c.w 3).toNat < 1000000000 ∧
      c.w 6 = 0 ∧ c.w 7 = 0 ∧ c.w 8 = 0 ∧ s.now + 2 * usU ≤ (evtOf c.w false).tgt ∧ tSec (evtOf c.w false).tgt ≤ tSec s.now +
      2147483648 ∧ lowestFree (s.time.evts.map (·.1)) 1024 = some slot)
    ∧ (∃ c : Vx, ∃ s : State, ∃ slot, Plain c 1 s ∧ Clear c [(2, msk 9 0)] ∧ fld (c.w 2) 9 0 = slot ∧ (alookup s.time.evts
      slot).isSome = true)
    ∧ (∃ c : Vx, ∃ s : State, ∃ slot, Plain c 1 s ∧ Clear c [(2, msk 9 0)] ∧ fld (c.w 2) 9 0 = slot ∧ alookup s.time.evts slot =
      none)
    ∧ (∃ c : Vx, ∃ s : State, ∃ slot e, Plain c 1 s ∧ Clear c [(2, msk 9 0)] ∧ fld (c.w 2) 9 0 = slot ∧ alookup s.time.evts slot
      = some e)
    ∧ (∃ c : Vx, ∃ s : State, ∃ pin, ∃ x : EvPin, ∃ u : State, Plain c 2 s ∧ Clear c [(2, msk 3 0)] ∧ fld (c.w 2) 1 0 = pin ∧ x
      =
      { activeLow := bit (c.w 2) 2, safeRun := bit (c.w 2) 3, width := (c.w 3).toNat, ends := if s.flt.safe.isSome && !bit (c.w 2) 3 then none else (tab s.time.pins pin).ends }
      ∧ u = s.onTime (fun t => { t with pins := upd t.pins pin fun _ => x }) ∧ 8 ≤ (c.w 3).toNat ∧ (c.w 3).toNat ≤ 1000000000)
      :=
  ⟨⟨sl [], up, plain rfl⟩,
   ⟨sl [0], up, _, plain rfl, clear rfl, rfl, rfl, by decide +kernel⟩,
   ⟨sl [1], up, _, plain rfl, clear rfl, rfl, by decide +kernel⟩,
   ⟨sl [2], up.onPtp fun p => { p with cfg := { p.cfg with on := true } }, _, plain rfl, clear rfl, rfl, by decide +kernel⟩,
   ⟨sl [0xFFFFFFFF, 0xFFFFFFFF], { up with now := usU }, _, plain rfl, rfl, by decide +kernel⟩,
   ⟨sl [0xFFF0BDC0], up, _, plain rfl, rfl, by decide +kernel⟩,
   ⟨sl [0x8044, 48, 0, 0x20FA], up, _, _, _, _, _, _, plain rfl, clear rfl, rfl, rfl, rfl, rfl, rfl, rfl, by decide +kernel⟩,
   ⟨sl [0xF05C, 0, 0, 0x500], up, _, _, _, _, _, _, plain rfl, clear rfl, rfl, rfl, rfl, rfl, rfl, rfl, by decide +kernel⟩,
   ⟨sl [0x0021, 48, 1, 0], up, _, _, _, _, _, _, plain rfl, clear rfl, rfl, rfl, rfl, rfl, rfl, rfl, by decide +kernel⟩,
   ⟨sl [12], up, _, plain rfl, clear rfl, rfl, by decide +kernel⟩,
   ⟨sl [0x400, 2000, 0, 0, 0, 0, 0, 0], up, _, _, plain rfl, okPair (0, up) (by decide +kernel)⟩,
   ⟨sl [0x400, 2000, 0, 0, 0, 0, 0, 0], up, 0, plain rfl, by decide +kernel⟩,
   ⟨sl [1023], up.onTime fun t => { t with evts := [(1023, anEvt)] }, _, plain rfl, clear rfl, rfl, by decide +kernel⟩,
   ⟨sl [1023], up, _, plain rfl, clear rfl, rfl, by decide +kernel⟩,
   ⟨sl [1023], up.onTime fun t => { t with evts := [(1023, anEvt)] }, _, _, plain rfl, clear rfl, rfl, got (by decide +kernel)⟩,
   ⟨sl [3, 8], up, _, _, _, plain rfl, clear rfl, rfl, rfl, rfl, by decide +kernel⟩⟩

theorem witness_CaptureCommandsComplete :
    (∃ c : Vx, ∃ s : State, ∃ i, Solo c 3 s ∧ Clear c [(2, msk 25 16 + msk 10 8 + msk 5 0)] ∧ fld (c.w 2) 3 0 = i ∧ i < 8 ∧
      s.inputRuns i = false ∧ fld (c.w 2) 5 4 = 0)
    ∧ (∃ c : Vx, ∃ s : State, ∃ i n rate first pixels lines pack u, Solo c 3 s ∧ Clear c [(2, msk 25 16 + msk 10 8 + msk 5 0)] ∧
      fld (c.w 2) 3 0 = i ∧ n = 2 ^ fld (c.w 2) 10 8 ∧ fld (c.w 2) 23 20 = rate ∧ fld (c.w 2) 19 16 = first ∧ fld (c.w 3) 15 0 =
      pixels ∧ fld (c.w 3) 31 16 = lines ∧ fld (c.w 4) 23 16 = pack ∧ u = s.onIn i (fun _ =>
      { kind := 1, rate := rate, sdiMode := 0, first := first, lanes := n, linkId := fld (c.w 4) 31 24, packing := pack, pixels := pixels, lines := lines, total := fld (c.w 4) 15 0, good := List.replicate n 0, bad := List.replicate n 0, marks := List.replicate n none })
      ∧ i < 8 ∧ s.inputRuns i = false ∧ fld (c.w 2) 5 4 = 1 ∧ n ≤ 16 ∧ rate ≤ 2 ∧ fld (c.w 2) 25 24 = 0 ∧ first % n = 0 ∧ first
      + n ≤ 16 ∧ (∀ j < 8, j ≠ i → (s.inp j).kind ≠ 0 → first + n ≤ (s.inp j).first ∨ (s.inp j).first + (s.inp j).lanes ≤ first)
      ∧ 1 ≤ pixels ∧ pixels ≤ 16384 ∧ 1 ≤ lines ∧ lines ≤ 16384 ∧ (packing? pack).isSome = true ∧ s.host.lenient = false ∧
      u.settle.host.lenient = false ∧ u.settle.admission false (s.chansOf i) = none)
    ∧ (∃ c : Vx, ∃ s : State, ∃ i, Solo c 1 s ∧ Clear c [(2, msk 2 0)] ∧ fld (c.w 2) 2 0 = i)
    ∧ (∃ c : Vx, ∃ s : State, ∃ k inp ch : Nat, ∃ p : IpSt, ∃ d u, Solo c 6 s ∧ Clear c [(2, msk 31 18 + msk 15 8 + msk 5 0),
      (6, msk 5 0), (7, 0)] ∧ fld (c.w 2) 2 0 = k ∧ fld (c.w 2) 5 3 = inp ∧ fld (c.w 2) 31 28 = ch ∧ p =
      { s.ip k with used := true, input := inp, chan := ch, desqueeze := fld (c.w 2) 27 25, depth := fld (c.w 2) 24 23, chroma := fld (c.w 2) 22 21, rotate := fld (c.w 2) 20 19, mirror := bit (c.w 2) 18, cropX := fld (c.w 3) 15 0, cropY := fld (c.w 3) 31 16, cropW := fld (c.w 4) 15 0, cropH := fld (c.w 4) 31 16, outW := fld (c.w 5) 15 0, outH := fld (c.w 5) 31 16, margin := fld (c.w 6) 5 0 }
      ∧ u = s.onIp k (fun _ => { p with slots := d, least := fld (c.w 2) 15 8 == 0, nextSlot := (s.ip k).nextSlot % max 1 d }) ∧
      3 ≤ s.pw.st ∧ ipNeedStage c s = false ∧ p.desqueeze ≤ 5 ∧ p.depth ≠ 3 ∧ p.rotate ≠ 2 ∧ p.margin ≤ 32 ∧ p.cropX % 2 = 0 ∧
      p.cropY % 2 = 0 ∧ p.cropW % 2 = 0 ∧ p.cropH % 2 = 0 ∧ (p.cropW = 0 ∨ 64 ≤ p.cropW) ∧ (p.cropH = 0 ∨ 64 ≤ p.cropH) ∧ 8 ≤
      p.outW ∧ p.outW % 8 = 0 ∧ 8 ≤ p.outH ∧ p.outH % 8 = 0 ∧ ((s.inp inp).kind ≠ 0 → ipGeometryBad p (s.inp inp) = false ∧
      ipChromaBad p (s.inp inp) = false) ∧ (s.trk (5 + inp)).mode = 5 ∧ ((s.ip k).used = true → (s.ip k).chan = ch) ∧ (∀ j,
      s.ipOf ch = some j → j = k) ∧ ((s.ipsOf inp).filter (fun j => j != k)).length < 2 ∧ (fld (c.w 2) 15 8 = 0 → d = (s.onIp k
      fun _ => p).minDepth ch) ∧ (fld (c.w 2) 15 8 ≠ 0 → d = fld (c.w 2) 15 8 ∧ (s.onIp k fun _ => p).minDepth ch ≤ d) ∧ d ≤ 64
      ∧ u.settle.host.lenient = false ∧ u.settle.admission false [ch] = none)
    ∧ (∃ c : Vx, ∃ s : State, ∃ k, Solo c 8 s ∧ Clear c [(2, msk 2 0), (7, msk 15 0), (9, msk 15 0)] ∧ fld (c.w 2) 2 0 = k ∧
      cscNeedStage c s = false) :=
  ⟨⟨sl [7, 0, 0], up, _, solo rfl rfl, clear rfl, rfl, by decide +kernel⟩,
   ⟨sl [0x10, 0x00010001, 0x100000], up, _, _, _, _, _, _, _, _, solo rfl rfl, clear rfl, rfl, rfl, rfl, rfl, rfl, rfl, rfl,
     rfl, by decide +kernel⟩,
   ⟨sl [7], up, _, solo rfl rfl, clear rfl, rfl⟩,
   ⟨sl [0xF000403F, 0, 0, 0x00080008, 32, 0], up.onTrk 12 fun t => { t with mode := 5 }, _, _, _, _, 64, _, solo rfl rfl, clear
     rfl, rfl, rfl, rfl, rfl, rfl, by decide +kernel⟩,
   ⟨sl [7, 0, 0, 0, 0, 0, 0, 0], up, _, solo rfl rfl, clear rfl, rfl, by decide +kernel⟩⟩

theorem witness_CompositionCommandsComplete :
    (∃ c : Vx, ∃ s : State, ∃ ch mask : Nat, ∃ u v : State, Solo c 1 s ∧ Clear c [(2, msk 16 16 + msk 11 8 + msk 3 0)] ∧ fld
      (c.w 2) 3 0 = ch ∧ fld (c.w 2) 11 8 = mask ∧ u = s.onCc ch (fun x =>
      { x with on := bit (c.w 2) 16, mask := mask, since := if bit (c.w 2) 16 && !x.on then s.now else x.since }) ∧ v =
      u.reserveLines ch ∧ (bit (c.w 2) 16 = true → mask ≠ 0) ∧ s.runs ch = false ∧ v.buffersOk = true ∧ v.settle.host.lenient =
      false ∧ v.settle.admission false [ch] = none)
    ∧ (∃ c : Vx, ∃ s : State, ∃ ch i : Nat, ∃ l : Layer, ∃ u : State, Solo c 8 s ∧ Clear c [(2, msk 31 8 + msk 6 0), (3, msk 9
      0), (4, msk 31 16), (9, msk 29 0)] ∧ fld (c.w 2) 3 0 = ch ∧ fld (c.w 2) 6 4 = i ∧ l =
      { tab (s.cc ch).layers i with on := bit (c.w 2) 8, hold := fld (c.w 2) 31 24, expect := fld (c.w 2) 23 20, vPoint := bit (c.w 2) 19, bt2020 := bit (c.w 2) 18, premul := bit (c.w 2) 17, blend := fld (c.w 2) 16 15, format := fld (c.w 2) 14 11, source := 2, galpha := fld (c.w 3) 9 0, srcId := fld (c.w 4) 31 16, src := ⟨fld (c.w 5) 15 0, fld (c.w 5) 31 16, fld (c.w 6) 15 0, fld (c.w 6) 31 16⟩, dstX := half c 7 false, dstY := half c 7 true, dstW := fld (c.w 8) 15 0, dstH := fld (c.w 8) 31 16, fill := fld (c.w 9) 29 0, point := false, latched := none, notReady := 0, transparent := false }
      ∧ u = ((s.onLayer ch i fun _ => { l with lb := s.lineBuffers ch l (s.stagedSize l).1 (s.stagedSize l).2 }).causeOff 0x03
      0x03 i ch).causeOff 0x03 0x02 i ch ∧ 1 ≤ i ∧ fld (c.w 2) 10 9 = 2 ∧ fld (c.w 2) 16 15 ≠ 3 ∧ 1 ≤ fld (c.w 8) 15 0 ∧ fld
      (c.w 8) 15 0 ≤ 16384 ∧ 1 ≤ fld (c.w 8) 31 16 ∧ fld (c.w 8) 31 16 ≤ 16384 ∧ s.runs ch = false ∧ (tab (s.cc ch).layers
      i).source ≠ 2 ∧ u.buffersOk = true ∧ u.settle.host.lenient = false ∧ u.settle.admission false [ch] = none)
    ∧ (∃ c : Vx, ∃ s : State, ∃ ch, Solo c 1 s ∧ Clear c [(2, msk 3 0)] ∧ fld (c.w 2) 3 0 = ch)
    ∧ (∃ c : Vx, ∃ s : State, ∃ ch i, Solo c 4 s ∧ Clear c [(2, msk 14 8 + msk 6 0)] ∧ fld (c.w 2) 3 0 = ch ∧ fld (c.w 2) 6 4 =
      i ∧ fld (c.w 2) 9 8 < 3 ∧ s.runs ch = false ∧ (fld (c.w 2) 9 8 ≠ 0 → fld (c.w 3) 15 0 % 2 = 0 ∧ fld (c.w 3) 31 16 % 2 = 0
      ∧ fld (c.w 4) 15 0 % 2 = 0 ∧ fld (c.w 4) 31 16 % 2 = 0 ∧ 2 ≤ fld (c.w 4) 15 0 ∧ 2 ≤ fld (c.w 4) 31 16 ∧ ∀ g, (s.ch ch).cfg
      = some g → fld (c.w 3) 15 0 + fld (c.w 4) 15 0 ≤ g.width ∧ fld (c.w 3) 31 16 + fld (c.w 4) 31 16 ≤ g.height))
    ∧ (∃ c : Vx, ∃ s : State, ∃ ch i, Solo c 4 s ∧ Clear c [(2, msk 14 8 + msk 6 0)] ∧ fld (c.w 2) 3 0 = ch ∧ fld (c.w 2) 6 4 =
      i ∧ fld (c.w 2) 9 8 < 3 ∧ s.runs ch = false ∧ (fld (c.w 2) 9 8 ≠ 0 → fld (c.w 3) 15 0 % 2 = 0 ∧ fld (c.w 3) 31 16 % 2 = 0
      ∧ fld (c.w 4) 15 0 % 2 = 0 ∧ fld (c.w 4) 31 16 % 2 = 0 ∧ 2 ≤ fld (c.w 4) 15 0 ∧ 2 ≤ fld (c.w 4) 31 16 ∧ ∀ g, (s.ch ch).cfg
      = some g → fld (c.w 3) 15 0 + fld (c.w 4) 15 0 ≤ g.width ∧ fld (c.w 3) 31 16 + fld (c.w 4) 31 16 ≤ g.height) ∧ fld (c.w 2)
      9 8 = 2)
    ∧ (∃ c : Vx, ∃ s : State, ∃ r, Solo c 1 s ∧ Clear c [(2, msk 6 0)] ∧ r = tab (s.cc (fld (c.w 2) 3 0)).regions (fld (c.w 2) 6
      4))
    ∧ (∃ c : Vx, ∃ s : State, ∃ i w h, Solo c 2 s ∧ Clear c [(2, msk 12 0)] ∧ fld (c.w 2) 7 0 = i ∧ fld (c.w 3) 15 0 = w ∧ fld
      (c.w 3) 31 16 = h ∧ w = 0 ∧ h = 0 ∧ s.surfRead i = false ∧ (∀ d ∈ s.blit.all, d.dstSurf ≠ i ∧ (d.isFill = false →
      d.srcSurf ≠ i)))
    ∧ (∃ c : Vx, ∃ s : State, ∃ i w h f u, Solo c 2 s ∧ Clear c [(2, msk 12 0)] ∧ fld (c.w 2) 7 0 = i ∧ fld (c.w 3) 15 0 = w ∧
      fld (c.w 3) 31 16 = h ∧ f = { format := fld (c.w 2) 11 8, two := bit (c.w 2) 12, w := w, h := h } ∧ u = (s.onBlit fun b =>
      { b with surfs := aset b.surfs i f }).letGo i ∧ s.surfRead i = false ∧ (∀ d ∈ s.blit.all, d.dstSurf ≠ i ∧ (d.isFill =
      false → d.srcSurf ≠ i)) ∧ 3 ≤ s.pw.st ∧ 1 ≤ w ∧ w ≤ 8192 ∧ 1 ≤ h ∧ h ≤ 8192 ∧ 1 ≤ fld (c.w 2) 11 8 ∧ fld (c.w 2) 11 8 ≤ 6
      ∧ u.memoryOk = true)
    ∧ (∃ c : Vx, ∃ s : State, ∃ i f, Solo c 1 s ∧ Clear c [(2, msk 8 0)] ∧ fld (c.w 2) 7 0 = i ∧ s.surf? i = some f ∧ (fld (c.w
      2) 8 8 = 1 → f.two = true) ∧ s.bufPending i (fld (c.w 2) 8 8) = false)
    ∧ (∃ c : Vx, ∃ s : State, ∃ i, Solo c 1 s ∧ Clear c [(2, msk 7 0)] ∧ fld (c.w 2) 7 0 = i ∧ s.surf? i = none)
    ∧ (∃ c : Vx, ∃ s : State, ∃ i f, Solo c 1 s ∧ Clear c [(2, msk 7 0)] ∧ fld (c.w 2) 7 0 = i ∧ s.surf? i = some f)
    ∧ (∃ c : Vx, ∃ s : State, ∃ b : Blit, ∃ df sf, Solo c 8 s ∧ Clear c [(2, msk 31 7 + msk 1 0)] ∧ b =
      { key := s.blit.next, tag := c.tag, w0 := c.w 2, w1 := c.w 3, w2 := c.w 4, w3 := c.w 5, fill := (c.w 6).toNat + (c.w 7).toNat * 4294967296, dl := s.deadlineOf (c.w 8) (c.w 9), missed := false }
      ∧ s.surf? b.dstSurf = some df ∧ (if b.isFill then s.surf? b.dstSurf else s.surf? b.srcSurf) = some sf ∧ (c.w 8).toNat <
      1000000000 ∧ fld (c.w 2) 1 0 ≤ 1 ∧ (b.isFill = true → fld (c.w 2) 9 7 = 0) ∧ 1 ≤ b.dstW ∧ b.dstW ≤ 8192 ∧ 1 ≤ b.dstH ∧
      b.dstH ≤ 8192 ∧ b.fits df sf = true ∧ (∀ t, b.dl = some t → t ≤ s.now + 60 * secU) ∧ (df.published = true → df.p ≠
      b.dstBuf) ∧ s.blit.queue.length < 64)
    ∧ (∃ c : Vx, ∃ s : State, Solo c 0 s)
    ∧ (∃ c : Vx, ∃ s : State, ∃ u, Solo c 1 s ∧ Clear c [(2, msk 20 0)] ∧ u = s.reRate (fun b =>
      { b with active := fld (c.w 2) 7 0, dead := fld (c.w 2) 15 8, deadCh := none }) ∧ 1 ≤ fld (c.w 2) 7 0 ∧ fld (c.w 2) 7 0 ≤
      96 ∧ 1 ≤ fld (c.w 2) 15 8 ∧ fld (c.w 2) 15 8 ≤ fld (c.w 2) 7 0 ∧ bit (c.w 2) 20 = false ∧ u.decodeOk = true ∧ u.gddrOk =
      true) :=
  ⟨⟨sl [0x10F0F], up, _, _, _, _, solo rfl rfl, clear rfl, rfl, rfl, rfl, rfl, by decide +kernel⟩,
   ⟨sl [0x57F, 0, 0, 0, 0, 0, 0x40004000, 0], up, _, _, _, _, solo rfl rfl, clear rfl, rfl, rfl, rfl, rfl, by decide +kernel⟩,
   ⟨sl [15], up, _, solo rfl rfl, clear rfl, rfl⟩,
   ⟨sl [0x7F, 0, 0, 0], up, _, _, solo rfl rfl, clear rfl, rfl, rfl, by decide +kernel⟩,
   ⟨sl [0x27F, 0, 0x00020002, 0], up, _, _, solo rfl rfl, clear rfl, rfl, rfl, by decide +kernel⟩,
   ⟨sl [0x7F], up, _, solo rfl rfl, clear rfl, rfl⟩,
   ⟨sl [0xFF, 0], upSurf, _, _, _, solo rfl rfl, clear rfl, rfl, rfl, rfl, rfl, rfl, by decide +kernel⟩,
   ⟨sl [0x16FF, 0x00010001], up, _, _, _, _, _, solo rfl rfl, clear rfl, rfl, rfl, rfl, rfl, rfl, by decide +kernel⟩,
   ⟨sl [0x1FF], upSurf, _, _, solo rfl rfl, clear rfl, rfl, got (by decide +kernel), by decide +kernel⟩,
   ⟨sl [255], up, _, solo rfl rfl, clear rfl, rfl, by decide +kernel⟩,
   ⟨sl [255], upSurf, _, _, solo rfl rfl, clear rfl, rfl, got (by decide +kernel)⟩,
   ⟨sl [0xFF000001, 0, 0x00010001, 0, 0, 0, 0, 0], upSurf, _, _, _, solo rfl rfl, clear rfl, rfl, got (by decide +kernel), got
     (by decide +kernel), by decide +kernel⟩,
   ⟨sl [], up, solo rfl rfl⟩,
   ⟨sl [0x0101], up, _, solo rfl rfl, clear rfl, rfl, by decide +kernel⟩⟩

theorem witness_ChannelCommandsComplete :
    (∃ c : Vx, ∃ s : State, ∃ ch : Nat, ∃ g : ChCfg, ∃ u : State, fld (c.w 2) 3 0 = ch ∧ Solo c 5 s ∧ Clear c [(2, msk 19 6 +
      msk 4 0), (6, msk 10 0)] ∧ g =
      { codec := fld (c.w 2) 4 4, chroma := fld (c.w 2) 7 6, depth := fld (c.w 2) 9 8, small := bit (c.w 2) 10, struct := fld (c.w 2) 12 11, refs := fld (c.w 2) 15 13, tier := fld (c.w 2) 16 16, prio := fld (c.w 2) 19 17, width := fld (c.w 3) 15 0, height := fld (c.w 3) 31 16, fnum := (c.w 4).toNat, fden := (c.w 5).toNat, gdr := fld (c.w 6) 10 0 }
      ∧ u = ((s.onCh ch fun h => { h with cfg := some g }).setStreams ch).reserveLines ch ∧ s.runs ch = false ∧ g.prio ≤ 5 ∧
      g.struct ≠ 3 ∧ g.depth ≠ 3 ∧ (g.struct ≠ 2 → 1 ≤ g.refs ∧ g.refs ≤ 4) ∧ (g.codec = 1 → g.depth ≠ 2) ∧ 8 ≤ g.width ∧
      g.width ≤ 16384 ∧ g.width % 8 = 0 ∧ 8 ≤ g.height ∧ g.height ≤ 16384 ∧ g.height % 8 = 0 ∧ g.fnum ≠ 0 ∧ g.fden ≠ 0 ∧ g.gdr ≠
      1 ∧ g.gdr ≤ 1024 ∧ (∀ l, (s.ch ch).lay = some l → l.mx ≤ g.ctuCols ∧ l.my ≤ g.ctuRows ∧ ∃ k < 20, (l.cols = 0 ∨ l.cols = k
      + 1) ∧ levelOk g l (k + 1) = true) ∧ (∀ r ∈ (s.ch ch).regions, r.x + r.w ≤ g.width ∧ r.y + r.h ≤ g.height) ∧ u.buffersOk =
      true ∧ u.settle.host.lenient = false ∧ u.settle.admission false [ch] = none)
    ∧ (∃ c : Vx, ∃ s : State, ∃ ch : Nat, ∃ mx my m want g first, ∃ l : Layout, ∃ u : State, fld (c.w 2) 3 0 = ch ∧ Solo c 1 s ∧
      Clear c [(2, msk 15 0)] ∧ mx = fld (c.w 2) 5 4 + 1 ∧ my = fld (c.w 2) 7 6 + 1 ∧ m = fld (c.w 2) 10 8 + 1 ∧ want = fld (c.w
      2) 15 11 ∧ (s.ch ch).cfg = some g ∧ s.freeRun ch (mx * my * m) = some first ∧ l = ⟨mx, my, m, want, want, first⟩ ∧ u =
      (s.onCh ch fun h => { h with lay := some l }).setStreams ch ∧ 3 ≤ s.pw.st ∧ s.runs ch = false ∧ want ≤ 20 ∧ mx * my * m ≤
      32 ∧ (s.enc.streams.filter fun t => t.used && t.chan != ch).length + mx * my * m ≤ 32 ∧ mx ≤ g.ctuCols ∧ my ≤ g.ctuRows ∧
      (want = 0 → ∃ k < 20, levelOk g l (k + 1) = true) ∧ (want ≠ 0 → levelOk g l want = true) ∧ u.settle.host.lenient = false ∧
      u.settle.admission true [ch] = none)
    ∧ (∃ c : Vx, ∃ s : State, ∃ ch : Nat, ∃ u : State, fld (c.w 2) 3 0 = ch ∧ Solo c 2 s ∧ Clear c [(2, msk 5 0)] ∧ u = s.onCh
      ch (fun h => { h with delay := (c.w 3).toNat, reserve := fld (c.w 2) 5 4 }) ∧ s.runs ch = false ∧ fld (c.w 2) 5 4 ≠ 3 ∧
      u.settle.host.lenient = false ∧ u.settle.admission false [ch] = none)
    ∧ (∃ c : Vx, ∃ s : State, ∃ ch : Nat, ∃ u, fld (c.w 2) 3 0 = ch ∧ Solo c 1 s ∧ Clear c [(2, msk 3 0)] ∧ s.settle.startAt ch
      (s.now + 100 * usU) = .ok u ∧ 3 ≤ s.pw.st)
    ∧ (∃ c : Vx, ∃ s : State, ∃ ch : Nat, fld (c.w 2) 3 0 = ch ∧ Solo c 1 s ∧ Clear c [(2, msk 3 0)] ∧ (s.ch ch).st ≠ 0 ∧ (s.ch
      ch).last = none)
    ∧ (∃ c : Vx, ∃ s : State, ∃ ch : Nat, fld (c.w 2) 3 0 = ch ∧ Solo c 1 s ∧ Clear c [(2, msk 3 0)])
    ∧ (∃ c : Vx, ∃ s : State, ∃ ch : Nat, ∃ g f, fld (c.w 2) 3 0 = ch ∧ Solo c 1 s ∧ Clear c [(2, msk 4 0)] ∧ (s.ch ch).cfg =
      some g ∧ f = s.frameAfter ch (s.now + 30 * usU) 4096 (s.ch ch).nextFrame ∧ s.runs ch = true ∧ (bit (c.w 2) 4 = true →
      g.codec ≠ 1) ∧ g.struct ≠ 2)
    ∧ (∃ c : Vx, ∃ s : State, ∃ ch : Nat, ∃ g f, fld (c.w 2) 3 0 = ch ∧ Solo c 1 s ∧ Clear c [(2, msk 4 0)] ∧ (s.ch ch).cfg =
      some g ∧ f = s.frameAfter ch (s.now + 30 * usU) 4096 (s.ch ch).nextFrame ∧ s.runs ch = true ∧ (bit (c.w 2) 4 = true →
      g.codec ≠ 1) ∧ g.struct = 2)
    ∧ (∃ c : Vx, ∃ s : State, ∃ ch : Nat, ∃ r : Rect, ∃ u : State, fld (c.w 2) 3 0 = ch ∧ Solo c 3 s ∧ Clear c [(2, msk 8 8 +
      msk 5 0)] ∧ r = ⟨fld (c.w 3) 15 0, fld (c.w 3) 31 16, fld (c.w 4) 15 0, fld (c.w 4) 31 16⟩ ∧ u = s.onCh ch (fun h =>
      { h with lossless := upd h.lossless (fld (c.w 2) 5 4) fun _ => if bit (c.w 2) 8 then some r else none }) ∧ s.runs ch =
      false ∧ (bit (c.w 2) 8 = true → r.x % 8 = 0 ∧ r.y % 8 = 0 ∧ r.w % 8 = 0 ∧ r.h % 8 = 0 ∧ r.w ≠ 0 ∧ r.h ≠ 0 ∧ ∀ g, (s.ch
      ch).cfg = some g → r.x + r.w ≤ g.width ∧ r.y + r.h ≤ g.height) ∧ u.settle.host.lenient = false ∧ u.settle.admission false
      [ch] = none)
    ∧ (∃ c : Vx, ∃ s : State, ∃ ch : Nat, fld (c.w 2) 3 0 = ch ∧ Solo c 8 s ∧ Clear c [(2, msk 13 8 + msk 3 0)] ∧ s.runs ch =
      false)
    ∧ (∃ c : Vx, ∃ s : State, ∃ ch : Nat, fld (c.w 2) 3 0 = ch ∧ Solo c 1 s ∧ Clear c [(2, msk 16 0)] ∧ s.enc.engines.length =
      16 ∧ bit (c.w 2) 16 = true)
    ∧ (∃ c : Vx, ∃ s : State, ∃ ch : Nat, fld (c.w 2) 3 0 = ch ∧ Solo c 1 s ∧ Clear c [(2, msk 16 0)] ∧ s.enc.engines.length =
      16 ∧ bit (c.w 2) 16 = false ∧ s.totalLoad.le ⟨((bitsOf s.serviceMask 16).filter fun i => !nbit (fld (c.w 2) 15 0)
      i).length * 1000000000, 1⟩ = true) :=
  ⟨⟨sl [0x100F, 0x00080008, 60, 1, 0], up, _, _, _, rfl, solo rfl rfl, clear rfl, rfl, rfl, by decide +kernel⟩,
   ⟨sl [0x0800], up.onCh 0 fun h => { h with cfg := some aCfg }, _, _, _, _, _, _, _, _, _, rfl, solo rfl rfl, clear rfl, rfl,
     rfl, rfl, rfl, got (by decide +kernel), got (by decide +kernel), rfl, rfl, by decide +kernel⟩,
   ⟨sl [0x2F, 0], up, _, _, rfl, solo rfl rfl, clear rfl, rfl, by decide +kernel⟩,
   ⟨sl [0], made, _, _, rfl, solo (by decide +kernel) (by decide +kernel), clear rfl, okay up (by decide +kernel), by decide +kernel⟩,
   ⟨sl [0], going, _, rfl, solo rfl rfl, clear rfl, by decide +kernel⟩,
   ⟨sl [15], up, _, rfl, solo rfl rfl, clear rfl⟩,
   ⟨sl [0], going.onCh 0 fun h => { h with cfg := some { aCfg with struct := 0, refs := 1 } }, _, _, _, rfl, solo rfl rfl, clear
     rfl, got (by decide +kernel), rfl, by decide +kernel⟩,
   ⟨sl [0], going, _, _, _, rfl, solo rfl rfl, clear rfl, got (by decide +kernel), rfl, by decide +kernel⟩,
   ⟨sl [0x13F, 0, 0x00080008], up, _, _, _, rfl, solo rfl rfl, clear rfl, rfl, rfl, by decide +kernel⟩,
   ⟨sl [0x3F0F, 0, 0, 0, 0, 0, 0, 0], up, _, rfl, solo rfl rfl, clear rfl, by decide +kernel⟩,
   ⟨sl [0x1FFFF], up, _, rfl, solo rfl rfl, clear rfl, by decide +kernel⟩,
   ⟨sl [0xFFFF], up, _, rfl, solo rfl rfl, clear rfl, by decide +kernel⟩⟩

theorem witness_RateCommandsComplete :
    (∃ c : Vx, ∃ s : State, ∃ ch, ∃ r : RcCfg, ∃ g tr m, ∃ h' : Ch, Solo c 5 s ∧ Clear c [(2, msk 25 16 + msk 5 0), (5, msk 23
      0), (6, msk 13 0)] ∧ fld (c.w 2) 3 0 = ch ∧ r =
      { mode := fld (c.w 2) 5 4, headroom := fld (c.w 2) 25 16, rate := (c.w 3).toNat, rateMax := (c.w 4).toNat, qpCq := fld (c.w 5) 23 16, qpMax := fld (c.w 5) 15 8, qpMin := fld (c.w 5) 7 0, window := fld (c.w 6) 13 0 }
      ∧ (s.ch ch).cfg = some g ∧ s.tRow ch = some tr ∧ m = (if r.qpMax = 0 then defaultQpMax g.codec else r.qpMax) ∧ h' =
      { s.ch ch with rc := some r } ∧ s.runs ch = false ∧ (s.ch ch).lay.isSome = true ∧ r.mode ≠ 3 ∧ r.headroom ≤ 250 ∧ (if
      g.codec = 0 then 40 else 50) ≤ m ∧ m ≤ defaultQpMax g.codec ∧ r.qpMin ≤ m ∧ r.qpCq ≤ m ∧ (r.window = 0 ∨ 100 ≤ r.window ∧
      r.window ≤ 10000) ∧ ((s.chStreams ch).map fun p => h'.rhK g r p.2 tr).foldl max 0 ≤ Config.levelMaxRate g.codec g.tier
      (profileIndex g) ∧ h'.maxSize g r ≤ Config.levelMaxCpb g.codec g.tier (profileIndex g) ∧ (∀ p ∈ s.chStreams ch,
      h'.floorOver g r p.2 = false))
    ∧ (∃ c : Vx, ∃ s : State, ∃ ch i g r l, Solo c 1 s ∧ Clear c [(2, msk 8 0)] ∧ fld (c.w 2) 3 0 = ch ∧ fld (c.w 2) 8 4 = i ∧
      (s.ch ch).cfg = some g ∧ (s.ch ch).rc = some r ∧ (s.ch ch).lay = some l ∧ i < l.count)
    ∧ (∃ c : Vx, ∃ s : State, ∃ ch, ∃ b : RcBind, ∃ u : State, Solo c 1 s ∧ Clear c [(2, msk 21 16 + msk 8 8 + msk 5 0)] ∧ fld
      (c.w 2) 3 0 = ch ∧ b = ⟨fld (c.w 2) 5 4, bit (c.w 2) 8, fld (c.w 2) 21 16⟩ ∧ u = s.onCh ch (fun h =>
      { h with bind := some b }) ∧ s.runs ch = false ∧ (b.user = true → ((s.dp b.dipper).progs.any fun p => p.num == b.program
      && p.kind == 0) = true ∧ (s.dp b.dipper).windowFits ch b.program = true) ∧ u.dipperFits (ch :: (s.servedBy
      b.dipper).filter fun k => k != ch) = true)
    ∧ (∃ c : Vx, ∃ s : State, ∃ ch, Solo c 2 s ∧ Clear c [(2, msk 27 16 + msk 5 0), (3, msk 7 0)] ∧ fld (c.w 2) 3 0 = ch ∧
      s.runs ch = false ∧ fld (c.w 2) 5 4 ≠ 3 ∧ (fld (c.w 2) 5 4 = 1 → ∀ t, s.tRow ch = some t → t.lt ⟨50 * usU, 1⟩ = false))
    ∧ (∃ c : Vx, ∃ s : State, ∃ i, ∃ n : Group, Solo c 2 s ∧ Clear c [(2, msk 8 0)] ∧ fld (c.w 2) 2 0 = i ∧ n =
      { (tab s.enc.groups i).seen with on := bit (c.w 2) 3, period := fld (c.w 2) 8 4, rate := (c.w 3).toNat } ∧ (tab
      s.enc.groups i).seen.affects s = false ∧ 1 ≤ fld (c.w 2) 8 4 ∧ fld (c.w 2) 8 4 ≤ 20 ∧ sumNat (n.members.map fun m =>
      m.2.2.1) ≤ n.rate)
    ∧ (∃ c : Vx, ∃ s : State, ∃ i st, ∃ old : Group, ∃ rest, Solo c 3 s ∧ Clear c [(2, msk 15 12 + msk 8 0)] ∧ fld (c.w 2) 2 0 =
      i ∧ fld (c.w 2) 7 3 = st ∧ old = (tab s.enc.groups i).seen ∧ rest = old.members.filter (fun m => m.1 != st) ∧ old.affects
      s = false ∧ s.streamRuns st = false ∧ bit (c.w 2) 8 = false ∧ rest.length ≠ old.members.length)
    ∧ (∃ c : Vx, ∃ s : State, ∃ i st, ∃ old : Group, ∃ rest r, ∃ n : Group, Solo c 3 s ∧ Clear c [(2, msk 15 12 + msk 8 0)] ∧
      fld (c.w 2) 2 0 = i ∧ fld (c.w 2) 7 3 = st ∧ old = (tab s.enc.groups i).seen ∧ rest = old.members.filter (fun m => m.1 !=
      st) ∧ (s.ch (s.strm st).chan).rc = some r ∧ n =
      { old with members := rest ++ [(st, fld (c.w 2) 15 12, (c.w 3).toNat, (c.w 4).toNat)] } ∧ old.affects s = false ∧
      s.streamRuns st = false ∧ bit (c.w 2) 8 = true ∧ 1 ≤ fld (c.w 2) 15 12 ∧ (s.strm st).used = true ∧ r.mode = 1 ∧ (c.w
      4).toNat ≤ r.rateMax ∧ (c.w 3).toNat ≤ (c.w 4).toNat ∧ (∀ k < 8, k ≠ i → ∀ m ∈ (tab s.enc.groups k).seen.members, m.1 ≠
      st) ∧ sumNat (n.members.map fun m => m.2.2.1) ≤ n.rate) :=
  ⟨⟨sl [0, 1, 0, 0x140000, 0], slow, _, _, _, _, _, _, solo (by decide +kernel) (by decide +kernel), clear rfl, rfl, rfl, got (by decide +kernel), got
    (by decide +kernel), rfl, rfl, by decide +kernel⟩,
   ⟨sl [0], made, _, _, _, _, _, solo (by decide +kernel) (by decide +kernel), clear rfl, rfl, rfl, got (by decide +kernel), got (by decide +kernel), got
     (by decide +kernel), by decide +kernel⟩,
   ⟨sl [0x3F013F], up.onDp 3 fun x => { x with progs := [aProg] }, _, _, _, solo rfl rfl, clear rfl, rfl, rfl, rfl,
     by decide +kernel⟩,
   ⟨sl [0x2F, 0], up, _, solo rfl rfl, clear rfl, rfl, by decide +kernel⟩,
   ⟨sl [0x14F, 0], up, _, _, solo rfl rfl, clear rfl, rfl, rfl, by decide +kernel⟩,
   ⟨sl [0xFF, 0, 0], up.onEnc fun e => { e with groups := upd e.groups 7 fun g => { g with members := [(31, 1, 0, 0)] } }, _, _,
     _, _, solo rfl rfl, clear rfl, rfl, rfl, rfl, rfl, by decide +kernel⟩,
   ⟨sl [0x1107, 5, 5], (made.onCh 0 fun h => { h with rc := some ⟨1, 0, 5, 5, 0, 0, 0, 0⟩ }).onEnc fun e =>
     { e with groups := upd e.groups 7 fun g => { g with rate := 5 } }, _, _, _, _, _, _, solo (by decide +kernel) (by decide +kernel), clear rfl,
     rfl, rfl, rfl, rfl, got (by decide +kernel), rfl, by decide +kernel⟩⟩

theorem witness_DispatchCommandsComplete :
    (∃ c : Vx, ∃ s : State, ∃ cls : Nat, ∃ caps : List Nat, ∃ u : State, Solo c 5 s ∧ Clear c [(2, msk 1 0), (3, msk 28 16 + msk
      12 0), (4, msk 28 16 + msk 12 0), (5, msk 28 16 + msk 12 0), (6, msk 28 16 + msk 12 0)] ∧ fld (c.w 2) 1 0 = cls ∧ caps =
      [fld (c.w 3) 12 0, fld (c.w 3) 28 16, fld (c.w 4) 12 0, fld (c.w 4) 28 16, fld (c.w 5) 12 0, fld (c.w 5) 28 16, fld (c.w
      6) 12 0, fld (c.w 6) 28 16] ∧ u = s.onDs (fun d =>
      { d with caps := (List.range 32).map fun i => if i / 8 = cls then caps.getD (i % 8) 0 else tab d.caps i }) ∧ s.anyRuns =
      false ∧ fld (c.w 6) 28 16 ≠ 0 ∧ u.ds.assigned ≤ 4096 ∧ (cls = 0 → u.codingWellsOk = true) ∧ (cls = 1 → u.decodeWellsOk =
      true))
    ∧ (∃ c : Vx, ∃ s : State, ∃ i win, Solo c 1 s ∧ Clear c [(2, msk 14 8 + msk 4 4 + msk 1 0)] ∧ fld (c.w 2) 14 8 = win ∧ (bit
      (c.w 2) 4 = true → 1 ≤ win ∧ win ≤ 64) ∧ lowestFree (s.ds.flows.map (·.1)) 1024 = some i)
    ∧ (∃ c : Vx, ∃ s : State, ∃ i f, Solo c 1 s ∧ Clear c [(2, msk 9 0)] ∧ fld (c.w 2) 9 0 = i ∧ alookup s.ds.flows i = some f ∧
      f.host = true ∧ s.ds.flowEnts i = [] ∧ s.ds.flowDelays i = [])
    ∧ (∃ c : Vx, ∃ s : State, ∃ i, Solo c 1 s ∧ Clear c [(2, msk 9 0)] ∧ fld (c.w 2) 9 0 = i ∧ alookup s.ds.flows i = none)
    ∧ (∃ c : Vx, ∃ s : State, ∃ i f, Solo c 1 s ∧ Clear c [(2, msk 9 0)] ∧ fld (c.w 2) 9 0 = i ∧ alookup s.ds.flows i = some f)
    ∧ (∃ c : Vx, ∃ s : State, ∃ l tick, Solo c 1 s ∧ Clear c [(2, msk 25 16 + msk 1 0)] ∧ fld (c.w 2) 1 0 = l ∧ fld (c.w 2) 25
      16 = tick ∧ l ≠ 0 ∧ 1 ≤ tick ∧ tick ≤ 1000 ∧ delayNeedStage c s = false)
    ∧ (∃ c : Vx, ∃ s : State, ∃ d : Desc, ∃ p : PumpRec, Solo c 14 s ∧ p = pumpOf c 8 ∧ d = descOf c 2 s.now p ∧ Clear c [(2,
      0xFFFFFFFF - msk 5 0), (3, 0), (6, msk 31 31 + msk 1 0), (8, msk 31 20), (10, msk 7 0), (12, msk 7 0), (13, msk 23 0),
      (14, msk 15 0)] ∧ d.type = 8 ∧ d.cls = 3 ∧ d.prio ≤ 6 ∧ (c.w 4).toNat < 1000000000 ∧ (d.pin = true → d.unit < 12) ∧
      (d.flowed = true → ∃ f, alookup s.ds.flows d.flow = some f ∧ f.cls = 3) ∧ 32 ≤ p.lineBytes ∧ p.lineBytes % 32 = 0 ∧
      p.lines ≠ 0 ∧ s.pumpCtxOk p = true ∧ bit (c.w 6) 31 = false ∧ s.ds.hasCredit d = true)
    ∧ (∃ c : Vx, ∃ s : State, ∃ d : Desc, ∃ p : PumpRec, ∃ l i g, ∃ e : DelayEnt, Solo c 14 s ∧ p = pumpOf c 8 ∧ d = descOf c 2
      s.now p ∧ Clear c [(2, 0xFFFFFFFF - msk 5 0), (3, 0), (6, msk 31 31 + msk 1 0), (8, msk 31 20), (10, msk 7 0), (12, msk 7
      0), (13, msk 23 0), (14, msk 15 0)] ∧ fld (c.w 6) 1 0 = l ∧ g = ((alookup s.ds.delayGens (1024 * l + i)).map fun x => x +
      1).getD 0 % 8 ∧ e = ⟨l, i, g, s.ds.next, (c.w 7).toNat, d, some s.ds.next, false, false⟩ ∧ d.type = 8 ∧ d.cls = 3 ∧ d.prio
      ≤ 6 ∧ (c.w 4).toNat < 1000000000 ∧ (d.pin = true → d.unit < 12) ∧ (d.flowed = true → ∃ f, alookup s.ds.flows d.flow = some
      f ∧ f.cls = 3) ∧ 32 ≤ p.lineBytes ∧ p.lineBytes % 32 = 0 ∧ p.lines ≠ 0 ∧ s.pumpCtxOk p = true ∧ bit (c.w 6) 31 = true ∧
      lowestFree ((s.ds.delays.filter fun x => x.list == l).map (·.idx)) 1024 = some i)
    ∧ (∃ c : Vx, ∃ s : State, ∃ f i l m, Solo c 1 s ∧ Clear c [(2, msk 31 31 + msk 25 16 + msk 15 0)] ∧ fld (c.w 2) 25 16 = i ∧
      alookup s.ds.flows i = some f ∧ l = (s.ds.flowEnts i).filter (fun e => e.cancellable s.clk) ∧ m = s.ds.flowDelays i ∧ bit
      (c.w 2) 31 = true ∧ f.host = true)
    ∧ (∃ c : Vx, ∃ s : State, ∃ e : DelayEnt, Solo c 1 s ∧ Clear c [(2, msk 31 31 + msk 25 16 + msk 15 0)] ∧ s.ds.delays.find?
      (fun x => x.handle == fld (c.w 2) 15 0 && !x.gone) = some e ∧ bit (c.w 2) 31 = false ∧ e.host.isSome = true)
    ∧ (∃ c : Vx, ∃ s : State, ∃ e : Ent, Solo c 1 s ∧ Clear c [(2, msk 31 31 + msk 25 16 + msk 15 0)] ∧
      (match s.ds.delays.find? (fun x => x.handle == fld (c.w 2) 15 0 && x.gone) with | none => s.ds.pool.find? (fun (x : Ent) => x.handle == fld (c.w 2) 15 0) | some d => s.ds.pool.find? (fun (x : Ent) => x.delayIdx == some (1024 * d.list + d.idx))) = some e ∧ bit (c.w 2) 31 = false ∧ s.ds.delays.find? (fun x => x.handle == fld (c.w 2) 15 0 && !x.gone) = none ∧ e.host.isSome = true ∧ e.cancellable s.clk = true)
      :=
  ⟨⟨sl [3, 0x00800080, 0x00800080, 0x00800080, 0x00800080], up, _, _, _, solo rfl rfl, clear rfl, rfl, rfl, rfl,
    by decide +kernel⟩,
   ⟨sl [0x4013], up, 0, _, solo rfl rfl, clear rfl, rfl, by decide +kernel⟩,
   ⟨sl [1023], up.onDs fun d => { d with flows := [(1023, aFlow)] }, _, _, solo rfl rfl, clear rfl, rfl, got
     (by decide +kernel), by decide +kernel⟩,
   ⟨sl [1023], up, _, solo rfl rfl, clear rfl, rfl, by decide +kernel⟩,
   ⟨sl [1023], up.onDs fun d => { d with flows := [(1023, aFlow)] }, _, _, solo rfl rfl, clear rfl, rfl, got
     (by decide +kernel)⟩,
   ⟨sl [0x03E80003], up, _, _, solo rfl rfl, clear rfl, rfl, rfl, by decide +kernel⟩,
   ⟨sl [0x8C000000, 0, 0, 0, 0, 0, 0, 0, 0, 0, 0, 32, 1, 0], up, _, _, solo rfl rfl, rfl, rfl, clear rfl, by decide +kernel⟩,
   ⟨sl [0x8C000000, 0, 0, 0, 0x80000001, 1, 0, 0, 0, 0, 0, 32, 1, 0], up, _, _, _, 0, _, _, solo rfl rfl, rfl, rfl, clear rfl,
     rfl, rfl, rfl, by decide +kernel⟩,
   ⟨sl [0x83FF0000], up.onDs fun d => { d with flows := [(1023, aFlow)] }, _, _, _, _, solo rfl rfl, clear rfl, rfl, got
     (by decide +kernel), rfl, rfl, by decide +kernel⟩,
   ⟨sl [0x8400], up.onDs fun d => { d with delays := [⟨1, 0, 0, 5, 1, aDesc, some 5, false, false⟩] }, _, solo rfl rfl, clear
     rfl, got (by decide +kernel), by decide +kernel⟩,
   ⟨sl [0], up.onDs fun d => { d with pool := [anEnt] }, _, solo rfl rfl, clear rfl, got (by decide +kernel), by decide +kernel⟩⟩

theorem witness_DipperCommandsComplete :
    (∃ c : Vx, ∃ s : State, ∃ first n, Solo c 1 s ∧ Clear c [(2, msk 10 0)] ∧ fld (c.w 2) 10 0 = first ∧ n = min 13 (c.len - 1)
      ∧ first + n ≤ 1542 ∧ s.dip.load = none)
    ∧ (∃ c : Vx, ∃ s : State, ∃ d num words, Solo c 1 s ∧ Clear c [(2, msk 26 16 + msk 13 8 + msk 2 0)] ∧ fld (c.w 2) 2 0 = d ∧
      fld (c.w 2) 13 8 = num ∧ fld (c.w 2) 26 16 = words ∧ d ≠ 7 ∧ (d < 6 → 16 ≤ num) ∧ words ≤ 1542 ∧ s.dip.load = none ∧ (∀ p
      ∈ (s.dp d).progs, p.num ≠ num))
    ∧ (∃ c : Vx, ∃ s : State, ∃ d num, Solo c 1 s ∧ Clear c [(2, msk 13 8 + msk 2 0)] ∧ fld (c.w 2) 2 0 = d ∧ fld (c.w 2) 13 8 =
      num ∧ (∃ p ∈ (s.dp d).progs, p.num = num) ∧ s.bindings d num = 0 ∧ d < 8 ∧ s.dip.dips.length = 8)
    ∧ (∃ c : Vx, ∃ s : State, ∃ d, Solo c 1 s ∧ Clear c [(2, msk 2 0)] ∧ fld (c.w 2) 2 0 = d ∧ d ≠ 7)
    ∧ (∃ c : Vx, ∃ s : State, ∃ d, Solo c 1 s ∧ Clear c [(2, msk 2 0)] ∧ fld (c.w 2) 2 0 = d ∧ d = 7)
    ∧ (∃ c : Vx, ∃ s : State, ∃ d num, Solo c 1 s ∧ Clear c [(2, msk 13 8 + msk 2 0)] ∧ fld (c.w 2) 2 0 = d ∧ fld (c.w 2) 13 8 =
      num ∧ d < 6 ∧ num < 16)
    ∧ (∃ c : Vx, ∃ s : State, ∃ d num p, Solo c 1 s ∧ Clear c [(2, msk 13 8 + msk 2 0)] ∧ fld (c.w 2) 2 0 = d ∧ fld (c.w 2) 13 8
      = num ∧ (s.dp d).progs.find? (fun p => p.num == num) = some p ∧ (d < 6 → 16 ≤ num))
    ∧ (∃ c : Vx, ∃ s : State, ∃ d num, Solo c 1 s ∧ Clear c [(2, msk 13 8 + msk 2 0)] ∧ fld (c.w 2) 2 0 = d ∧ fld (c.w 2) 13 8 =
      num ∧ (d < 6 → 16 ≤ num) ∧ (s.dp d).progs.find? (fun p => p.num == num) = none)
    ∧ (∃ c : Vx, ∃ s : State, ∃ i num d, Solo c 1 s ∧ Clear c [(2, msk 16 16 + msk 13 8 + msk 4 0)] ∧ fld (c.w 2) 4 0 = i ∧ fld
      (c.w 2) 13 8 = num ∧ (s.pv i).dipper = some d ∧ s.dip.dips.length = 8 ∧ s.streamRuns i = false ∧ (∃ p ∈ (s.dp d).progs,
      p.num = num ∧ p.kind = 1) ∧ (bit (c.w 2) 16 = true → (s.dp d).windowFits i num = true)) :=
  ⟨⟨sl [1541, 7], up, _, _, solo rfl rfl, clear rfl, rfl, rfl, by decide +kernel⟩,
   ⟨sl [0x06063F06], up, _, _, _, solo rfl rfl, clear rfl, rfl, rfl, rfl, by decide +kernel⟩,
   ⟨sl [0x3F05], up.onDp 5 fun x => { x with progs := [aProg] }, _, _, solo rfl rfl, clear rfl, rfl, rfl, by decide +kernel⟩,
   ⟨sl [6], up, _, solo rfl rfl, clear rfl, rfl, by decide +kernel⟩,
   ⟨sl [7], up, _, solo rfl rfl, clear rfl, rfl, rfl⟩,
   ⟨sl [0x0F05], up, _, _, solo rfl rfl, clear rfl, rfl, rfl, by decide +kernel⟩,
   ⟨sl [0x3F03], up.onDp 3 fun x => { x with progs := [aProg] }, _, _, _, solo rfl rfl, clear rfl, rfl, rfl, got
     (by decide +kernel), by decide +kernel⟩,
   ⟨sl [0x3F07], up, _, _, solo rfl rfl, clear rfl, rfl, rfl, by decide +kernel⟩,
   ⟨sl [0x13F1F], (up.onDp 4 fun x => { x with progs := [{ aProg with kind := 1 }] }).onPv 31 fun v =>
     { v with dipper := some 4 }, _, _, _, solo rfl rfl, clear rfl, rfl, rfl, got (by decide +kernel), by decide +kernel⟩⟩

theorem witness_DecoderCommandsComplete :
    (∃ c : Vx, ∃ s : State, ∃ ch, ∃ u : State, Solo c 1 s ∧ Clear c [(2, msk 9 8 + msk 3 0)] ∧ fld (c.w 2) 3 0 = ch ∧ u =
      s.onDec (fun d =>
      { d with checks := upd d.checks ch fun x => { x with on := bit (c.w 2) 8, refresh := bit (c.w 2) 9, next := none } }) ∧
      s.runs ch = false ∧ u.decodeOk = true ∧ u.decodeWellsOk = true)
    ∧ (∃ c : Vx, ∃ s : State, ∃ i l x, Solo c 1 s ∧ Clear c [(2, msk 8 0)] ∧ fld (c.w 2) 8 4 = i ∧ (s.ch (fld (c.w 2) 3 0)).lay
      = some l ∧ x = s.chk (l.first + i) ∧ i < l.count)
    ∧ (∃ c : Vx, ∃ s : State, ∃ i n, Solo c 9 s ∧ Clear c [(2, msk 19 11 + msk 3 0), (10, msk 7 0)] ∧ fld (c.w 2) 2 0 = i ∧
      (s.rf i).flow = some n ∧ s.feedLayers i = [] ∧ bit (c.w 2) 3 = false ∧ (s.rf i).st ≠ 0)
    ∧ (∃ c : Vx, ∃ s : State, ∃ i n, ∃ f : Feed, Solo c 9 s ∧ Clear c [(2, msk 19 11 + msk 3 0), (10, msk 7 0)] ∧ fld (c.w 2) 2
      0 = i ∧ f =
      { st := 1, prio := fld (c.w 2) 19 17, earlyOut := bit (c.w 2) 16, encap := fld (c.w 2) 15 14, port := fld (c.w 2) 13 12, ipv6 := bit (c.w 2) 11, addr := if bit (c.w 2) 11 then [c.w 4, c.w 5, c.w 6, c.w 7] else [c.w 7], udp := fld (c.w 3) 15 0, timeout := if fld (c.w 3) 31 16 = 0 then 100 else fld (c.w 3) 31 16, maxW := fld (c.w 8) 15 0, maxH := fld (c.w 8) 31 16, rate := (c.w 9).toNat, dpb := fld (c.w 10) 7 4, frames := fld (c.w 10) 3 0, flow := (s.rf i).flow, heard := s.clk, bufs := List.replicate (fld (c.w 10) 3 0) {} }
      ∧ s.feedLayers i = [] ∧ bit (c.w 2) 3 = true ∧ 3 ≤ s.pw.st ∧ i < 8 ∧ s.dec.feeds.length = 8 ∧ 1 ≤ fld (c.w 2) 19 17 ∧ fld
      (c.w 2) 19 17 ≤ 5 ∧ fld (c.w 2) 15 14 ≠ 3 ∧ (fld (c.w 3) 31 16 = 0 ∨ 10 ≤ fld (c.w 3) 31 16 ∧ fld (c.w 3) 31 16 ≤ 10000) ∧
      64 ≤ fld (c.w 8) 31 16 ∧ fld (c.w 8) 31 16 ≤ 8192 ∧ 64 ≤ fld (c.w 8) 15 0 ∧ fld (c.w 8) 15 0 ≤ 8192 ∧ 1 ≤ (c.w 9).toNat ∧
      (c.w 9).toNat ≤ 1500 ∧ 2 ≤ fld (c.w 10) 7 4 ∧ 3 ≤ fld (c.w 10) 3 0 ∧ fld (c.w 10) 3 0 ≤ 8 ∧ (s.onFeed i fun _ =>
      f).decodeOk = true ∧ (s.rf i).flow = none ∧ (s.rf i).st = 0 ∧ lowestFree (s.ds.flows.map (·.1)) 1024 = some n)
    ∧ (∃ c : Vx, ∃ s : State, ∃ f, Solo c 1 s ∧ Clear c [(2, msk 2 0)] ∧ f = s.rf (fld (c.w 2) 2 0))
    ∧ (∃ c : Vx, ∃ s : State, Solo c 1 s ∧ Clear c [(2, msk 2 0)]) :=
  ⟨⟨sl [0x30F], up, _, _, solo rfl rfl, clear rfl, rfl, rfl, by decide +kernel⟩,
   ⟨sl [0], going, _, _, _, solo rfl rfl, clear rfl, rfl, got (by decide +kernel), rfl, by decide +kernel⟩,
   ⟨sl [7, 0, 0, 0, 0, 0, 0, 0, 0], up.onFeed 7 fun f => { f with st := 1, flow := some 1023 }, _, _, solo rfl rfl, clear rfl,
     rfl, got (by decide +kernel), by decide +kernel⟩,
   ⟨sl [0xA000F, 0, 0, 0, 0, 0, 0x00400040, 1, 0x23], up, _, 0, _, solo rfl rfl, clear rfl, rfl, rfl, by decide +kernel⟩,
   ⟨sl [7], up, _, solo rfl rfl, clear rfl, rfl⟩,
   ⟨sl [7], up, solo rfl rfl, clear rfl⟩⟩

theorem witness_AudioAndPackagingCommandsComplete :
    (∃ c : Vx, ∃ s : State, ∃ p, Solo c 3 s ∧ Clear c [(2, msk 26 8 + msk 2 0), (4, msk 12 0)] ∧ fld (c.w 2) 1 0 = p ∧
      s.audioCarried p = false ∧ bit (c.w 2) 2 = false)
    ∧ (∃ c : Vx, ∃ s : State, ∃ p, ∃ g g' : AudCfg, ∃ n : Nat, ∃ u : State, Solo c 3 s ∧ Clear c [(2, msk 26 8 + msk 2 0), (4,
      msk 12 0)] ∧ fld (c.w 2) 1 0 = p ∧ g =
      { leader := bit (c.w 2) 8, tdm := bit (c.w 2) 9, slots := fld (c.w 2) 11 10, slotBits := fld (c.w 2) 13 12, bits24 := bit (c.w 2) 14, delay1 := bit (c.w 2) 15, edge := bit (c.w 2) 16, fsPol := bit (c.w 2) 17, channels := fld (c.w 2) 21 18, mediaFs := fld (c.w 2) 23 22, portFs := fld (c.w 2) 25 24, mclk := bit (c.w 2) 26, trim := (c.w 3).toNat, blocks := fld (c.w 4) 12 0 }
      ∧ g' = { g with blocks := if g.blocks = 0 then g.minBlocks else g.blocks } ∧ n = mediaIndex g'.fs s.now ∧ u = (s.onAp p
      (fun _ =>
      { cfg := g', st := if g'.leader then 3 else 1, last := s.raw, update := s.clk + 100 * msC, next := n, drive := mediaIndex (fsOf g'.portFs) s.now })).onPkg
      (fun k => { k with audio := k.audio.map fun x => if x.port = p then { x with next := none } else x }) ∧ s.audioCarried p =
      false ∧ bit (c.w 2) 2 = true ∧ 3 ≤ s.pw.st ∧ g.mediaFs ≠ 3 ∧ (g.leader = true → g.portFs ≠ 3) ∧ g.slotBits ≠ 3 ∧ (g.tdm =
      false → g.slotBits = 2 ∧ g.slots = 0) ∧ g.nChan ≤ g.nSlots ∧ (g.bits24 = true → 24 ≤ g.nBits) ∧ g.frameBits * g.nominal ≤
      24576000 ∧ g.trim ≤ 10000000 ∧ g.blocks ≤ 4096 ∧ (g.blocks = 0 ∨ g.minBlocks ≤ g.blocks) ∧ (s.ap p).st = 0 ∧ u.memoryOk =
      true)
    ∧ (∃ c : Vx, ∃ s : State, ∃ p, Solo c 1 s ∧ Clear c [(2, msk 1 0)] ∧ fld (c.w 2) 1 0 = p)
    ∧ (∃ c : Vx, ∃ s : State, Solo c 1 s ∧ Clear c [(2, msk 1 0)])
    ∧ (∃ c : Vx, ∃ s : State, ∃ i f udp pts : Nat, ∃ auds : List (Nat × Nat), ∃ u : State, Solo c 8 s ∧ Clear c [(2, 0xFFFFFFFF
      - msk 11 5), (7, msk 31 16)] ∧ fld (c.w 2) 4 0 = i ∧ fld (c.w 2) 13 12 = f ∧ udp = (if fld (c.w 4) 15 0 = 0 then 1460 else
      fld (c.w 4) 15 0) ∧ auds = [(fld (c.w 9) 15 13, fld (c.w 9) 12 0), (fld (c.w 9) 31 29, fld (c.w 9) 28 16)].filter (fun a
      => a.2 != 0) ∧ (c.w 8).toNat = pts ∧ u = s.onPv i (fun v =>
      { v with set := true, tcId := fld (c.w 2) 31 28, hookId := fld (c.w 2) 27 24, pt := if f = 2 then 33 else fld (c.w 2) 23 17, csum := bit (c.w 2) 16, extended := bit (c.w 2) 15, dual := bit (c.w 2) 14, format := f, ssrc := c.w 3, seq0 := fld (c.w 4) 31 16, maxUdp := udp, tcOffset := sgn32 (c.w 5).toNat, pmtPid := fld (c.w 6) 31 16, videoPid := fld (c.w 6) 15 0, program := fld (c.w 7) 31 16, ptsOffset := if pts = 0 then ceilDiv (s.minPts i auds) 1000000 * 1000000 else pts, ptsAuto := pts == 0, audio := if f = 2 then auds else [] })
      ∧ s.streamRuns i = false ∧ f ≠ 3 ∧ fld (c.w 2) 31 28 ≠ 15 ∧ fld (c.w 2) 27 24 ≠ 15 ∧ (f ≠ 2 → 96 ≤ fld (c.w 2) 23 17) ∧
      512 ≤ udp ∧ udp ≤ 8960 ∧ (f = 1 → bit (c.w 2) 15 = false → udp ≤ 1460) ∧ (f = 2 → 0x20 ≤ fld (c.w 6) 31 16 ∧ fld (c.w 6)
      31 16 ≤ 0x1FFE ∧ 0x20 ≤ fld (c.w 6) 15 0 ∧ fld (c.w 6) 15 0 ≤ 0x1FFE ∧ ∀ a ∈ auds, 0x20 ≤ a.2 ∧ a.2 ≤ 0x1FFE) ∧ (f = 2 →
      pts = 0 ∨ s.minPts i auds ≤ pts) ∧ sameDest (bit (c.w 2) 14) (s.pv i).tmpl = false ∧ u.settle.host.lenient = false ∧
      u.settle.admission false (if (s.strm i).used then [(s.strm i).chan] else []) = none)
    ∧ (∃ c : Vx, ∃ s : State, ∃ i path : Nat, ∃ t : Template, Solo c 14 s ∧ Clear c [(2, 0xFFFFFFFF - msk 19 6), (3, 0xFFFFFFFF
      - msk 23 12)] ∧ fld (c.w 2) 5 0 = i ∧ fld (c.w 2) 20 20 = path ∧ t = ⟨(List.range 14).map fun k => c.w (2 + k)⟩ ∧ i < 40 ∧
      s.streamRuns i = false ∧ i < 32 ∧ sameDest (s.pv i).dual ((s.pv i).tmpl.set path (some t)) = false)
    ∧ (∃ c : Vx, ∃ s : State, ∃ i path : Nat, ∃ t : Template, Solo c 14 s ∧ Clear c [(2, 0xFFFFFFFF - msk 19 6), (3, 0xFFFFFFFF
      - msk 23 12)] ∧ fld (c.w 2) 5 0 = i ∧ fld (c.w 2) 20 20 = path ∧ t = ⟨(List.range 14).map fun k => c.w (2 + k)⟩ ∧ i < 40 ∧
      s.streamRuns i = false ∧ 32 ≤ i ∧ sameDest (s.pa (i - 32)).dual ((s.pa (i - 32)).tmpl.set path (some t)) = false)
    ∧ (∃ c : Vx, ∃ s : State, ∃ a p least : Nat, ∃ g : AudCfg, Solo c 4 s ∧ Clear c [(2, 0xFFFFFFFF - msk 4 3)] ∧ fld (c.w 2) 2
      0 = a ∧ fld (c.w 2) 7 6 = p ∧ (s.ap p).cfg = g ∧ least = g.trim + 2500000 ∧ (s.pa a).on = false ∧ bit (c.w 2) 5 = false)
    ∧ (∃ c : Vx, ∃ s : State, ∃ a p ch pt udp least delay : Nat, ∃ g : AudCfg, ∃ u : State, Solo c 4 s ∧ Clear c [(2, 0xFFFFFFFF
      - msk 4 3)] ∧ fld (c.w 2) 2 0 = a ∧ fld (c.w 2) 7 6 = p ∧ (s.ap p).cfg = g ∧ least = g.trim + 2500000 ∧ ch = fld (c.w 2)
      15 12 + 1 ∧ pt = fld (c.w 2) 17 16 ∧ udp = (if fld (c.w 5) 15 0 = 0 then 1460 else fld (c.w 5) 15 0) ∧ delay = (if (c.w
      4).toNat = 0 then least else (c.w 4).toNat) ∧ u = (s.onPa a fun x =>
      { x with on := true, pt := fld (c.w 2) 31 25, statusId := fld (c.w 2) 24 21, ts := bit (c.w 2) 20, dual := bit (c.w 2) 19, l24 := bit (c.w 2) 18, ptime := pt, channels := ch, first := fld (c.w 2) 11 8, port := p, ssrc := c.w 3, delay := delay, seq0 := fld (c.w 5) 31 16, maxUdp := udp, seq := if x.on then x.seq else fld (c.w 5) 31 16, next := if x.on then x.next else none }).onPa
      a (fun x => { x with dipper := some ((s.onPa a fun x => { x with on := false }).lowerDipper) }) ∧ (s.pa a).on = false ∧
      bit (c.w 2) 5 = true ∧ (bit (c.w 2) 20 = true → g.mediaFs = 0 ∧ (ch = 2 ∨ ch = 4 ∨ ch = 6 ∨ ch = 8) ∧ bit (c.w 2) 18 =
      true ∧ pt = 3) ∧ (s.ap p).st ≠ 0 ∧ 96 ≤ fld (c.w 2) 31 25 ∧ fld (c.w 2) 24 21 ≠ 15 ∧ ptimeOk g.fs pt = true ∧ fld (c.w 2)
      11 8 + ch ≤ g.nChan ∧ 512 ≤ udp ∧ udp ≤ 8960 ∧ (bit (c.w 2) 20 = false → ptimeFrames g.fs pt * ch * (if bit (c.w 2) 18
      then 3 else 2) + 12 + (if fld (c.w 2) 24 21 = 0 then 0 else 8) ≤ udp) ∧ least ≤ delay ∧ delay * g.fs ≤ (g.blocks - 2) * 16
      * 1000000000 ∧ sameDest (bit (c.w 2) 19) (s.pa a).tmpl = false ∧ (∀ i, s.programOf a = some i → u.ptsOk i = true) ∧
      u.dippersOk = true)
    ∧ (∃ c : Vx, ∃ s : State, ∃ i bits, Solo c 1 s ∧ Clear c [(2, msk 5 0)] ∧ fld (c.w 2) 5 0 = i ∧ bits = b01 (s.streamRuns i
      && s.onPath i 0 && (s.port 0).sends) + 2 * b01 (s.streamRuns i && s.onPath i 1 && (s.port 1).sends) ∧ i < 40 ∧ i < 32)
    ∧ (∃ c : Vx, ∃ s : State, ∃ i bits, Solo c 1 s ∧ Clear c [(2, msk 5 0)] ∧ fld (c.w 2) 5 0 = i ∧ bits = b01 (s.streamRuns i
      && s.onPath i 0 && (s.port 0).sends) + 2 * b01 (s.streamRuns i && s.onPath i 1 && (s.port 1).sends) ∧ i < 40 ∧ 32 ≤ i) :=
  ⟨⟨sl [3, 0, 0], up, _, solo rfl rfl, clear rfl, rfl, by decide +kernel⟩,
   ⟨sl [0x2007, 0, 0], up, _, _, _, _, _, solo rfl rfl, clear rfl, rfl, rfl, rfl, rfl, rfl, by decide +kernel⟩,
   ⟨sl [3], up, _, solo rfl rfl, clear rfl, rfl⟩,
   ⟨sl [3], up, solo rfl rfl, clear rfl⟩,
   ⟨sl [0xC0001F, 0, 0, 0, 0, 0, 0, 0], up, _, _, _, _, _, _, solo rfl rfl, clear rfl, rfl, rfl, rfl, rfl, rfl, rfl,
     by decide +kernel⟩,
   ⟨sl [31, 0, 0, 0, 0, 0, 0, 0, 0, 0, 0, 0, 0, 0], up, _, _, _, solo rfl rfl, clear rfl, rfl, rfl, rfl, by decide +kernel⟩,
   ⟨sl [39, 0, 0, 0, 0, 0, 0, 0, 0, 0, 0, 0, 0, 0], up, _, _, _, solo rfl rfl, clear rfl, rfl, rfl, rfl, by decide +kernel⟩,
   ⟨sl [7, 0, 0, 0], up, _, _, _, _, solo rfl rfl, clear rfl, rfl, rfl, rfl, rfl, by decide +kernel⟩,
   ⟨sl [0xC0000027, 0, 0, 0], up.onAp 0 fun x => { x with st := 1, cfg := { x.cfg with blocks := 16 } }, _, _, _, _, _, _, _, _,
     _, solo rfl rfl, clear rfl, rfl, rfl, rfl, rfl, rfl, rfl, rfl, rfl, rfl, by decide +kernel⟩,
   ⟨sl [31], up, _, _, solo rfl rfl, clear rfl, rfl, rfl, by decide +kernel⟩,
   ⟨sl [39], up, _, _, solo rfl rfl, clear rfl, rfl, rfl, by decide +kernel⟩⟩

theorem witness_NetworkAndLaneCommandsComplete :
    (∃ c : Vx, ∃ s : State, ∃ p mac : Nat, ∃ u : State, Solo c 8 s ∧ Clear c [(2, msk 23 8 + msk 3 0 - msk 15 14), (4, msk 15
      0)] ∧ fld (c.w 2) 1 0 = p ∧ mac = (c.w 3).toNat + fld (c.w 4) 15 0 * 4294967296 ∧ u = s.onPort p (fun x =>
      { x with enable := bit (c.w 2) 2, fec := bit (c.w 2) 3, overhead := if fld (c.w 2) 13 8 = 0 then 20 else fld (c.w 2) 13 8, slip := if fld (c.w 2) 23 16 = 0 then 1 else fld (c.w 2) 23 16, mac := if mac = 0 then none else some mac, ipv4 := c.w 5, ipv6 := [c.w 6, c.w 7, c.w 8, c.w 9] })
      ∧ s.portCarries p = false ∧ (s.net.ptp.cfg.on = true → s.net.ptp.cfg.port = p → s.time.mode ≠ 2))
    ∧ (∃ c : Vx, ∃ s : State, ∃ p : Port, Solo c 1 s ∧ Clear c [(2, msk 1 0)] ∧ s.port (fld (c.w 2) 1 0) = p)
    ∧ (∃ c : Vx, ∃ s : State, ∃ q n, Solo c 5 s ∧ Clear c [(2, msk 11 0)] ∧ fld (c.w 2) 7 0 = q ∧ n = s.counted (q / 64)
      (s.maxFrame q) ∧ queueNeedStage c s = false ∧ ((c.w 3).toNat = 0 ∨ n ≤ (c.w 4).toNat) ∧ ((c.w 5).toNat = 0 ∨ n ≤ (c.w
      6).toNat ∧ (c.w 3).toNat ≤ (c.w 5).toNat))
    ∧ (∃ c : Vx, ∃ s : State, ∃ q : Queue, Solo c 1 s ∧ Clear c [(2, msk 7 0)] ∧ (s.queue (fld (c.w 2) 7 0)).fill s.clk = q)
    ∧ (∃ c : Vx, ∃ s : State, ∃ p first n, Solo c 2 s ∧ Clear c [(2, msk 15 8 + msk 1 0)] ∧ fld (c.w 2) 1 0 = p ∧ fld (c.w 2) 15
      8 = first ∧ n = min (c.len - 1) 12 ∧ first + n ≤ 256 ∧ (∀ k < n, 13 ≤ fld (c.w (3 + k)) 22 0))
    ∧ (∃ c : Vx, ∃ s : State, ∃ p l cyc, Solo c 5 s ∧ Clear c [(2, msk 15 8 + msk 2 0), (5, msk 15 0)] ∧ fld (c.w 2) 1 0 = p ∧ l
      = (s.port p).pending.take (fld (c.w 2) 15 8 + 1) ∧ (c.w 6).toNat = cyc ∧ (c.w 3).toNat < 1000000000 ∧ 1000 ≤ cyc ∧ cyc ≤
      1000000000 ∧ (bit (c.w 2) 2 = true → l.foldl (fun n e => n + fld e 22 0 * 8) 0 = cyc) ∧ s.now + usU ≤ Vx.time c 3)
    ∧ (∃ c : Vx, ∃ s : State, ∃ p l cyc, Solo c 5 s ∧ Clear c [(2, msk 15 8 + msk 2 0), (5, msk 15 0)] ∧ fld (c.w 2) 1 0 = p ∧ l
      = (s.port p).pending.take (fld (c.w 2) 15 8 + 1) ∧ (c.w 6).toNat = cyc ∧ (c.w 3).toNat < 1000000000 ∧ 1000 ≤ cyc ∧ cyc ≤
      1000000000 ∧ (bit (c.w 2) 2 = true → l.foldl (fun n e => n + fld e 22 0 * 8) 0 = cyc) ∧ s.now + usU ≤ Vx.time c 3 ∧ bit
      (c.w 2) 2 = true)
    ∧ (∃ c : Vx, ∃ s : State, ∃ p l cyc k start, Solo c 5 s ∧ Clear c [(2, msk 15 8 + msk 2 0), (5, msk 15 0)] ∧ fld (c.w 2) 1 0
      = p ∧ l = (s.port p).pending.take (fld (c.w 2) 15 8 + 1) ∧ (c.w 6).toNat = cyc ∧ start = Vx.time c 3 + k * (cyc * nsU) ∧
      (c.w 3).toNat < 1000000000 ∧ 1000 ≤ cyc ∧ cyc ≤ 1000000000 ∧ (bit (c.w 2) 2 = true → l.foldl (fun n e => n + fld e 22 0 *
      8) 0 = cyc) ∧ Vx.time c 3 < s.now + usU ∧ s.now + usU ≤ start ∧ start < s.now + usU + cyc * nsU)
    ∧ (∃ c : Vx, ∃ s : State, ∃ p : Port, Solo c 1 s ∧ Clear c [(2, msk 1 0)] ∧ s.port (fld (c.w 2) 1 0) = p ∧ p.gates = none)
    ∧ (∃ c : Vx, ∃ s : State, ∃ p : Port, ∃ g, Solo c 1 s ∧ Clear c [(2, msk 1 0)] ∧ s.port (fld (c.w 2) 1 0) = p ∧ p.gates =
      some g)
    ∧ (∃ c : Vx, ∃ s : State, ∃ p k, Solo c 3 s ∧ Clear c [(2, msk 3 0)] ∧ fld (c.w 2) 1 0 = p ∧ fld (c.w 2) 3 2 = k ∧
      policerNeedStage c s = false ∧ 9279 ≤ (c.w 4).toNat)
    ∧ (∃ c : Vx, ∃ s : State, ∃ g : PtpCfg, Solo c 6 s ∧ Clear c [(2, msk 23 16 + msk 9 0)] ∧ g =
      { on := bit (c.w 2) 2, port := fld (c.w 2) 1 0, profile := fld (c.w 2) 3 3, followerOnly := bit (c.w 2) 4, twoStep := bit (c.w 2) 5, ipv6 := bit (c.w 2) 6, autoFirst := bit (c.w 2) 7, servo := fld (c.w 2) 9 8, domain := fld (c.w 2) 23 16, prio1 := fld (c.w 3) 31 24, prio2 := fld (c.w 3) 23 16, utc := if fld (c.w 3) 15 0 = 0 then 37 else fld (c.w 3) 15 0, thresh := if (c.w 4).toNat = 0 then 1000 else (c.w 4).toNat, kp := if (c.w 5).toNat = 0 then 32768 else (c.w 5).toNat, ki := if (c.w 6).toNat = 0 then 4096 else (c.w 6).toNat, asym := sgn32 (c.w 7).toNat }
      ∧ (s.time.mode = 2 → s.anyRuns = false) ∧ g.domain ≤ 127 ∧ g.servo ≠ 3 ∧ 100 ≤ g.thresh ∧ g.thresh ≤ 1000000000)
    ∧ (∃ c : Vx, ∃ s : State, Solo c 0 s)
    ∧ (∃ c : Vx, ∃ s : State, Solo c 1 s ∧ Clear c [(2, msk 0 0)] ∧ s.net.ptp.request = true ∧ bit (c.w 2) 0 = false)
    ∧ (∃ c : Vx, ∃ s : State, Solo c 1 s ∧ Clear c [(2, msk 0 0)] ∧ s.net.ptp.request = true ∧ bit (c.w 2) 0 = true ∧ 0 ≤ (s.now
      : Int) - s.net.ptp.offset ∧ (s.now : Int) - s.net.ptp.offset < timeLimit)
    ∧ (∃ c : Vx, ∃ s : State, ∃ l, fld (c.w 2) 5 0 = l ∧ Solo c 1 s ∧ Clear c [(2, msk 13 12 + msk 10 8 + msk 5 0)] ∧ l ≤ 33 ∧
      pcieLane l = false ∧ s.laneServes l = false ∧ fld (c.w 2) 13 12 ≠ 3 ∧ (bit (c.w 2) 9 = true → 16 ≤ l))
    ∧ (∃ c : Vx, ∃ s : State, ∃ l pre post, fld (c.w 2) 5 0 = l ∧ Solo c 1 s ∧ Clear c [(2, msk 27 24 + msk 20 16 + msk 11 8 +
      msk 5 0)] ∧ l ≤ 33 ∧ pcieLane l = false ∧ 16 ≤ l ∧ s.laneServes l = false ∧ (fld (c.w 2) 27 24 = 15 ∧ pre = fld (c.w 2) 11
      8 ∧ post = fld (c.w 2) 20 16 ∨ fld (c.w 2) 27 24 ≤ 10 ∧ (pre, post) = preset (fld (c.w 2) 27 24)) ∧ tapsOk pre post =
      true)
    ∧ (∃ c : Vx, ∃ s : State, ∃ l, fld (c.w 2) 5 0 = l ∧ Solo c 1 s ∧ Clear c [(2, msk 5 0)] ∧ l ≤ 33 ∧ pcieLane l = false ∧
      (s.lan l).st ≠ 0)
    ∧ (∃ c : Vx, ∃ s : State, ∃ l, fld (c.w 2) 5 0 = l ∧ Solo c 1 s ∧ Clear c [(2, msk 8 8 + msk 5 0)] ∧ l ≤ 33 ∧ pcieLane l =
      false ∧ 16 ≤ l ∧ (bit (c.w 2) 8 = true → s.laneServes l = false))
    ∧ (∃ c : Vx, ∃ s : State, ∃ l, Solo c 1 s ∧ Clear c [(2, msk 5 0)] ∧ fld (c.w 2) 5 0 = l ∧ l ≤ 33) :=
  ⟨⟨sl [3, 0, 0, 0, 0, 0, 0, 0], up, _, _, _, solo rfl rfl, clear rfl, rfl, rfl, rfl, by decide +kernel⟩,
   ⟨sl [3], up, _, solo rfl rfl, clear rfl, rfl⟩,
   ⟨sl [0xFF, 0, 0, 0, 0], up, _, _, solo rfl rfl, clear rfl, rfl, rfl, by decide +kernel⟩,
   ⟨sl [255], up, _, solo rfl rfl, clear rfl, rfl⟩,
   ⟨sl [0xFF03, 13], up, _, _, _, solo rfl rfl, clear rfl, rfl, rfl, rfl, by decide +kernel⟩,
   ⟨sl [3, 1000, 0, 0, 1000], up, _, _, _, solo rfl rfl, clear rfl, rfl, rfl, rfl, by decide +kernel⟩,
   ⟨sl [7, 1000, 0, 0, 1000], up.onPort 3 fun x => { x with pending := [125] }, _, _, _, solo rfl rfl, clear rfl, rfl, rfl, rfl,
     by decide +kernel⟩,
   ⟨sl [3, 0, 0, 0, 1000], { up with now := 10 * usU }, _, _, _, 11, _, solo rfl rfl, clear rfl, rfl, rfl, rfl, rfl,
     by decide +kernel⟩,
   ⟨sl [3], up, _, solo rfl rfl, clear rfl, rfl, by decide +kernel⟩,
   ⟨sl [3], up.onPort 3 fun x => { x with gates := some ⟨[125], 0, 1000⟩ }, _, _, solo rfl rfl, clear rfl, rfl, got
     (by decide +kernel)⟩,
   ⟨sl [0xF, 0, 9279], up, _, _, solo rfl rfl, clear rfl, rfl, rfl, by decide +kernel⟩,
   ⟨sl [0x7F0007, 0, 0, 0, 0, 0], up, _, solo rfl rfl, clear rfl, rfl, by decide +kernel⟩,
   ⟨sl [], up, solo rfl rfl⟩,
   ⟨sl [0], up.onPtp fun p => { p with request := true }, solo rfl rfl, clear rfl, by decide +kernel⟩,
   ⟨sl [1], up.onPtp fun p => { p with request := true }, solo rfl rfl, clear rfl, by decide +kernel⟩,
   ⟨sl [25], up, _, rfl, solo rfl rfl, clear rfl, by decide +kernel⟩,
   ⟨sl [0x0F000019], up, _, 0, 0, rfl, solo rfl rfl, clear rfl, by decide +kernel⟩,
   ⟨sl [29], up.onLan 29 fun x => { x with st := 3 }, _, rfl, solo rfl rfl, clear rfl, by decide +kernel⟩,
   ⟨sl [29], up, _, rfl, solo rfl rfl, clear rfl, by decide +kernel⟩,
   ⟨sl [33], up, _, solo rfl rfl, clear rfl, rfl, by decide +kernel⟩⟩

theorem witness_TwinCommandsComplete :
    (∃ c : Vx, ∃ s : State, Plain c 14 s ∧ Clear c [(2, msk 0 0)] ∧ s.twin.role = 0 ∧ s.twin.pairing = none ∧ ((c.w 3).toNat ≤
      1440 ∨ (c.w 3).toNat = 0xFFFFFFFF))
    ∧ (∃ c : Vx, ∃ s : State, Plain c 0 s ∧ s.twin.role ≠ 0)
    ∧ (∃ c : Vx, ∃ s : State, Plain c 1 s ∧ Clear c [(2, msk 0 0)] ∧ s.twin.role = 1 ∧ s.isRunning 0x0D02 0 = false ∧ bit (c.w
      2) 0 = true)
    ∧ (∃ c : Vx, ∃ s : State, Plain c 1 s ∧ Clear c [(2, msk 0 0)] ∧ s.twin.role = 1 ∧ s.isRunning 0x0D02 0 = false ∧ bit (c.w
      2) 0 = false ∧ s.twin.partnerFit = true)
    ∧ (∃ c : Vx, ∃ s : State, Plain c 0 s) :=
  ⟨⟨sl [1, 1440, 0, 0, 0, 0, 0, 0, 0, 0, 0, 0, 0, 0], up, plain rfl, clear rfl, by decide +kernel⟩,
   ⟨sl [], up.onTwin fun t => { t with role := 1 }, plain rfl, by decide +kernel⟩,
   ⟨sl [1], up.onTwin fun t => { t with role := 1 }, plain rfl, clear rfl, by decide +kernel⟩,
   ⟨sl [0], up.onTwin fun t => { t with role := 1, partnerFit := true }, plain rfl, clear rfl, by decide +kernel⟩,
   ⟨sl [], up, plain rfl⟩⟩

theorem witness_ClusterCommandsComplete :
    (∃ c : Vx, ∃ s : State, ∃ id, Plain c 3 s ∧ Clear c [(2, msk 14 0), (3, msk 15 0), (4, msk 15 0)] ∧ fld (c.w 2) 11 0 = id ∧
      s.boundRuns = false ∧ s.idFits id = true)
    ∧ (∃ c : Vx, ∃ s : State, ∃ d : List Word, Plain c 12 s ∧ d = [c.w 2, c.w 3, c.w 4, c.w 5, c.w 6, c.w 7, c.w 8, c.w 9, c.w
      10, c.w 11, c.w 12, c.w 13])
    ∧ (∃ c : Vx, ∃ s : State, ∃ id, ∃ d : List Word, ∃ e : Roster, ∃ u : State, Plain c 13 s ∧ Clear c [(2, msk 15 0)] ∧ fld
      (c.w 2) 11 0 = id ∧ d = [c.w 3, c.w 4, c.w 5, c.w 6, c.w 7, c.w 8, c.w 9, c.w 10, c.w 11, c.w 12, c.w 13, c.w 14] ∧ e =
      { s.entry id with role := fld (c.w 2) 13 12, enabled := bit (c.w 2) 15, digestA := if bit (c.w 2) 14 then (s.entry id).digestA else d, digestB := if bit (c.w 2) 14 then d else (s.entry id).digestB }
      ∧ u = s.onCl (fun x => { x with roster := x.roster.filter (fun r => r.id != id) ++ [e] }) ∧ e = s.entry id ∧ s.isManager =
      true ∧ s.inRoster id = true)
    ∧ (∃ c : Vx, ∃ s : State, ∃ id, ∃ d : List Word, ∃ e : Roster, ∃ u : State, Plain c 13 s ∧ Clear c [(2, msk 15 0)] ∧ fld
      (c.w 2) 11 0 = id ∧ d = [c.w 3, c.w 4, c.w 5, c.w 6, c.w 7, c.w 8, c.w 9, c.w 10, c.w 11, c.w 12, c.w 13, c.w 14] ∧ e =
      { s.entry id with role := fld (c.w 2) 13 12, enabled := bit (c.w 2) 15, digestA := if bit (c.w 2) 14 then (s.entry id).digestA else d, digestB := if bit (c.w 2) 14 then d else (s.entry id).digestB }
      ∧ u = s.onCl (fun x => { x with roster := x.roster.filter (fun r => r.id != id) ++ [e] }) ∧ s.isManager = true ∧
      s.inRoster id = true ∧ e ≠ s.entry id)
    ∧ (∃ c : Vx, ∃ s : State, ∃ id m, Plain c 1 s ∧ Clear c [(2, msk 11 0)] ∧ fld (c.w 2) 11 0 = id ∧ s.shownMember id = m)
    ∧ (∃ c : Vx, ∃ s : State, ∃ id m, ∃ e : Roster, Plain c 1 s ∧ Clear c [(2, msk 11 0 + msk 14 14)] ∧ fld (c.w 2) 11 0 = id ∧
      s.member id (bit (c.w 2) 14) = m ∧ e = (if bit (c.w 2) 14 then { s.entry id with digestB := m.digest } else
      { s.entry id with digestA := m.digest }) ∧ s.isManager = true ∧ m.st = 3)
    ∧ (∃ c : Vx, ∃ s : State, ∃ kind scope t id : Nat, ∃ lo hi : List Word, ∃ o : OpRec, ∃ u v : State, Plain c 7 s ∧ Clear c
      [(2, msk 31 24), (3, msk 27 16), (6, msk 15 0)] ∧ fld (c.w 2) 31 24 = kind ∧ scope = (if s.strapRole = 3 then 0x041 else
      s.myId / 64) ∧ fld (c.w 3) 27 16 = scope ∧ Vx.time c 4 = t ∧ id = s.cl.nextOp ∧ o =
      { opRecOf ([w32 (kind * 16777216 + id), w32 (scope * 65536 + s.myId), c.w 4, c.w 5, c.w 6, c.w 7, c.w 8] ++ lo ++ hi) with own := true, expected := s.ownMembers ++ (s.admitted.map (·.1)).filter fun i => i / 64 != s.myId / 64 }
      ∧ u = s.onCl (fun x =>
      { x with nextOp := (id + 1) % 65536, ops := (x.ops.filter fun y => !(y.own && y.stage == 3 && y.opId % 8 == id % 8)) ++ [o], slotLo := if kind = 1 then none else x.slotLo, slotHi := if kind = 1 then none else x.slotHi })
      ∧ v = (if s.strapRole = 3 then u.sendSkov (opType kind) 0 true 0x040 (w32 id) o.words else u).sendSkov (opType kind) 0
      true (s.myId / 64) (w32 id) o.words (s.strapRole == 3) ∧ 1 ≤ kind ∧ kind ≤ 7 ∧ s.isManager = true ∧ s.cl.id.isSome = true
      ∧ (c.w 4).toNat < 1000000000 ∧ s.now + (if s.strapRole = 3 then 40 else 32) * usU ≤ t ∧ t ≤ s.now + 60 * secU ∧ (6 ≤ kind
      → s.now + msU ≤ t) ∧ opArgBad kind (c.w 7) = false ∧ (kind = 1 → s.cl.slotLo = some lo ∧ s.cl.slotHi = some hi) ∧ (kind ≠
      1 → lo = [] ∧ hi = []) ∧ (s.cl.ops.filter fun x => x.own && decide (x.stage < 3)).length < 8)
    ∧ (∃ c : Vx, ∃ s : State, ∃ id o, Plain c 1 s ∧ Clear c [(2, msk 15 0)] ∧ fld (c.w 2) 15 0 = id ∧ (s.cl.ops.filter fun o =>
      o.own && o.opId == id).getLast? = some o)
    ∧ (∃ c : Vx, ∃ s : State, ∃ id, Plain c 1 s ∧ Clear c [(2, msk 15 0)] ∧ fld (c.w 2) 15 0 = id ∧ (s.cl.ops.filter fun o =>
      o.own && o.opId == id) = [])
    ∧ (∃ c : Vx, ∃ s : State, ∃ ws, Plain c 9 s ∧ Clear c [(2, msk 0 0)] ∧ ws = [c.w 3, c.w 4, c.w 5, c.w 6, c.w 7, c.w 8, c.w
      9, c.w 10] ∧ s.isManager = true)
    ∧ (∃ c : Vx, ∃ s : State, Plain c 0 s) :=
  ⟨⟨sl [0x40, 0, 0], boss, _, plain rfl, clear rfl, rfl, by decide +kernel⟩,
   ⟨sl [0, 0, 0, 0, 0, 0, 0, 0, 0, 0, 0, 0], up, _, plain rfl, rfl⟩,
   ⟨sl [0x9041, 0, 0, 0, 0, 0, 0, 0, 0, 0, 0, 0, 0], bossOf 3, _, _, _, _, plain rfl, clear rfl, rfl, rfl, rfl, rfl, rfl,
     by decide +kernel⟩,
   ⟨sl [0x41, 0, 0, 0, 0, 0, 0, 0, 0, 0, 0, 0, 0], bossOf 3, _, _, _, _, plain rfl, clear rfl, rfl, rfl, rfl, rfl,
     by decide +kernel⟩,
   ⟨sl [0xFFF], up, _, _, plain rfl, clear rfl, rfl, rfl⟩,
   ⟨sl [0x41], boss.onCl fun x => { x with members := [{ id := 0x41, selB := false, st := 3 }] }, _, _, _, plain rfl, clear rfl,
     rfl, rfl, rfl, by decide +kernel⟩,
   ⟨sl [0x02000000, 0x00010000, 32000, 0, 0, 0x100, 0], boss, _, _, _, _, [], [], _, _, _, plain rfl, clear rfl, rfl, rfl, rfl,
     rfl, rfl, rfl, rfl, rfl, by decide +kernel⟩,
   ⟨sl [0xFFFF], up.onCl fun x => { x with ops := [anOp] }, _, _, plain rfl, clear rfl, rfl, got (by decide +kernel)⟩,
   ⟨sl [0xFFFF], up, _, plain rfl, clear rfl, rfl, by decide +kernel⟩,
   ⟨sl [1, 0, 0, 0, 0, 0, 0, 0, 0], boss, _, plain rfl, clear rfl, rfl, by decide +kernel⟩,
   ⟨sl [], up, plain rfl⟩⟩

theorem witness_FaultAndCheckCommandsComplete :
    (∃ c : Vx, ∃ s : State, ∃ cls code d, Plain c 1 s ∧ Clear c [(2, msk 23 8 + msk 3 0)] ∧ fld (c.w 2) 23 16 = cls ∧ fld (c.w
      2) 15 8 = code ∧ defaultSev cls code = some d ∧ bit (c.w 2) 3 = false)
    ∧ (∃ c : Vx, ∃ s : State, ∃ cls code d u, Plain c 1 s ∧ Clear c [(2, msk 23 8 + msk 3 0)] ∧ fld (c.w 2) 23 16 = cls ∧ fld
      (c.w 2) 15 8 = code ∧ defaultSev cls code = some d ∧ u = s.onFlt (fun f =>
      { f with sevs := aset f.sevs (cls * 256 + code) (fld (c.w 2) 2 0) }) ∧ bit (c.w 2) 3 = true ∧ fld (c.w 2) 2 0 ≤ 4 ∧ d ≠ 4)
    ∧ (∃ c : Vx, ∃ s : State, ∃ e, Plain c 1 s ∧ Clear c [(2, msk 8 8 + msk 3 0)] ∧ s.flt.safe = some e ∧ bit (c.w 2) 8 = true ∧
      s.stillCaused e = false)
    ∧ (∃ c : Vx, ∃ s : State, ∃ ch k e f, Plain c 1 s ∧ Clear c [(2, msk 8 8 + msk 3 0)] ∧ fld (c.w 2) 3 0 = ch ∧ f =
      s.frameAfter ch (s.now + 30 * usU) 4096 (s.ch ch).nextFrame ∧ bit (c.w 2) 8 = false ∧ s.flt.chSafe.find? (fun x => x.1 ==
      ch) = some (k, e) ∧ s.stillCaused e = false ∧ s.runs ch = true)
    ∧ (∃ c : Vx, ∃ s : State, ∃ ch k e f, Plain c 1 s ∧ Clear c [(2, msk 8 8 + msk 3 0)] ∧ fld (c.w 2) 3 0 = ch ∧ f =
      s.frameAfter ch (s.now + 30 * usU) 4096 (s.ch ch).nextFrame ∧ bit (c.w 2) 8 = false ∧ s.flt.chSafe.find? (fun x => x.1 ==
      ch) = some (k, e) ∧ s.stillCaused e = false ∧ s.runs ch = false)
    ∧ (∃ c : Vx, ∃ s : State, ∃ k, Plain c 1 s ∧ (∀ j, 18 ≤ j → j < k → (s.cvu.ctx j).allocated = true) ∧ fld (c.w 2) 29 28 ≠ 3
      ∧ fld (c.w 2) 27 26 ≠ 3 ∧ k < 512 ∧ 18 ≤ k ∧ (s.cvu.ctx k).allocated = false)
    ∧ (∃ c : Vx, ∃ s : State, ∃ k, Plain c 1 s ∧ Clear c [(2, msk 2 0 + msk 13 8)] ∧ k = 64 * fld (c.w 2) 2 0 + fld (c.w 2) 13 8
      ∧ (s.cvu.ctx k).hostOwn = true ∧ s.ctxBusy k = false)
    ∧ (∃ c : Vx, ∃ s : State, ∃ k, Plain c 1 s ∧ Clear c [(2, msk 2 0 + msk 13 8)] ∧ k = 64 * fld (c.w 2) 2 0 + fld (c.w 2) 13
      8)
    ∧ (∃ c : Vx, ∃ s : State, ∃ k, ∃ x y z : Ctx, Plain c 3 s ∧ Clear c [(2, msk 2 0 + msk 13 8 + msk 18 16), (4, msk 16 0)] ∧ k
      = 64 * fld (c.w 2) 2 0 + fld (c.w 2) 13 8 ∧ x = (if bit (c.w 2) 16 then { s.cvu.ctx k with running := c.w 3 } else
      s.cvu.ctx k) ∧ y = (if bit (c.w 2) 17 then
      { x with aliveValid := bit (c.w 4) 16, aliveLast := fld (c.w 4) 15 8, aliveNext := fld (c.w 4) 7 0 } else x) ∧ z = (if bit
      (c.w 2) 18 then { y with units := 0, crcFails := 0, repeats := 0, gaps := 0 } else y) ∧ (s.cvu.ctx k).hostOwn = true ∧
      s.ctxBusy k = false)
    ∧ (∃ c : Vx, ∃ s : State, ∃ cls code ch : Nat, Plain c 2 s ∧ Clear c [(2, msk 23 0), (3, msk 7 0)] ∧ fld (c.w 2) 23 16 = cls
      ∧ fld (c.w 2) 15 8 = code ∧ fld (c.w 3) 7 0 = ch ∧ (defaultSev cls code).isSome = true ∧ (ch ≤ 15 ∨ ch = 0xFF) ∧
      s.host.answers = []) :=
  ⟨⟨sl [0x170100], up, _, _, _, plain rfl, clear rfl, rfl, rfl, got (by decide +kernel), by decide +kernel⟩,
   ⟨sl [0x17010C], up, _, _, _, _, plain rfl, clear rfl, rfl, rfl, got (by decide +kernel), rfl, by decide +kernel⟩,
   ⟨sl [0x100], up.onFlt fun f => { f with safe := some aSafe }, _, plain rfl, clear rfl, got (by decide +kernel), by decide +kernel⟩,
   ⟨sl [0], going.onFlt fun f => { f with chSafe := [(0, aSafe)] }, _, 0, aSafe, _, plain rfl, clear rfl, rfl, rfl,
     by decide +kernel⟩,
   ⟨sl [0], up.onFlt fun f => { f with chSafe := [(0, aSafe)] }, _, 0, aSafe, _, plain rfl, clear rfl, rfl, rfl,
     by decide +kernel⟩,
   ⟨sl [0], up, 18, plain rfl, fun j a b => absurd b (by omega), by decide +kernel⟩,
   ⟨sl [0x3F07], up.setCtx 511 { hostOwn := true, allocated := true }, _, plain rfl, clear rfl, rfl, by decide +kernel⟩,
   ⟨sl [0x3F07], up, _, plain rfl, clear rfl, rfl⟩,
   ⟨sl [0x73F07, 0, 0x1FFFF], up.setCtx 511 { hostOwn := true, allocated := true }, _, _, _, _, plain rfl, clear rfl, rfl, rfl,
     rfl, rfl, by decide +kernel⟩,
   ⟨sl [0x170100, 0xFF], up, _, _, _, plain rfl, clear rfl, rfl, rfl, rfl, by decide +kernel⟩⟩

theorem witness_FirmwareAndHealthCommandsComplete :
    (∃ c : Vx, ∃ s : State, ∃ a b : Slot, Plain c 0 s ∧ tab s.pw.slots 0 = a ∧ tab s.pw.slots 1 = b)
    ∧ (∃ c : Vx, ∃ s : State, ∃ k, Plain c 1 s ∧ Clear c [(2, msk 0 0)] ∧ fld (c.w 2) 0 0 = k ∧ s.pw.fwOp = none ∧ k ≠
      s.pw.runs)
    ∧ (∃ c : Vx, ∃ s : State, ∃ k off n, Plain c 1 s ∧ Clear c [(2, msk 22 0)] ∧ fld (c.w 2) 22 0 = off ∧ n = c.len - 1 ∧
      s.pw.fwOpen = some k ∧ n ≤ 12 ∧ s.pw.fwOp = none ∧ off + n ≤ slotWords ∧ s.pw.fwBuffer + n ≤ bufferWords)
    ∧ (∃ c : Vx, ∃ s : State, Plain c 1 s ∧ Clear c [(2, msk 22 0)] ∧ s.pw.fwOp = none ∧ s.pw.fwOpen.isSome = true ∧ fld (c.w 2)
      22 0 ≤ slotWords)
    ∧ (∃ c : Vx, ∃ s : State, Plain c 0 s ∧ s.pw.st ≤ 2 ∧ s.twin.role = 0 ∧ s.slotOk (1 - s.pw.runs) = true)
    ∧ (∃ c : Vx, ∃ s : State, ∃ n, Plain c 1 s ∧ Clear c [(2, msk 0 0)] ∧ n = (if bit (c.w 2) 0 then max s.pw.counter (tab
      s.pw.slots s.pw.runs).svn else s.pw.counter))
    ∧ (∃ c : Vx, ∃ s : State, ∃ t, Plain c 1 s ∧ Clear c [(2, msk 2 0)] ∧ fld (c.w 2) 2 0 = t ∧ 1 ≤ t ∧ t ≤ 3)
    ∧ (∃ c : Vx, ∃ s : State, ∃ k : State → State, Plain c 9 s ∧ Clear c [(2, msk 25 16 + msk 13 8 + msk 2 0), (3, msk 25 16 +
      msk 10 8 + msk 5 0), (9, msk 31 26 + msk 22 0)] ∧ k = (fun t => if bit (c.w 2) 1 then (t.setTrickle c).onPw fun p =>
      { p with profile := some [c.w 2, c.w 3, c.w 4, c.w 5, c.w 6, c.w 7, c.w 8, c.w 9, c.w 10] } else t.setTrickle c) ∧ bit
      (c.w 2) 0 = false)
    ∧ (∃ c : Vx, ∃ s : State, ∃ k : State → State, ∃ d ws t, Plain c 9 s ∧ Clear c [(2, msk 25 16 + msk 13 8 + msk 2 0), (3, msk
      25 16 + msk 10 8 + msk 5 0), (9, msk 31 26 + msk 22 0)] ∧ k = (fun t => if bit (c.w 2) 1 then (t.setTrickle c).onPw fun p
      => { p with profile := some [c.w 2, c.w 3, c.w 4, c.w 5, c.w 6, c.w 7, c.w 8, c.w 9, c.w 10] } else t.setTrickle c) ∧
      (s.pw.in0 = true ∧ t = s ∨ s.pw.in0 = false ∧ hInConfig (trickleIn c) s = .ok ws t) ∧ d = (if bit (c.w 2) 2 then 8 else 4)
      ∧ bit (c.w 2) 0 = true ∧ 1 ≤ fld (c.w 2) 25 16 ∧ fld (c.w 2) 25 16 ≤ 1000 ∧ 1 ≤ fld (c.w 2) 13 8 ∧ fld (c.w 2) 13 8 ≤ 60 ∧
      fld (c.w 3) 3 0 = 0 ∧ trickleBad d (fld (c.w 2) 13 8) (t.inp 0) = false)
    ∧ (∃ c : Vx, ∃ s : State, Plain c 0 s) :=
  ⟨⟨sl [], up, _, _, plain rfl, rfl, rfl⟩,
   ⟨sl [1], up, _, plain rfl, clear rfl, rfl, by decide +kernel⟩,
   ⟨sl [0, 5], { up with pw := { up.pw with fwOpen := some 1 } }, _, _, _, plain rfl, clear rfl, rfl, rfl, got
     (by decide +kernel), by decide +kernel⟩,
   ⟨sl [0], { up with pw := { up.pw with fwOpen := some 1 } }, plain rfl, clear rfl, by decide +kernel⟩,
   ⟨sl [], { up with pw := { up.pw with st := 2, slots := [⟨2, 0, 0, []⟩, ⟨2, 0, 0, []⟩] } }, plain rfl, by decide +kernel⟩,
   ⟨sl [1], up, _, plain rfl, clear rfl, rfl⟩,
   ⟨sl [3], up, _, plain rfl, clear rfl, rfl, by decide +kernel⟩,
   ⟨sl [2, 0, 0, 0, 0, 0, 0, 0, 0], up, _, plain rfl, clear rfl, rfl, by decide +kernel⟩,
   ⟨sl [0x00010101, 0, 0, 0, 0, 0, 0, 0, 0], { up with pw := { up.pw with in0 := true } }, _, _, [], _, plain rfl, clear rfl,
     rfl, .inl ⟨rfl, rfl⟩, rfl, by decide +kernel⟩,
   ⟨sl [], up, plain rfl⟩⟩

theorem witness_HostWritesComplete :
    (∃ s : State, ∃ off size, s.Inv ∧ s.served = true ∧ cmdBase ≤ off ∧ off < rspBase ∧ (size = 4 ∨ size = 8) ∧ off % size = 0)
    ∧ (∃ s : State, s.served = true)
    ∧ (∃ s : State, ∃ v : Word, s.served = true ∧ occupancy (BitVec.ofNat 16 v.toNat) s.host.cmdHead ≤ 64 ∧ occupancy
      (BitVec.ofNat 16 v.toNat) s.host.cmdTail ≤ 64)
    ∧ (∃ s : State, ∃ v : Word, s.served = true ∧ 64 < occupancy (BitVec.ofNat 16 v.toNat) s.host.cmdHead)
    ∧ (∃ s : State, ∃ v : Word, s.served = true ∧ occupancy (BitVec.ofNat 16 v.toNat) s.host.rspHead ≤ occupancy s.host.rspTail
      s.host.rspHead)
    ∧ (∃ s : State, ∃ v : Word, s.served = true ∧ occupancy (BitVec.ofNat 16 v.toNat) s.host.evtHead ≤ occupancy s.host.evtTail
      s.host.evtHead)
    ∧ (∃ s : State, ∃ v : Word, s.served = true ∧ v.toNat % 65536 ≠ 0xC15E)
    ∧ (∃ s : State, ∃ v : Word, s.served = true ∧ v.toNat % 65536 = 0xC15E) :=
  ⟨⟨up, rspBase - 8, 8, ⟨rfl, rfl, rfl⟩, by decide +kernel⟩,
   ⟨up, by decide +kernel⟩,
   ⟨up, 64, by decide +kernel⟩,
   ⟨up, 65, by decide +kernel⟩,
   ⟨up, 0, by decide +kernel⟩,
   ⟨up, 0, by decide +kernel⟩,
   ⟨up, 0, by decide +kernel⟩,
   ⟨up, 0xC15E, by decide +kernel⟩⟩

theorem witness_WindowAndStatusAccessesComplete :
    (∃ s : State, ∃ off size, s.served = true ∧ s.reachable (s.host.aperture.toNat * 1048576 + off) size true = false)
    ∧ (∃ s : State, ∃ off size, s.served = true ∧ s.reachable (s.host.aperture.toNat * 1048576 + off) size false = false)
    ∧ (∃ s : State, ∃ w off size, s.served = true ∧ 0 < size ∧ off + size ≤ 268435456 ∧ s.reachable (s.host.aperture.toNat *
      1048576 + off) size w = true ∧ 3 ≤ s.pw.st)
    ∧ (∃ v : Word, bit v 0 = false)
    ∧ (∃ v : Word, bit v 0 = true)
    ∧ (∃ s : State, ∃ v : Word, occupancy (BitVec.ofNat 16 v.toNat) s.ds.traceRd ≤ occupancy s.ds.traceWr s.ds.traceRd)
    ∧ (∃ s : State, ∃ v : Word, occupancy s.ds.traceWr s.ds.traceRd < occupancy (BitVec.ofNat 16 v.toNat) s.ds.traceRd) :=
  ⟨⟨up.onHost fun h => { h with aperture := 0x3FFF }, 2097152, 4, by decide +kernel⟩,
   ⟨up.onHost fun h => { h with aperture := 0x3FFF }, 2097152, 4, by decide +kernel⟩,
   ⟨framed, false, opBase % 1048576, 4, rfl, by decide, by have := Nat.mod_lt opBase (by decide : 0 < 1048576); omega, opReach,
     by decide +kernel⟩,
   ⟨0, by decide +kernel⟩,
   ⟨1, by decide +kernel⟩,
   ⟨up, 0, by decide +kernel⟩,
   ⟨up, 1, by decide +kernel⟩⟩

theorem witness_ConsumeTakesTheRingCommand :
    (∃ c : Vx, ∃ op : Nat, ∃ i : Instr, ∃ s : State, (op, i) ∈ commandsOf c ∧ s.consumes = true ∧ s.host.waiting = [] ∧
      s.host.cmdHead ≠ s.host.cmdTail ∧ c.len < 256 ∧ c.rsv < 32 ∧ c.pay.length = 14 ∧ Mem.readWords s.mem.ring (slotAddr
      cmdBase 64 64 s.host.cmdHead) 16 = cmdWords ⟨op, c⟩) :=
  ⟨{ sl [] with tag := 0 }, 0, .nop { sl [] with tag := 0 }, up.onHost fun h => { h with cmdTail := 1 }, by decide +kernel⟩

theorem witness_HostWaitsAndDoeComplete :
    (∃ s : State, ∃ d, s.host.coDue = some d)
    ∧ (∃ s : State, ∃ r, s.host.remotes = [r] ∧ s.host.answers = [.remote r.id] ∧ s.host.rspTail = s.host.rspHead)
    ∧ (∃ s : State, ∃ n : Nat, ∃ x : DoeObj, (s.pass n).served = true ∧ s.host.doeBusy = false ∧ x.head.intact = true ∧
      x.head.vendor = 1 ∧ x.head.len ≤ 16384 ∧ x.head.type = 0)
    ∧ (∃ s : State, ∃ n : Nat, ∃ x : DoeObj, (s.pass n).served = true ∧ s.host.doeBusy = false ∧ x.head.intact = true ∧
      x.head.vendor = 1 ∧ x.head.len ≤ 16384 ∧ x.head.type = 1 ∧ x.code = 0x84)
    ∧ (∃ s : State, ∃ n : Nat, ∃ x : DoeObj, (s.pass n).served = true ∧ s.host.doeBusy = false ∧ x.head.intact = true ∧
      x.head.vendor = 1 ∧ x.head.len ≤ 16384 ∧ x.head.type ≤ 1)
    ∧ (∃ s : State, ∃ n : Nat, ∃ x : DoeObj, (s.pass n).served = true ∧ s.host.doeBusy = false ∧ (x.head.intact = false ∨
      x.head.vendor ≠ 1 ∨ 16384 < x.head.len ∨ 1 < x.head.type)) :=
  ⟨⟨up.onHost fun h => { h with coDue := some 5 }, _, got (by decide +kernel)⟩,
   ⟨up.onHost fun h => { h with remotes := [⟨0, 1, ⟨0, sl []⟩, 0⟩], answers := [.remote 0] }, ⟨0, 1, ⟨0, sl []⟩, 0⟩,
     by decide +kernel⟩,
   ⟨up, 1, ⟨⟨1, 0, 12, true⟩, 0, (0, 0), (0, 0)⟩, by decide +kernel⟩,
   ⟨up, 1, ⟨⟨1, 1, 12, true⟩, 0x84, (0, 0), (0, 0)⟩, by decide +kernel⟩,
   ⟨up, 1, ⟨⟨1, 1, 16384, true⟩, 0, (0, 0), (0, 0)⟩, by decide +kernel⟩,
   ⟨up, 1, ⟨⟨1, 0, 16385, true⟩, 0, (0, 0), (0, 0)⟩, by decide +kernel⟩⟩

theorem witness_CommitSetsLoadAndApply :
    (∃ s : State, ∃ x : CommitSet, s.host.armed.filter (!·.loaded) = [x] ∧ s.setDue x = 20 * usU + s.now ∧ ((s.toTime
      s.now).beforeSet x.id).setFails x.cmds = none ∧ 0 < s.time.addend)
    ∧ (∃ s : State, ∃ x : CommitSet, ∃ u due, u = s.toTime (s.setDue x) ∧ u.setDue x = due ∧ s.host.armed.filter (·.loaded) =
      [x]) :=
  ⟨⟨up.onHost fun h => { h with armed := [{ aSet with due := 20 * usU }] }, { aSet with due := 20 * usU }, by decide +kernel⟩,
   ⟨up.onHost fun h => { h with armed := [{ aSet with loaded := true }] }, { aSet with loaded := true }, _, _, rfl, rfl,
     by decide +kernel⟩⟩

theorem witness_HostResetsAndRestartsComplete :
    (∃ s : State, s.pw.on = true)
    ∧ (∃ s : State, s.pw.on = true ∧ s.host.perst = false)
    ∧ (∃ s : State, s.pw.on = true ∧ s.booting = false)
    ∧ (∃ s : State, s.host.fwReady = true)
    ∧ (∃ s : State, s.host.fwReady = true ∧ s.host.restart = none)
    ∧ (∃ s : State, ∃ x, s.host.restart = some x) :=
  ⟨⟨up, by decide +kernel⟩,
   ⟨up, by decide +kernel⟩,
   ⟨up, by decide +kernel⟩,
   ⟨up, by decide +kernel⟩,
   ⟨up, by decide +kernel⟩,
   ⟨up.onHost fun h => { h with restart := some (1, 0, 0) }, _, got (by decide +kernel)⟩⟩

theorem witness_ReferenceSignalsComplete :
    (∃ s : State, ∃ n : Nat, ∃ m due, s.time.pending = some (m, due) ∧ n ≤ due - s.clk ∧ s.sourceLocked m = true)
    ∧ (∃ s : State, ∃ m due, s.time.pending = some (m, due)) :=
  ⟨⟨up.onTime fun t => { t with pending := some (1, 5), refPresent := true }, 5, 1, 5, by decide +kernel⟩,
   ⟨up.onTime fun t => { t with pending := some (1, 5) }, 1, 5, by decide +kernel⟩⟩

theorem witness_TimelinesAndEventsComplete :
    (∃ s : State, ∃ ph, s.time.trks.length = 13 ∧ ph < 4)
    ∧ (∃ s : State, ∃ ph, s.time.trks.length = 13 ∧ ph < 4 ∧ (s.trk (ph + 1)).mode = 0)
    ∧ (∃ s : State, ∃ e ph l, (s.trk (ph + 1)).sigA.last = some l ∧ s.time.trks.length = 13 ∧ ph < 4 ∧ (s.trk (ph + 1)).mode = 1
      ∧ (s.trk (ph + 1)).sigA.level = (s.trk (ph + 1)).polarity ∧ (s.trk (ph + 1)).filterRun ≠ 1023 ∧ s.raw + s.time.addend * e
      / 8 + 1 < l + 24 * nsU)
    ∧ (∃ s : State, ∃ tl r, s.firstLoss = some (tl, r) ∧ s.time.trks.length = 13)
    ∧ (∃ s : State, ∃ slot e f first, minBy (fun p => p.2.2) s.timed = some first ∧ (s.toClockOf first.2.2).timed.filter (fun p
      => decide (p.2.2 < (s.toClockOf first.2.2).now + s.time.addend)) = [(slot, e, f)] ∧ e.op = none ∧ s.time.opsDue = [])
    ∧ (∃ s : State, ∃ slot e f, minBy (fun p => p.2.2) (s.time.evts.filterMap fun p => (s.missTime p.2).map fun t => (p.1, p.2,
      t)) = some (slot, e, f))
    ∧ (∃ s : State, ∃ i r, minBy (·.2) ((List.range 4).filterMap fun i => ((tab s.time.pins i).ends).map fun t => (i, t)) = some
      (i, r)) :=
  ⟨⟨up, 3, by decide +kernel⟩,
   ⟨up, 3, by decide +kernel⟩,
   ⟨up.onTrk 4 fun k => { k with mode := 1, sigA := { k.sigA with last := some 0 } }, 0, 3, _, got (by decide +kernel),
     by decide +kernel⟩,
   ⟨fed, _, _, gotPair (by decide +kernel), by decide +kernel⟩,
   ⟨up.onTime fun t => { t with evts := [(1023, anEvt)] }, 1023, anEvt, 2 * usU, _, got (by decide +kernel), by decide +kernel⟩,
   ⟨up.onTime fun t => { t with evts := [(1023, { anEvt with tl := 12, frozen := some 7 })] }, _, _, _, gotTriple
     (by decide +kernel)⟩,
   ⟨up.onTime fun t => { t with pins := [{}, {}, {}, { ends := some 5 }] }, _, _, gotPair (by decide +kernel)⟩⟩

theorem witness_WellheadPacketsComplete :
    (∃ p : WlPkt, ∃ r : WlRx, ∃ c : Ctx, ∃ s : State, Arrives p r c .pass s ∧ s.cap.ins.length = 8 ∧ r.type = 1)
    ∧ (∃ p : WlPkt, ∃ r : WlRx, ∃ c : Ctx, ∃ s : State, Arrives p r c .pass s ∧ s.cap.ins.length = 8 ∧ r.type = 2)
    ∧ (∃ p : WlPkt, ∃ r : WlRx, ∃ c : Ctx, ∃ s : State, ∃ f l, Arrives p r c .pass s ∧ (s.inp p.input).frame = some f ∧ fld r.h2
      15 0 = l ∧ s.cap.ins.length = 8 ∧ r.type = 3 ∧ (s.inp p.input).line = none ∧ (s.inp p.input).high ≤ l ∧ fld r.h2 31 16 =
      0)
    ∧ (∃ p : WlPkt, ∃ r : WlRx, ∃ c : Ctx, ∃ s : State, ∃ f l, Arrives p r c .pass s ∧ (s.inp p.input).frame = some f ∧ fld r.h2
      15 0 = l ∧ s.cap.ins.length = 8 ∧ r.type = 4 ∧ (s.inp p.input).high ≤ l)
    ∧ (∃ p : WlPkt, ∃ r : WlRx, ∃ c : Ctx, ∃ s : State, Arrives p r c .pass s ∧ s.cap.ins.length = 8 ∧ r.type = 5)
    ∧ (∃ p : WlPkt, ∃ r : WlRx, ∃ c : Ctx, ∃ s : State, Arrives p r c .pass s ∧ s.cap.ins.length = 8 ∧ r.type = 6 ∧ (s.inp
      p.input).inFrame = true ∧ (fld r.h3 31 16 = 1 ∨ fld r.h3 31 16 = 2 ∨ 0x8000 ≤ fld r.h3 31 16) ∧ auxBytes (s.inp
      p.input).aux + r.payload.length + 8 ≤ 2048)
    ∧ (∃ p : WlPkt, ∃ r : WlRx, ∃ c : Ctx, ∃ s : State, ∃ i, Arrives p r c .crcFail s ∧ i ∈ [Instr.wlFormat p, .wlFrameStart p,
      .wlLine p, .wlBlank p, .wlFrameEnd p, .wlAux p]) :=
  ⟨⟨packetOf 0 0x100001 0 0 0 (List.replicate 16 0), _, _, fed, arrives (by decide +kernel) rfl (by decide +kernel), by decide +kernel⟩,
   ⟨sealed 2 0 0 0, _, _, fed, arrives (by decide +kernel) rfl (by decide +kernel), by decide +kernel⟩,
   ⟨packetOf 0 0xA0003 0 0 0 (List.replicate 10 0), _, _, fed.onIn 0 fun x => { x with frame := some 0 }, _, _, arrives
     (by decide +kernel) rfl (by decide +kernel), got (by decide +kernel), rfl, by decide +kernel⟩,
   ⟨sealed 4 0 0 0, _, _, fed.onIn 0 fun x => { x with frame := some 0 }, _, _, arrives (by decide +kernel) rfl (by decide +kernel), got
     (by decide +kernel), rfl, by decide +kernel⟩,
   ⟨sealed 5 0 0 0, _, _, fed.onIn 0 fun x => { x with inFrame := true }, arrives (by decide +kernel) rfl (by decide +kernel), by decide +kernel⟩,
   ⟨sealed 6 0 0 0x10000, _, _, fed.onIn 0 fun x => { x with inFrame := true }, arrives (by decide +kernel) rfl (by decide +kernel),
     by decide +kernel⟩,
   ⟨packetOf 1 6 0 0 0 [], _, _, fed, .wlAux (packetOf 1 6 0 0 0 []), arrives (by decide +kernel) rfl (by decide +kernel), by decide +kernel⟩⟩

theorem witness_AlignmentAndRowsComplete :
    (∃ s : State, ∃ n i since, ∃ b : WlBlock, s.cap.ins.length = 8 ∧ i < 8 ∧ (s.inp i).kind = 1 ∧ (s.inp i).lanes = 1 ∧ (s.inp
      i).good = [1] ∧ (s.inp i).bad.length = 1 ∧ (s.inp i).marks.length = 1 ∧ (s.inp i).aligned = false ∧ (s.pass n).inputTested
      i = false ∧ blockType b = some 0xD2 ∧ (tab (s.inp i).marks 0 = none ∨ since = 16384) ∧ (blockBytes b).getD 1 0 = 0 ∧
      ((blockBytes b).getD 2 0).toNat = (s.inp i).linkId ∧ (blockBytes b).getD 5 0 = 1)
    ∧ (∃ s : State, ∃ i lane, ∃ b : WlBlock, s.cap.ins.length = 8 ∧ i < 8 ∧ (s.inp i).kind = 1 ∧ lane < (s.inp i).lanes ∧ (s.inp
      i).bad.length = (s.inp i).lanes ∧ (s.inp i).aligned = true ∧ tab (s.inp i).bad lane = 2 ∧ blockType b ≠ some 0xD2)
    ∧ (∃ s : State, ∃ d : SdiLine, s.cap.ins.length = 8 ∧ d.input < 8 ∧ (s.inp d.input).kind = 2 ∧ (s.pass d.wait).inputTested
      d.input = false)
    ∧ (∃ s : State, ∃ c r g ipx, minBy (·.2) ((List.range 16).filterMap fun c => (s.neededAt c).map fun t => (c, t)) = some (c,
      r) ∧ (s.ch c).cfg = some g ∧ s.ipOf c = some ipx ∧ s.cap.ins.length = 8 ∧ (s.row? c (s.ch c).needF (s.ch c).needR) = none
      ∧ c < s.enc.chans.length ∧ (s.ch c).needR + 1 < g.ctuRows) :=
  ⟨⟨up.onIn 0 fun _ => { kind := 1, lanes := 1, good := [1], bad := [0], marks := [none] }, 0, 0, 0, block 2 [0xD2, 0, 0, 0, 0,
    1, 0, 0], by decide +kernel⟩,
   ⟨fed.onIn 0 fun x => { x with bad := [2] }, 0, 0, block 2 [0x1E, 0, 0, 0, 0, 0, 0, 0], by decide +kernel⟩,
   ⟨up.onIn 7 fun _ => { kind := 2 }, ⟨7, 0, 0, 0, 0, 0, false, true, 0, 0, 1, 0, 0, 0, [], []⟩, by decide +kernel⟩,
   ⟨rolling, _, _, _, _, gotPair (by decide +kernel), got (by decide +kernel), got (by decide +kernel), by decide +kernel⟩⟩

theorem witness_CompositionCompletes :
    (∃ s : State, ∃ n : Nat, ∃ cm, ∃ u : State, u = (s.pass n).turnRows ∧ cm < s.comp.ptrs.length ∧ u.composable cm ≠ [])
    ∧ (∃ s : State, ∃ x, minBy (fun x => s.composeDeadline x) (s.enc.rows.filter fun x => s.composes x && x.slot.isSome &&
      x.capT.isSome && !x.skip && !x.abandoned && x.composedAt.isNone) = some x ∧ x.chan < s.comp.chans.length)
    ∧ (∃ s : State, ∃ c r, minBy (·.2) ((List.range 16).filterMap fun c => (s.boundaryOf c).map fun t => (c, t)) = some (c, r) ∧
      s.host.armed = [] ∧ s.enc.chans.length = 16)
    ∧ (∃ s : State, ∃ c i k g f hidden rest, ∃ r : Region, minBy (fun p => p.2.2) s.regionsDue = some (c, i, k) ∧ (s.ch c).cfg =
      some g ∧ tab (s.cc c).regions i = r ∧ r.frames = (f, hidden) :: rest ∧ c < s.comp.chans.length ∧ i < (s.cc
      c).regions.length) :=
  ⟨⟨composed, 0, 0, _, rfl, by decide +kernel⟩,
   ⟨composed, _, got (by decide +kernel), by decide +kernel⟩,
   ⟨rolling, _, _, gotPair (by decide +kernel), by decide +kernel⟩,
   ⟨(composed.onEnc fun e => { e with rows := [{ aRow with composedAt := some 5 }] }).onRegion 0 7 fun r =>
     { r with kind := 2, rect := ⟨0, 0, 2, 2⟩, frames := [(0, false)] }, _, _, _, _, 0, false, [], _, gotTriple
     (by decide +kernel), got (by decide +kernel), rfl, by decide +kernel⟩⟩

theorem witness_BlockCopiesComplete :
    (∃ s : State, ∃ b rest, s.blit.running = none ∧ s.blit.queue = b :: rest ∧ s.bufWritable b.dstSurf b.dstBuf = true)
    ∧ (∃ s : State, ∃ n : Nat, ∃ b k, s.blit.running = some (b, k) ∧ (∀ d, b.dl = some d → (s.pass n).now ≤ d) ∧ (s.pass
      n).blitDone = false)
    ∧ (∃ s : State, ∃ n : Nat, ∃ b k df sf, s.surf? b.dstSurf = some df ∧ (s.surf? b.srcSurf).getD df = sf ∧ s.blit.running =
      some (b, k) ∧ (∀ d, b.dl = some d → (s.pass n).now ≤ d) ∧ (s.pass n).blitDone = true)
    ∧ (∃ s : State, ∃ b k r, s.blit.running = some (b, k) ∧ b.dl = some r ∧ b.missed = false)
    ∧ (∃ s : State, ∃ c p, s.blit.deadCh = some c ∧ s.ipOf c = some p ∧ (s.trk (5 + (s.ip p).input)).st = 2 ∧ s.blit.window =
      false ∧ (s.inp (s.ip p).input).lines < (s.trk (5 + (s.ip p).input)).e)
    ∧ (∃ s : State, ∃ c p, s.blit.deadCh = some c ∧ s.ipOf c = some p ∧ (s.trk (5 + (s.ip p).input)).st ≠ 2 ∧ s.blit.offSeen =
      false)
    ∧ (∃ s : State, s.blit.window = true) :=
  ⟨⟨upSurf.onBlit fun b => { b with queue := [aCopy] }, aCopy, [], by decide +kernel⟩,
   ⟨upSurf.onBlit fun b => { b with running := some (aCopy, 0) }, 0, aCopy, 0, by decide +kernel⟩,
   ⟨upSurf.onBlit fun b => { b with running := some (aCopy, 0) }, 9, aCopy, 0, _, _, got (by decide +kernel), rfl, by decide +kernel⟩,
   ⟨upSurf.onBlit fun b => { b with running := some ({ aCopy with dl := some 9 }, 0) }, { aCopy with dl := some 9 }, 0, 9,
     by decide +kernel⟩,
   ⟨fed.onBlit fun b => { b with deadCh := some 0 }, _, _, got (by decide +kernel), got (by decide +kernel), by decide +kernel⟩,
   ⟨(fed.onTrk 5 fun t => { t with st := 1 }).onBlit fun b => { b with deadCh := some 0 }, _, _, got (by decide +kernel), got
     (by decide +kernel), by decide +kernel⟩,
   ⟨up.onBlit fun b => { b with window := true }, by decide +kernel⟩⟩

theorem witness_RowsComplete :
    (∃ s : State, ∃ r u, minBy (·.2) s.rowsToIssue = some (r, u) ∧ s.enc.chans.length = 16)
    ∧ (∃ s : State, ∃ n : Nat, ∃ sd r k g, ∃ u : State, u = (s.pass n).turnRows ∧ minBy (fun p => u.composeDeadline p.1)
      (u.enc.rows.filterMap fun r =>
      match (u.ch r.chan).cfg, (u.bandsOf r.chan).idxOf? sd with | some g, some k => if !r.skip && r.bandStatus k = 3 && r.analysed k < u.linesComposed g r then some (r, k, g) else none | _, _ => none)
      = some (r, k, g) ∧ s.enc.chans.length = 16)
    ∧ (∃ s : State, ∃ r, minBy (fun r => s.composeDeadline r) (s.enc.rows.filter fun r => r.capT.isSome && !r.skip && !s.sounded
      r) = some r ∧ s.enc.chans.length = 16)
    ∧ (∃ s : State, ∃ x, minBy (·.guardT) s.guardable = some x ∧ s.enc.chans.length = 16 ∧ ((s.toTime x.guardT).guardable.filter
      fun y => decide (y.guardT ≤ x.guardT)) = [x])
    ∧ (∃ s : State, ∃ x, minBy (·.deadline) s.unfinished = some x ∧ s.task? x.id = some x ∧ s.enc.chans.length = 16 ∧ (s.ch
      x.chan).cfg.isSome = true ∧ ((s.toTime x.deadline).unfinished.filter fun y => decide (y.deadline ≤ x.deadline)) = [x])
    ∧ (∃ s : State, ∃ c u, minBy (·.2) ((List.range 16).filterMap fun c => (s.stopOf c).map fun t => (c, t)) = some (c, u) ∧
      s.enc.chans.length = 16) :=
  ⟨⟨rowed, _, _, gotPair (by decide +kernel), by decide +kernel⟩,
   ⟨rowed, 0, 0, _, _, _, _, rfl, gotTriple (by decide +kernel), by decide +kernel⟩,
   ⟨rowed, _, got (by decide +kernel), by decide +kernel⟩,
   ⟨tasked, _, got (by decide +kernel), by decide +kernel⟩,
   ⟨tasked, _, got (by decide +kernel), got (by decide +kernel), by decide +kernel⟩,
   ⟨rolling.onCh 0 fun h => { h with last := some 0, frame := some 0 }, _, _, gotPair (by decide +kernel), by decide +kernel⟩⟩

theorem witness_UnitTasksComplete :
    (∃ s : State, ∃ n : Nat, ∃ cls e, firstEnt (s.ds.takable (s.clk + n) (classBase cls + tab s.ds.ptrs cls)) = some e ∧
      s.ds.units.length = 42 ∧ s.enc.engines.length = 16 ∧ cls < 4 ∧ tab s.ds.ptrs cls < classUnits cls ∧ s.ds.ptrs.length = 4 ∧
      (tab s.ds.units (classBase cls + tab s.ds.ptrs cls)).enabled = true ∧ (tab s.ds.units (classBase cls + tab s.ds.ptrs
      cls)).holds = none ∧ classBase cls + tab s.ds.ptrs cls ≠ 28)
    ∧ (∃ s : State, ∃ n : Nat, ∃ u r e x, (tab s.ds.units u).holds.bind s.ent = some e ∧ e.unit = u ∧ s.task? e.desc.payload =
      some x ∧ s.ds.units.length = 42 ∧ s.enc.engines.length = 16 ∧ u < 16 ∧ e.desc.type = 1 ∧ x.guarded = false ∧ (s.pass
      n).codedOk x false r = true)
    ∧ (∃ s : State, ∃ u e, (tab s.ds.units u).holds.bind s.ent = some e ∧ e.unit = u ∧ s.ds.units.length = 42 ∧
      s.enc.engines.length = 16 ∧ u < 42 ∧ e.desc.type = 10)
    ∧ (∃ s : State, ∃ h, s.ds.units.length = 42 ∧ s.enc.engines.length = 16 ∧ s.ds.held = [h] ∧ h.producer ≠ 13 ∧ s.ds.hasCredit
      h.desc = true)
    ∧ (∃ s : State, ∃ u e x, (tab s.ds.units u).holds.bind s.ent = some e ∧ e.unit = u ∧ s.task? e.desc.payload = some x ∧
      s.ds.units.length = 42 ∧ s.enc.engines.length = 16 ∧ u < 16 ∧ e.desc.type = 1 ∧ x.guarded = false ∧ x.retried = false ∧
      x.st = 1 ∧ (tab s.enc.engines u).errors.length < 2)
    ∧ (∃ s : State, ∃ n : Nat, ∃ p r x, (tab s.enc.engines p).path.bind s.task? = some x ∧ s.ds.units.length = 42 ∧
      s.enc.engines.length = 16 ∧ p < 16 ∧ s.entOf 1 x.id = none ∧ (∀ y ∈ s.enc.tasks, y.st ≠ 5) ∧ (s.pass n).codedOk x true r =
      true) :=
  ⟨⟨up.onDs fun d => { d with pool := [anEnt] }, 0, 3, _, got (by decide +kernel), by decide +kernel⟩,
   ⟨coding, 0, 0, aCoded 0, _, _, got (by decide +kernel), rfl, got (by decide +kernel), by decide +kernel⟩,
   ⟨coding.onDs fun d => { d with pool := [{ anEnt with st := 1, desc := { aDesc with type := 10 } }] }, 0, _, got
     (by decide +kernel), rfl, by decide +kernel⟩,
   ⟨up.onDs fun d => { d with held := [⟨12, aDesc, none⟩] }, ⟨12, aDesc, none⟩, by decide +kernel⟩,
   ⟨coding, 0, _, _, got (by decide +kernel), rfl, got (by decide +kernel), by decide +kernel⟩,
   ⟨tiny.onEnc fun e =>
     { e with tasks := [{ aTask with guarded := true }], engines := upd e.engines 0 fun x => { x with path := some 7 } }, 0, 0,
     aCoded 2, _, got (by decide +kernel), by decide +kernel⟩⟩

theorem witness_RateControlAndDispatchTimesComplete :
    (∃ s : State, ∃ first u r p c k d, ∃ l : List (RowRec × Nat × Nat), minBy (·.2.2) s.phaseStarts = some (first, u) ∧ d =
      (s.ch first.chan).dip ∧ l = (s.toTime u.2).phaseStarts.filter (fun x => decide (x.2.2 ≤ (if u.2 ≤ s.now then u.2 else
      (s.toTime u.2).now)) && (s.ch x.1.chan).dip == d) ∧ rotPick (tab s.dip.startPtr d) 16 (l.map (·.1.chan)) = some c ∧ minBy
      (·.2.2) (l.filter (·.1.chan == c)) = some (r, p, k) ∧ d < s.dip.startPtr.length ∧ p ≠ 3)
    ∧ (∃ s : State, ∃ r u, s.enc.shareDue = none ∧ minBy (·.2) ((s.programRows.filter fun r => s.firstPhase r = 1 &&
      !r.phases.contains 2 && !s.hasBudget r).map fun r => ((some r : Option RowRec), s.issueTime r.chan r.start - 10 * usU)) =
      some (some r, u) ∧ r.chan < s.enc.chans.length)
    ∧ (∃ s : State, ∃ i u, minBy (·.2) ((List.range 8).filterMap fun i => if (tab s.enc.groups i).on || (tab s.enc.groups
      i).held.isSome then some (i, (tab s.enc.groups i).due s.now) else none) = some (i, u) ∧ s.enc.groups.length = 8)
    ∧ (∃ s : State, ∃ ref l, s.poolOf false = some (ref, l))
    ∧ (∃ s : State, ∃ ref l, s.poolOf true = some (ref, l) ∧ s.strapRole = 3)
    ∧ (∃ s : State, ∃ e, minBy (fun e => s.ds.dueTime s.now e) ((List.range 4).filterMap fun l => (s.ds.waiting s.now l).head?)
      = some e ∧ s.ds.hasCredit e.desc = true)
    ∧ (∃ s : State, ∃ e, minBy (fun e => e.desc.dl.getD 0) (s.ds.pool.filter fun e => e.st == 0 && !e.passed &&
      e.desc.dl.isSome) = some e)
    ∧ (∃ s : State, ∃ e, minBy (fun e => e.limit s) (s.ds.pool.filter fun e => e.st == 1 && !e.timed) = some e) :=
  ⟨⟨rowed.onEnc fun e => { e with bands := [] }, _, _, _, _, _, _, _, _, gotPair (by decide +kernel), rfl, rfl, got (by decide +kernel), gotTriple
    (by decide +kernel), by decide +kernel⟩,
   ⟨rowed.onCh 0 fun h => { h with clrc := { h.clrc with level := 1 } }, aRow, rowed.issueTime 0 0 - 10 * usU,
     by decide +kernel⟩,
   ⟨up.onEnc fun e => { e with groups := upd e.groups 7 fun g => { g with on := true } }, _, _, gotPair (by decide +kernel),
     by decide +kernel⟩,
   ⟨up.onEnc fun e => { e with reports := [⟨0x41, 0, 0, 0, 0, 0, 0, 0, 0, 0, 0, false⟩] }, _, _, gotPair (by decide +kernel)⟩,
   ⟨{ up with pw := { up.pw with role := 3 } }.onEnc fun e =>
     { e with reports := [⟨0x40, 15, 0, 0, 0xFFFF, 0, 0, 0, 0, 0, 0, false⟩] }, _, _, gotPair (by decide +kernel), by decide +kernel⟩,
   ⟨up.onDs fun d => { d with delays := [⟨1, 0, 0, 5, 1, aDesc, some 5, false, false⟩] }, _, got (by decide +kernel), by decide +kernel⟩,
   ⟨up.onDs fun d => { d with pool := [{ anEnt with desc := { aDesc with dl := some 0 } }] }, _, got (by decide +kernel)⟩,
   ⟨up.onDs fun d => { d with pool := [{ anEnt with st := 1 }] }, _, got (by decide +kernel)⟩⟩

theorem witness_DipperControlCompletes :
    (∃ d : Nat, ∃ s : State, ∃ r : Run, ∃ w : Word, At d 0x28 r w s)
    ∧ (∃ d : Nat, ∃ s : State, ∃ r : Run, ∃ w : Word, At d 0x29 r w s)
    ∧ (∃ d : Nat, ∃ s : State, ∃ r : Run, ∃ w : Word, At d 0x2A r w s ∧ (portOf w = 0x34 ∨ portOf w = 0x35) ∧ portOf w = 0x34)
    ∧ (∃ d : Nat, ∃ s : State, ∃ r : Run, ∃ w : Word, At d 0x2A r w s ∧ portOf w = 0x30)
    ∧ (∃ d : Nat, ∃ s : State, ∃ r : Run, ∃ w : Word, At d 0x2B r w s ∧ ownRow d (portOf w) = false)
    ∧ (∃ d : Nat, ∃ s : State, ∃ r : Run, ∃ w : Word, At d 0x38 r w s ∧ (s.toClk (max r.next s.clk + 4)).pendingFlags d r &&&
      maskOf' w = 0)
    ∧ (∃ d : Nat, ∃ s : State, ∃ r : Run, ∃ w : Word, At d 0x38 r w s ∧ (s.toClk (max r.next s.clk + 4)).pendingFlags d r &&&
      maskOf' w ≠ 0)
    ∧ (∃ d : Nat, ∃ s : State, ∃ r : Run, ∃ q : WaitRec, (s.dp d).run = some r ∧ d < s.dip.dips.length ∧ r.wait = some q)
    ∧ (∃ d : Nat, ∃ s : State, ∃ r : Run, ∃ w : Word, At d 0x39 r w s) :=
  ⟨⟨7, dipAt 7 0xa0000000, aRun, 0xa0000000, atWord (by decide +kernel)⟩,
   ⟨7, dipAt 7 0xa4000000, aRun, 0xa4000000, atWord (by decide +kernel)⟩,
   ⟨7, dipAt 7 0xa8000034, aRun, 0xa8000034, atWord (by decide +kernel), by decide +kernel⟩,
   ⟨7, dipAt 7 0xa8000030, aRun, 0xa8000030, atWord (by decide +kernel), by decide +kernel⟩,
   ⟨7, dipAt 7 0xac000000, aRun, 0xac000000, atWord (by decide +kernel), by decide +kernel⟩,
   ⟨7, dipAt 7 0xe0000000, aRun, 0xe0000000, atWord (by decide +kernel), by decide +kernel⟩,
   ⟨0, (dipAt 0 0xe0004000).onEnc fun e => { e with dones := e.dones.set 0 ([default], false) }, aRun, 0xe0004000, atWord
     (by decide +kernel), by decide +kernel⟩,
   ⟨7, (dipAt 7 0).onDp 7 fun x => { x with run := some { aRun with wait := some ⟨1, 1, 0, 0⟩ } }, _, ⟨1, 1, 0, 0⟩, got
     (by decide +kernel), by decide +kernel⟩,
   ⟨7, dipAt 7 0xe4000000, aRun, 0xe4000000, atWord (by decide +kernel)⟩⟩

theorem witness_DipperRunsComplete :
    (∃ s : State, ∃ d : Nat, ∃ p q rest, (s.dp 6).progs.find? (·.num == q.script) = some p ∧ d < 8 ∧ s.dip.dips.length = 8 ∧
      (s.dp 6).run = none ∧ (s.dp 6).packing = none ∧ s.time.startQ = q :: rest ∧ p.disabled = false ∧ p.broken = false ∧
      p.budgets.getD 0 0 ≠ 0)
    ∧ (∃ s : State, ∃ d : Nat, ∃ e st p, (tab s.ds.units (22 + d)).holds.bind s.ent = some e ∧ s.start? e.desc.payload = some st
      ∧ s.boundProg st.bind = some p ∧ d < 8 ∧ s.dip.dips.length = 8 ∧ d < 4 ∧ (s.dp d).run = none ∧ (s.dp d).packing = none ∧
      p.disabled = false ∧ p.broken = false ∧ p.budgets.getD st.phase 0 ≠ 0)
    ∧ (∃ s : State, ∃ d : Nat, ∃ r, (s.dp d).run = some r ∧ d < 8 ∧ s.dip.dips.length = 8)
    ∧ (∃ s : State, ∃ d : Nat, ∃ id hook, (s.dp d).packing = some (id, hook) ∧ d < 8 ∧ s.dip.dips.length = 8 ∧ (s.dp d).run =
      none)
    ∧ (∃ s : State, ∃ d : Nat, d < 8 ∧ s.dip.dips.length = 8)
    ∧ (∃ s : State, ∃ d : Nat, ∃ k num due rest, d < 8 ∧ s.dip.dips.length = 8 ∧ s.dip.reloads.filter (fun q => (s.dp
      q.1).run.isNone && (s.dp q.1).packing.isNone) = (k, num, due) :: rest)
    ∧ (∃ s : State, ∃ d n : Nat, ∃ q p, checkImage (s.pass (min n (q.clk + 50 * msC - s.clk))) q.dip q.num ((List.range
      q.words).map s.staged) = .ok p ∧ d < 8 ∧ s.dip.dips.length = 8 ∧ s.dip.load = some q ∧ q.dip < 8) :=
  ⟨⟨(up.onDp 6 fun x => { x with progs := [aProg] }).onTime fun t => { t with startQ := [⟨63, 0, 0, 0, 0, 0⟩] }, 7, _, ⟨63, 0,
    0, 0, 0, 0⟩, [], got (by decide +kernel), by decide +kernel⟩,
   ⟨((((up.onDp 3 fun x => { x with progs := [aProg] }).onCh 15 fun h => { h with bind := some ⟨3, true, 63⟩ }).onDip fun x =>
     { x with starts := [⟨9, 3, 2, 15, 0, 0, 0⟩] }).onDs fun d =>
       { d with pool := [{ anEnt with st := 1, desc := { aDesc with payload := 9 } }] }).onUnit 25
     fun u => { u with holds := some 1 }, 3, _, _, _, got (by decide +kernel), got (by decide +kernel), got (by decide +kernel), by decide +kernel⟩,
   ⟨dipAt 7 0, 7, _, got (by decide +kernel), by decide +kernel⟩,
   ⟨up.onDp 4 fun x => { x with packing := some (9, []) }, 4, _, _, gotPair (by decide +kernel), by decide +kernel⟩,
   ⟨up, 7, by decide +kernel⟩,
   ⟨up.onDip fun x => { x with reloads := [(3, 63, 5)] }, 7, 3, 63, 5, [], by decide +kernel⟩,
   ⟨imaged, 3, 0, ⟨3, 63, 7, 0⟩, _, okay aProg (by decide +kernel), by decide +kernel⟩⟩

theorem witness_DipperPortsComplete :
    (∃ s : State, ∃ d : Nat, ∃ r : Run, ∃ w : Word, At d 0x2B r w s ∧ portOf w = 0x0E ∧ d < 4)
    ∧ (∃ s : State, ∃ d : Nat, ∃ r : Run, ∃ w : Word, At d 0x2B r w s ∧ d = 6 ∧ portOf w = 0x10)
    ∧ (∃ s : State, ∃ d : Nat, ∃ r : Run, ∃ w : Word, At d 0x2B r w s ∧ d = 6 ∧ portOf w = 0x12)
    ∧ (∃ s : State, ∃ d : Nat, ∃ r : Run, ∃ w : Word, At d 0x2B r w s ∧ portOf w = 0x36)
    ∧ (∃ s : State, ∃ d : Nat, ∃ r : Run, ∃ w : Word, At d 0x2B r w s ∧ portOf w = 0x37) :=
  ⟨⟨dipAt 3 0xac00000e, 3, aRun, 0xac00000e, atWord (by decide +kernel), by decide +kernel⟩,
   ⟨dipAt 6 0xac000010, 6, aRun, 0xac000010, atWord (by decide +kernel), rfl, by decide +kernel⟩,
   ⟨dipAt 6 0xac000012, 6, aRun, 0xac000012, atWord (by decide +kernel), rfl, by decide +kernel⟩,
   ⟨dipAt 7 0xac000036, 7, aRun, 0xac000036, atWord (by decide +kernel), by decide +kernel⟩,
   ⟨dipAt 7 0xac000037, 7, aRun, 0xac000037, atWord (by decide +kernel), by decide +kernel⟩⟩

theorem witness_DecodeTasksAndFeedsComplete :
    (∃ s : State, ∃ n : Nat, ∃ r g, (s.ch r.chan).cfg = some g ∧ (s.pass n).decodable = [r])
    ∧ (∃ s : State, ∃ u, ∃ res : DecResult, ∃ e r x j decoded, (tab s.ds.units u).holds.bind s.ent = some e ∧ e.unit = u ∧
      s.dec.recs.find? (·.id == e.desc.payload) = some r ∧ s.task? r.task = some x ∧ s.job? x = some j ∧ decoded = planesCrc
      (j.decoded (coLocated (s.chk x.stream).dpb x) res.ctus) ∧ u < s.ds.units.length ∧ e.desc.type = 3 ∧ j.decodedOk res = true
      ∧ s.twin.role ≤ 1 ∧ (s.chk r.stream).st = 0 ∧ r.stream < s.dec.streams.length ∧ res.error = false)
    ∧ (∃ s : State, ∃ r, minBy (·.deadline) (s.dec.recs.filter s.decPending) = some r ∧ s.twin.role ≤ 1 ∧ ((s.toTime
      r.deadline).dec.recs.filter fun q => (s.toTime r.deadline).decPending q && decide (q.deadline ≤ (s.toTime
      r.deadline).now)) = [r] ∧ r.stream < s.dec.streams.length ∧ (s.chk r.stream).st ≠ 3)
    ∧ (∃ s : State, ∃ i, s.dec.feeds.length = 8 ∧ i < 8 ∧ (s.rf i).st ≠ 0)
    ∧ (∃ s : State, ∃ i w k, (s.rf i).next = some k ∧ s.dec.feeds.length = 8 ∧ minBy (fun x => x.2.clk) ((List.range 8).flatMap
      fun i => (s.rf i).window.map fun w => (i, w)) = some (i, w) ∧ (s.rf i).window = [w] ∧ w.pkt.seq < 65536)
    ∧ (∃ s : State, ∃ i u, minBy (·.2) ((List.range 8).filterMap fun i => if 2 ≤ (s.rf i).st then some (i, (s.rf i).heard +
      (s.rf i).timeout * msC) else none) = some (i, u) ∧ s.dec.feeds.length = 8)
    ∧ (∃ s : State, s.dec.feeds.length = 8) :=
  ⟨⟨(going.onDec fun d => { d with recs := [aRec] }).onEnc fun e => { e with tasks := [{ aTask with st := 3 }] }, 0, aRec, _,
    got (by decide +kernel), by decide +kernel⟩,
   ⟨checking, 16, ⟨[⟨0, [List.replicate 64 1]⟩], false, false, [], []⟩, _, _, _, _, _, got (by decide +kernel), rfl, got
     (by decide +kernel), got (by decide +kernel), got (by decide +kernel), rfl, by decide +kernel⟩,
   ⟨up.onDec fun d => { d with recs := [aRec] }, _, got (by decide +kernel), by decide +kernel⟩,
   ⟨up.onFeed 7 fun f => { f with st := 3 }, 7, by decide +kernel⟩,
   ⟨up.onFeed 7 fun f => { f with st := 3, next := some 0, window := [⟨aFeedPkt, 0⟩] }, 7, ⟨aFeedPkt, 0⟩, _, got
     (by decide +kernel), by decide +kernel⟩,
   ⟨up.onFeed 7 fun f => { f with st := 3 }, _, _, gotPair (by decide +kernel), by decide +kernel⟩,
   ⟨up, by decide +kernel⟩⟩

theorem witness_AudioCompletes :
    (∃ s : State, ∃ p, s.aud.ports.length = 4 ∧ p < 4 ∧ (s.ap p).st ≠ 0 ∧ (s.ap p).cfg.leader = false)
    ∧ (∃ s : State, ∃ p, s.aud.ports.length = 4 ∧ p < 4 ∧ (s.ap p).st ≠ 0 ∧ (s.ap p).cfg.leader = true)
    ∧ (∃ s : State, ∃ p, minBy (fun p => (s.ap p).update) s.audOn = some p ∧ s.aud.ports.length = 4)
    ∧ (∃ s : State, ∃ p u, minBy (·.2) (s.audOn.filterMap fun p => (s.ap p).lossAt.map fun t => (p, t)) = some (p, u) ∧
      s.aud.ports.length = 4)
    ∧ (∃ s : State, ∃ p, minBy (fun p => (s.ap p).deadline) s.audOn = some p ∧ s.aud.ports.length = 4) :=
  ⟨⟨up.onAp 3 fun x => { x with st := 3 }, 3, by decide +kernel⟩,
   ⟨up.onAp 3 fun x => { x with st := 3, cfg := { x.cfg with leader := true } }, 3, by decide +kernel⟩,
   ⟨up.onAp 3 fun x => { x with st := 3 }, _, got (by decide +kernel), by decide +kernel⟩,
   ⟨up.onAp 3 fun x => { x with st := 3, any := true }, _, _, gotPair (by decide +kernel), by decide +kernel⟩,
   ⟨up.onAp 3 fun x => { x with st := 3 }, _, got (by decide +kernel), by decide +kernel⟩⟩

theorem witness_PacketsComplete :
    (∃ s : State, ∃ d id hook st, (s.dp d).packing = some (id, hook) ∧ s.start? id = some st ∧ d < s.dip.dips.length ∧
      s.queueRoom st.bind (s.pv st.bind).dual (s.rowBytes st.bind st.frame st.row hook) = true)
    ∧ (∃ s : State, ∃ a, a < 8 ∧ a < s.pkg.audio.length ∧ (s.pa a).on = true ∧ (s.ap (s.pa a).port).st ≠ 0 ∧ s.standby = false ∧
      s.queueRoom (32 + a) (s.pa a).dual 9216 = true ∧ (s.pa a).ts = false ∧ (s.ap (s.pa a).port).next < (s.pa a).next.getD
      (s.ap (s.pa a).port).next + ptimeFrames (s.ap (s.pa a).port).cfg.fs (s.pa a).ptime)
    ∧ (∃ s : State, ∃ a k, (s.pa a).next = some k ∧ a < 8 ∧ a < s.pkg.audio.length ∧ (s.pa a).on = true ∧ (s.ap (s.pa
      a).port).st ≠ 0 ∧ s.standby = false ∧ s.queueRoom (32 + a) (s.pa a).dual 9216 = true ∧ (s.pa a).ts = false ∧ k +
      ptimeFrames (s.ap (s.pa a).port).cfg.fs (s.pa a).ptime ≤ (s.ap (s.pa a).port).next)
    ∧ (∃ s : State, ∃ p u v w q f, s.txTime p = some u ∧ v = s.toTime u ∧ w = (v.txHeads p).foldl (fun s x => s.holdHead p x) v
      ∧ w.choose p ((w.txHeads p).filter fun x => w.startable p x.2.1 x.2.2 && decide ((w.port p).idleAt ≤ w.clk)) = some (q, f)
      ∧ p < 4 ∧ s.net.ports.length = 4)
    ∧ (∃ s : State, ∃ p q, ∃ y : Queue, ∃ f : QFrame, p < 4 ∧ s.net.ports.length = 4 ∧ q < s.net.queues.length ∧ minBy (fun x =>
      x.2.2.release) (s.doomed p) = some (q, y, f)) :=
  ⟨⟨(made.onDp 5 fun x => { x with packing := some (9, []) }).onDip fun x => { x with starts := [⟨9, 5, 4, 0, 0, 0, 0⟩] }, 5, _,
    _, _, gotPair (by decide +kernel), got (by decide +kernel), by decide +kernel⟩,
   ⟨(up.onAp 0 fun x => { x with st := 1 }).onPa 7 fun x => { x with on := true }, 7, by decide +kernel⟩,
   ⟨(up.onAp 0 fun x => { x with st := 1, next := 1000 }).onPa 7 fun x => { x with on := true, next := some 0 }, 7, _, got
     (by decide +kernel), by decide +kernel⟩,
   ⟨ported.onQueue 192 fun y => { y with frames := [aFrame] }, 3, _, _, _, _, _, got (by decide +kernel), rfl, rfl, gotPair
     (by decide +kernel), by decide +kernel⟩,
   ⟨up.onQueue 255 fun y => { y with frames := [aFrame] }, 3, 255, (up.onQueue 255 fun y => { y with frames := [aFrame] }).queue
     255, aFrame, by decide +kernel⟩⟩

theorem witness_PortSignalsComplete :
    (∃ s : State, ∃ p : Nat, ∃ f : RxFrame, p < 4 ∧ s.net.ports.length = 4 ∧ s.hears p = true ∧ f.badCodewords ≠ 0)
    ∧ (∃ s : State, ∃ p : Nat, ∃ f : RxFrame, p < 4 ∧ s.net.ports.length = 4 ∧ s.hears p = true ∧ f.badCodewords = 0 ∧ f.pause =
      true)
    ∧ (∃ s : State, ∃ n p : Nat, ∃ f : RxFrame, p < 4 ∧ s.net.ports.length = 4 ∧ s.hears p = true ∧ f.badCodewords = 0 ∧ f.pause
      = false ∧ (s.pass n).ingress p f = none)
    ∧ (∃ s : State, ∃ n p : Nat, ∃ f : RxFrame, ∃ k, (s.pass n).ingress p f = some k ∧ p < 4 ∧ s.net.ports.length = 4 ∧ s.hears
      p = true ∧ f.badCodewords = 0 ∧ f.pause = false ∧ k < (s.port p).policers.length)
    ∧ (∃ s : State, ∃ p : Nat, ∃ kind a, p < 4 ∧ s.net.ports.length = 4 ∧ s.hears p = true ∧ 1 ≤ kind ∧ kind ≤ 4 ∧ s.answersFor
      p (kind == 2 || kind == 4) a = true)
    ∧ (∃ s : State, ∃ p : Nat, p < 4 ∧ s.net.ports.length = 4 ∧ (s.port p).up = true)
    ∧ (∃ s : State, ∃ p : Nat, p < 4 ∧ s.net.ports.length = 4 ∧ (s.port p).up = false ∧ s.portTested p = false)
    ∧ (∃ s : State, ∃ p : Nat, ∃ x, minBy id ((List.range 4).filterMap fun p => (s.port p).badAt) = some x ∧ (s.port p).badAt =
      some x ∧ p < 4 ∧ s.net.ports.length = 4 ∧ x < (s.toTime ((x + 1) * secU)).second)
    ∧ (∃ s : State, ∃ p : Nat, ∃ q g, minBy (·.2.start) ((List.range 4).filterMap fun p => (s.port p).nextGates.map fun g => (p,
      g)) = some (q, g) ∧ p < 4 ∧ s.net.ports.length = 4)
    ∧ (∃ s : State, ∃ p : Nat, ∃ u, minBy id ((List.range 4).filterMap fun p =>
      match (s.port p).gates with | some g => (g.entry s.now).map (·.2.1) | none => none) = some u ∧ p < 4 ∧ s.net.ports.length
      = 4) :=
  ⟨⟨ported, 3, ⟨64, 1, 0, false, 0, false, [], none, 0⟩, by decide +kernel⟩,
   ⟨ported, 3, ⟨64, 0, 0, true, 0, false, [], none, 0⟩, by decide +kernel⟩,
   ⟨ported, 0, 3, ⟨64, 0, 0, false, 0, false, [], none, 0⟩, by decide +kernel⟩,
   ⟨ported, 0, 3, ⟨64, 0, 0, false, 0, false, [], none, 1⟩, _, got (by decide +kernel), by decide +kernel⟩,
   ⟨ported, 3, 1, [0], by decide +kernel⟩,
   ⟨ported, 3, by decide +kernel⟩,
   ⟨up, 3, by decide +kernel⟩,
   ⟨up.onPort 3 fun x => { x with badAt := some 0 }, 3, _, got (by decide +kernel), got (by decide +kernel), by decide +kernel⟩,
   ⟨up.onPort 3 fun x => { x with nextGates := some ⟨[125], 0, 1000⟩ }, 3, _, _, gotPair (by decide +kernel), by decide +kernel⟩,
   ⟨up.onPort 3 fun x => { x with gates := some ⟨[125], 0, 1000⟩ }, 3, _, got (by decide +kernel), by decide +kernel⟩⟩

theorem witness_PtpCompletes :
    (∃ s : State, ∃ m : PtpMsg, s.time.opsDue = [] ∧ (s.pass m.wait).fromLeader m = true ∧ m.twoStep = true ∧ s.net.ptp.st ≠ 1)
    ∧ (∃ s : State, ∃ m : PtpMsg, s.time.opsDue = [] ∧ (s.pass m.wait).fromLeader m = true ∧ m.twoStep = true ∧ s.net.ptp.st =
      1)
    ∧ (∃ s : State, ∃ m : PtpMsg, s.time.opsDue = [] ∧ (s.pass m.wait).fromLeader m = true ∧ m.twoStep = false ∧ s.net.ptp.st =
      3 ∧ s.net.ptp.delays ≠ [] ∧ s.net.ptp.jumps (s.net.ptp.offsetOf ((s.pass m.wait).rxStamp m.port) (m.time * nsU + corrU
      m.correction)) = false)
    ∧ (∃ s : State, ∃ m : PtpMsg, ∃ rx c : Int, s.time.opsDue = [] ∧ (s.pass m.wait).fromLeader m = true ∧ s.net.ptp.sync = some
      (m.seq, rx, c) ∧ s.net.ptp.st = 3 ∧ s.net.ptp.delays ≠ [] ∧ s.net.ptp.jumps (s.net.ptp.offsetOf rx (m.time * nsU + corrU
      m.correction + c)) = false)
    ∧ (∃ s : State, ∃ m : PtpMsg, ∃ q : Nat, ∃ t3 rx origin : Int, s.time.opsDue = [] ∧ (s.pass m.wait).fromLeader m = true ∧
      s.net.ptp.delayReq = some (q, t3) ∧ q = m.seq ∧ s.net.ptp.last = some (rx, origin) ∧ s.net.ptp.st = 3)
    ∧ (∃ s : State, ∃ m : PtpMsg, s.time.opsDue = [] ∧ (s.pass m.wait).ptpHears m = true ∧ s.net.ptp.st = 6)
    ∧ (∃ s : State, ∃ m : PtpMsg, ∃ d : DataSet, s.time.opsDue = [] ∧ (s.pass m.wait).ptpHears m = true ∧ d = ⟨m.prio1, m.cls,
      m.accuracy, m.variance, m.prio2, m.grand, m.steps, m.sender⟩ ∧ (s.net.ptp.st = 1 ∧ s.net.ptp.leader = none ∨ s.net.ptp.st
      = 6) ∧ (s.net.ptp.cfg.followerOnly = true ∨ d.better s.net.ptp.cfg.own = true))
    ∧ (∃ s : State, ∃ m : PtpMsg, ∃ d : DataSet, s.time.opsDue = [] ∧ (s.pass m.wait).ptpHears m = true ∧ d = ⟨m.prio1, m.cls,
      m.accuracy, m.variance, m.prio2, m.grand, m.steps, m.sender⟩ ∧ (s.net.ptp.st = 1 ∧ s.net.ptp.leader = none ∨ s.net.ptp.st
      = 6) ∧ s.net.ptp.cfg.followerOnly = false ∧ d.better s.net.ptp.cfg.own = false)
    ∧ (∃ s : State, 2 ≤ s.net.ptp.st ∧ s.net.ptp.st ≤ 4)
    ∧ (∃ s : State, s.net.ptp.st = 1 ∧ s.net.ptp.leader = none ∧ s.net.ptp.cfg.followerOnly = false)
    ∧ (∃ s : State, s.net.ptp.st = 6) :=
  ⟨⟨hearing 3 false, aMsg true, rfl, led (by decide) _ _, rfl, by decide⟩,
   ⟨hearing 1 false, aMsg true, rfl, led (by decide) _ _, rfl, rfl⟩,
   ⟨hearing 3 false, aMsg false, rfl, led (by decide) _ _, rfl, rfl, List.cons_ne_nil _ _, by decide +kernel⟩,
   ⟨hearing 3 false, aMsg false, 0, 0, rfl, led (by decide) _ _, rfl, rfl, List.cons_ne_nil _ _, by decide +kernel⟩,
   ⟨hearing 3 false, aMsg false, 5, 0, 0, 0, rfl, led (by decide) _ _, rfl, rfl, rfl, by decide +kernel⟩,
   ⟨hearing 6 false, aMsg false, rfl, hears _ _ _, rfl⟩,
   ⟨hearing 6 true, aMsg false, theirs, rfl, hears _ _ _, rfl, .inr rfl, .inl rfl⟩,
   ⟨hearing 6 false, aMsg false, theirs, rfl, hears _ _ _, rfl, .inr rfl, rfl, by simp [DataSet.better, PtpCfg.own, theirs,
     lexLt]⟩,
   ⟨hearing 3 false, by decide +kernel⟩,
   ⟨(hearing 1 false).onPtp fun p => { p with leader := none }, by decide +kernel⟩,
   ⟨hearing 6 false, by decide +kernel⟩⟩

theorem witness_LaneSignalsComplete :
    (∃ s : State, ∃ l : Nat, l < 34 ∧ s.lane.lanes.length = 34 ∧ (s.lan l).st = 3 ∧ (s.lan l).locked = true)
    ∧ (∃ s : State, ∃ l : Nat, l < 34 ∧ s.lane.lanes.length = 34)
    ∧ (∃ s : State, ∃ l : Nat, l < 34 ∧ s.lane.lanes.length = 34 ∧ (s.lan l).st = 3)
    ∧ (∃ s : State, ∃ n l : Nat, l < 34 ∧ s.lane.lanes.length = 34 ∧ ((s.lan l).st = 2 ∨ ((s.lan l).st = 5 ∧ s.clk + n ≤ (s.lan
      l).exitFrom + usC)))
    ∧ (∃ s : State, ∃ n l : Nat, l < 34 ∧ s.lane.lanes.length = 34 ∧ (s.pass n).laneBlocks l = true)
    ∧ (∃ s : State, ∃ l : Nat, ∃ k, minBy (fun l => (s.lan l).exitEnd) ((List.range 34).filter fun l => (s.lan l).st == 5) =
      some k ∧ l < 34 ∧ s.lane.lanes.length = 34)
    ∧ (∃ s : State, ∃ l : Nat, ∃ k, minBy (fun l => (s.lan l).trainEnd) ((List.range 30).filter fun l => (s.lan l).st == 2) =
      some k ∧ l < 34 ∧ s.lane.lanes.length = 34)
    ∧ (∃ s : State, ∃ l : Nat, ∃ e, l < 34 ∧ s.lane.lanes.length = 34 ∧ (s.lan l).test ≠ 0 ∧ e ≠ 0)
    ∧ (∃ s : State, ∃ l : Nat, ∃ pre main post, l < 34 ∧ s.lane.lanes.length = 34 ∧ 30 ≤ l ∧ (pre ≤ 15 ∧ post ≤ 21 ∧ pre + post
      ≤ 21 ∧ main + pre + post = 63))
    ∧ (∃ s : State, ∃ l : Nat, ∃ pre main post, l < 34 ∧ s.lane.lanes.length = 34 ∧ 30 ≤ l ∧ ¬ (pre ≤ 15 ∧ post ≤ 21 ∧ pre +
      post ≤ 21 ∧ main + pre + post = 63)) :=
  ⟨⟨up.onLan 33 fun x => { x with st := 3, locked := true }, 33, by decide +kernel⟩,
   ⟨up, 33, by decide +kernel⟩,
   ⟨up.onLan 33 fun x => { x with st := 3 }, 33, by decide +kernel⟩,
   ⟨up.onLan 33 fun x => { x with st := 2 }, 0, 33, by decide +kernel⟩,
   ⟨up, 0, 29, by decide +kernel⟩,
   ⟨up.onLan 33 fun x => { x with st := 5 }, 0, _, got (by decide +kernel), by decide +kernel⟩,
   ⟨up.onLan 29 fun x => { x with st := 2 }, 0, _, got (by decide +kernel), by decide +kernel⟩,
   ⟨up.onLan 33 fun x => { x with test := 1 }, 33, 1, by decide +kernel⟩,
   ⟨up, 30, 15, 42, 6, by decide +kernel⟩,
   ⟨up, 30, 16, 41, 6, by decide +kernel⟩⟩

theorem witness_TwinHeartbeatsComplete :
    (∃ s : State, s.twin.role ≠ 0 ∧ (s.flt.safe = none ∨ s.twin.role ≠ 1))
    ∧ (∃ s : State, ∃ f ws w, Twinned f tHeartbeat s ∧ ws = payloadWords f.payload ∧ w = ws.getD 0 0 ∧ s.twin.role ≠ 0 ∧ fld w
      31 24 ≠ 0 ∧ bit w 16 = false ∧ bit w 17 = false ∧ bit w 19 = false ∧ bit w 20 = false ∧ s.twin.seen ≠ some (fld w 15 0))
    ∧ (∃ s : State, ∃ a b, s.twin.link = some a ∧ s.twin.path = some b ∧ s.twin.role ≠ 0 ∧ a < b ∧ s.clk < b + 4 * usC)
    ∧ (∃ s : State, ∃ a, s.twin.link = some a ∧ s.twin.role ≠ 0 ∧ s.twin.path = none ∧ s.twin.role = 1)
    ∧ (∃ s : State, ∃ a, s.twin.link = some a ∧ s.twin.role ≠ 0 ∧ s.twin.path = none ∧ 2 ≤ s.twin.role ∧ s.twin.takeover = none)
    ∧ (∃ s : State, ∃ began cause locked, s.twin.takeover = some (began, cause, locked))
    ∧ (∃ s : State, ∃ n l since, ∃ b : WlBlock, ∃ count, markerOf b s.twin.marks 2 l since (b01 (!s.selB)) 4 (s.pass n).raw =
      (count, true) ∧ (∀ k, k < 4 → k ≠ l → 2 ≤ tab s.twin.good k ∧ ∃ x, tab s.twin.marks k = some (count, x)) ∧ l ≤ 3 ∧
      s.twin.aligned = false ∧ s.twin.good.length = 4 ∧ s.twin.marks.length = 4 ∧ blockType b = some 0xD2 ∧ 1 ≤ tab s.twin.good
      l)
    ∧ (∃ s : State, ∃ l, ∃ b : WlBlock, l ≤ 3 ∧ s.twin.aligned = true ∧ s.twin.bad.length = 4 ∧ 2 ≤ tab s.twin.bad l ∧ blockType
      b ≠ some 0xD2) :=
  ⟨⟨paired 1, by decide +kernel⟩,
   ⟨paired 3, twin 1 [1, 0, 0, 1, 0, 0, 0, 0], _, _, twinned (by decide +kernel), rfl, rfl, by decide +kernel⟩,
   ⟨(paired 1).onTwin fun t => { t with link := some 0, path := some 1 }, _, _, got (by decide +kernel), got (by decide +kernel),
     by decide +kernel⟩,
   ⟨(paired 1).onTwin fun t => { t with link := some 0 }, _, got (by decide +kernel), by decide +kernel⟩,
   ⟨(paired 3).onTwin fun t => { t with link := some 0 }, _, got (by decide +kernel), by decide +kernel⟩,
   ⟨(paired 3).onTwin fun t => { t with takeover := some (0, 0, false) }, _, _, _, gotTriple (by decide +kernel)⟩,
   ⟨up.onTwin fun t => { t with good := [1, 2, 2, 2], marks := [none, some (0, 0), some (0, 0), some (0, 0)] }, 0, 0, 0, block 2
     [0xD2, 0, 1, 0, 0, 4, 0, 0], 0, rfl, fun k a b =>
     match k, a, b with | 0, _, b => absurd rfl b | 1, _, _ => ⟨by decide, 0, rfl⟩ | 2, _, _ => ⟨by decide, 0, rfl⟩ | 3, _, _ => ⟨by decide, 0, rfl⟩ | k + 4, a, _ => absurd a (by omega), by decide +kernel⟩,
   ⟨(paired 1).onTwin fun t => { t with bad := [0, 0, 0, 2] }, 3, block 1 [], by decide +kernel⟩⟩

theorem witness_TwinFramesComplete :
    (∃ f : TwinFrame, ∃ s u : State, ∃ c fr r : Nat, u = s.twinTook f ∧ rowOfFrame f = (c, fr, r) ∧ Twinned f tIssue s ∧
      s.twin.role ≠ 0)
    ∧ (∃ f : TwinFrame, ∃ s u : State, ∃ c fr r : Nat, u = s.twinTook f ∧ rowOfFrame f = (c, fr, r) ∧ Twinned f tSlice s ∧
      s.twin.role ≠ 0 ∧ (s.shadow c fr r).fin = none)
    ∧ (∃ f : TwinFrame, ∃ s u : State, ∃ c fr r : Nat, u = s.twinTook f ∧ rowOfFrame f = (c, fr, r) ∧ Twinned f tRowState s ∧
      s.twin.role ≠ 0 ∧ (s.shadow c fr r).fin = none)
    ∧ (∃ f : TwinFrame, ∃ s u : State, ∃ c fr r : Nat, ∃ h, u = s.twinTook f ∧ rowOfFrame f = (c, fr, r) ∧ Twinned f tRowEnd s ∧
      h =
      { s.shadow c fr r with fin := some (((payloadWords f.payload).getD 0 0).toNat, ((payloadWords f.payload).getD 1 0).toNat) }
      ∧ s.twin.role ≠ 0 ∧ s.issue? c fr r = none)
    ∧ (∃ f : TwinFrame, ∃ s u : State, ∃ c fr r : Nat, ∃ h x, u = s.twinTook f ∧ rowOfFrame f = (c, fr, r) ∧ Twinned f tRowEnd s
      ∧ h =
      { s.shadow c fr r with fin := some (((payloadWords f.payload).getD 0 0).toNat, ((payloadWords f.payload).getD 1 0).toNat) }
      ∧ s.twin.role ≠ 0 ∧ s.issue? c fr r = some x ∧ h.complete = true)
    ∧ (∃ f : TwinFrame, ∃ s u : State, ∃ c fr r : Nat, u = s.twinTook f ∧ rowOfFrame f = (c, fr, r) ∧ Twinned f tMirror s ∧
      s.twin.role = 1)
    ∧ (∃ f : TwinFrame, ∃ s u : State, ∃ c fr r : Nat, ∃ x : Cmd, ∃ y : Res, u = s.twinTook f ∧ rowOfFrame f = (c, fr, r) ∧
      Twinned f tMirror s ∧ judge handlerOf (.mirror f.h1.toNat) x u = y ∧ 2 ≤ s.twin.role)
    ∧ (∃ f : TwinFrame, ∃ s u : State, ∃ c fr r : Nat, ∃ p : Partner, ∃ st code, u = s.twinTook f ∧ rowOfFrame f = (c, fr, r) ∧
      Twinned f tSpdm s ∧ u.pairCheck p = some (st, code) ∧ s.twin.pairing.isSome = true)
    ∧ (∃ f : TwinFrame, ∃ s u : State, ∃ c fr r : Nat, ∃ p : Partner, u = s.twinTook f ∧ rowOfFrame f = (c, fr, r) ∧ Twinned f
      tSpdm s ∧ s.twin.pairing.isSome = true ∧ u.pairCheck p = none) :=
  ⟨⟨twin 2 (List.replicate 28 0), paired 3, _, _, _, _, rfl, rfl, twinned (by decide +kernel), by decide +kernel⟩,
   ⟨twin 3 [1, 2, 3, 4], paired 3, _, _, _, _, rfl, rfl, twinned (by decide +kernel), by decide +kernel⟩,
   ⟨twin 4 [1, 2, 3, 4], paired 2, _, _, _, _, rfl, rfl, twinned (by decide +kernel), by decide +kernel⟩,
   ⟨twin 5 (List.replicate 8 0), paired 3, _, _, _, _, _, rfl, rfl, twinned (by decide +kernel), rfl, by decide +kernel⟩,
   ⟨twin 5 ([1, 0, 0, 0] ++ leBytes 4 (crc32c [1, 2, 3, 4])), (paired 3).onTwin fun t =>
     { t with issues := [⟨0, 0, 0, []⟩], shadows := [⟨0, 0, 0, [⟨0, true, 0, [1, 2, 3, 4], none⟩], none⟩] }, _, _, _, _, _, ⟨0,
     0, 0, []⟩, rfl, rfl, twinned (by decide +kernel), rfl, by decide +kernel⟩,
   ⟨twin 6 [0, 0, 0, 0], paired 1, _, _, _, _, rfl, rfl, twinned (by decide +kernel), by decide +kernel⟩,
   ⟨twin 6 [0, 0, 0, 0], paired 3, _, _, _, _, ⟨0x0510, sl [1, 0, 0, 0]⟩, _, rfl, rfl, twinned (by decide +kernel), rfl,
     by decide +kernel⟩,
   ⟨twin 7 [0, 0, 0, 0], (paired 0).onTwin fun t => { t with pairing := some 0 }, _, _, _, _, partner false, _, _, rfl, rfl,
     twinned (by decide +kernel), gotPair (by decide +kernel), by decide +kernel⟩,
   ⟨twin 7 [0, 0, 0, 0], (paired 0).onTwin fun t => { t with pairing := some 0 }, _, _, _, _, partner true, rfl, rfl, twinned
     (by decide +kernel), by decide +kernel⟩⟩

theorem witness_TwinTimesComplete :
    (∃ s : State, ∃ f, minBy (·.clk) s.twin.sent = some f ∧ s.twin.role ≠ 0)
    ∧ (∃ s : State, ∃ r, minBy s.applyBy s.unapplied = some r)
    ∧ (∃ s : State, ∃ h, s.twin.hand = some h ∧ h.asked = none ∧ s.twin.role = 1 ∧ h.cause = 0)
    ∧ (∃ s : State, ∃ h, s.twin.hand = some h ∧ h.asked = none ∧ s.twin.role = 1 ∧ h.cause ≠ 0)
    ∧ (∃ s : State, ∃ h, s.twin.hand = some h ∧ h.asked = none ∧ 2 ≤ s.twin.role ∧ h.cause = 0)
    ∧ (∃ s : State, ∃ h, s.twin.hand = some h ∧ h.asked = none ∧ 2 ≤ s.twin.role ∧ h.cause ≠ 0 ∧ s.twin.takeover = none)
    ∧ (∃ s : State, ∃ k, s.twin.nextSwap = some k ∧ s.twin.role = 1 ∧ s.twin.hand = none)
    ∧ (∃ s : State, ∃ a, s.twin.hand.bind (·.asked) = some a)
    ∧ (∃ s : State, ∃ k, s.twin.pairing = some k)
    ∧ (∃ s : State, ∃ m, minBy (·.clk) s.twin.mirrors = some m) :=
  ⟨⟨(paired 3).onTwin fun t => { t with sent := [⟨0, 3, [], 7⟩] }, _, got (by decide +kernel), by decide +kernel⟩,
   ⟨{ rowed with twin := { rowed.twin with role := 3, shift := List.replicate 16 0 } }, _, got (by decide +kernel)⟩,
   ⟨(paired 1).onTwin fun t => { t with hand := some ⟨9, 0, [], none, false⟩ }, ⟨9, 0, [], none, false⟩, by decide +kernel⟩,
   ⟨(paired 1).onTwin fun t => { t with hand := some ⟨9, 2, [], none, false⟩ }, ⟨9, 2, [], none, false⟩, by decide +kernel⟩,
   ⟨(paired 3).onTwin fun t => { t with hand := some ⟨9, 0, [], none, false⟩ }, ⟨9, 0, [], none, false⟩, by decide +kernel⟩,
   ⟨(paired 3).onTwin fun t => { t with hand := some ⟨9, 3, [], none, true⟩ }, ⟨9, 3, [], none, true⟩, by decide +kernel⟩,
   ⟨(paired 1).onTwin fun t => { t with nextSwap := some 0, swapPeriod := 2 }, 0, by decide +kernel⟩,
   ⟨(paired 1).onTwin fun t => { t with hand := some ⟨9, 0, [], some 3, false⟩ }, 3, by decide +kernel⟩,
   ⟨up.onTwin fun t => { t with pairing := some 3 }, 3, by decide +kernel⟩,
   ⟨(paired 1).onTwin fun t => { t with mirrors := [⟨4, 0x400, 3⟩] }, _, got (by decide +kernel)⟩⟩

theorem witness_SkovlinkFramesComplete :
    (∃ f : SkovFrame, ∃ h : Hdr, ∃ s u : State, ∃ m : Member, Skovved f s ∧ h = hdrOf f ∧ u = s.skovTook f ∧ m = s.member h.src
      h.twinB ∧ h.type = 1 ∧ h.sub = 0 ∧ s.isManager = true ∧ (m.st = 0 ∨ m.st = 5))
    ∧ (∃ f : SkovFrame, ∃ h : Hdr, ∃ s u : State, ∃ m : Member, ∃ n whole, Skovved f s ∧ h = hdrOf f ∧ u = s.skovTook f ∧ m =
      s.member h.src h.twinB ∧ skovParts s.cl.spdm f = (n, whole) ∧ h.type = 1 ∧ h.sub = 1 ∧ some h.src = s.managerId ∧
      s.cl.refused = false ∧ s.cl.on = true)
    ∧ (∃ f : SkovFrame, ∃ h : Hdr, ∃ s u : State, ∃ m : Member, ∃ n, ∃ d : Finding, Skovved f s ∧ h = hdrOf f ∧ u = s.skovTook f
      ∧ m = s.member h.src h.twinB ∧ skovParts m.spdm f = (n, true) ∧ h.type = 1 ∧ h.sub = 2 ∧ s.isManager = true ∧ some h.src ≠
      s.managerId ∧ m.st = 1 ∧ d.chain = true ∧ d.signature = true ∧ m.role = (s.entry h.src).role ∧ d.digest = (if h.twinB then
      (s.entry h.src).digestB else (s.entry h.src).digestA) ∧ (s.cl.sameFw = false ∨ d.firmware = true))
    ∧ (∃ f : SkovFrame, ∃ h : Hdr, ∃ s u : State, ∃ m : Member, ∃ n, ∃ d : Finding, Skovved f s ∧ h = hdrOf f ∧ u = s.skovTook f
      ∧ m = s.member h.src h.twinB ∧ skovParts m.spdm f = (n, true) ∧ h.type = 1 ∧ h.sub = 2 ∧ s.isManager = true ∧ some h.src ≠
      s.managerId ∧ m.st = 1 ∧ d.chain = true ∧ d.signature = true ∧ m.role = (s.entry h.src).role ∧ d.digest ≠ (if h.twinB then
      (s.entry h.src).digestB else (s.entry h.src).digestA))
    ∧ (∃ f : SkovFrame, ∃ h : Hdr, ∃ s u : State, ∃ m : Member, Skovved f s ∧ h = hdrOf f ∧ u = s.skovTook f ∧ m = s.member
      h.src h.twinB ∧ h.type = 1 ∧ h.sub = 3 ∧ some h.src = s.managerId ∧ s.cl.refused = false)
    ∧ (∃ f : SkovFrame, ∃ h : Hdr, ∃ s u : State, ∃ m : Member, Skovved f s ∧ h = hdrOf f ∧ u = s.skovTook f ∧ m = s.member
      h.src h.twinB ∧ h.type = 2 ∧ h.group = false ∧ h.dst = s.myId ∧ h.sub = 0 ∧ u.trusts h = true ∧ s.twin.role < 2 ∧ s.pw.on
      = true ∧ s.host.fwReady = true ∧ s.host.fenced = none ∧ s.host.waiting = [] ∧ ((cmdOf f.payload).vx.fence = true → s.quiet
      = true))
    ∧ (∃ f : SkovFrame, ∃ h : Hdr, ∃ s u : State, ∃ m : Member, ∃ r, Skovved f s ∧ h = hdrOf f ∧ u = s.skovTook f ∧ m = s.member
      h.src h.twinB ∧ h.type = 2 ∧ h.group = false ∧ h.dst = s.myId ∧ h.sub = 1 ∧ s.host.remotes.find? (fun r => r.dest == h.src
      && r.cmd.vx.tag == h.tag) = some r)
    ∧ (∃ f : SkovFrame, ∃ h : Hdr, ∃ s u : State, ∃ m : Member, ∃ n, Skovved f s ∧ h = hdrOf f ∧ u = s.skovTook f ∧ m = s.member
      h.src h.twinB ∧ n = fld (f.payload.getD 0 0) 31 24 ∧ h.type = 3 ∧ h.sub = 0 ∧ s.isManager = true ∧ s.standby = false ∧
      m.st = 2)
    ∧ (∃ f : SkovFrame, ∃ h : Hdr, ∃ s u : State, ∃ m : Member, Skovved f s ∧ h = hdrOf f ∧ u = s.skovTook f ∧ m = s.member
      h.src h.twinB ∧ h.type = 4 ∧ h.sub = 0 ∧ some h.src = s.managerId ∧ s.strapRole = 2)
    ∧ (∃ f : SkovFrame, ∃ h : Hdr, ∃ s u : State, ∃ m : Member, Skovved f s ∧ h = hdrOf f ∧ u = s.skovTook f ∧ m = s.member
      h.src h.twinB ∧ h.type = 9 ∧ h.sub = 1 ∧ some h.src = s.managerId)
    ∧ (∃ f : SkovFrame, ∃ h : Hdr, ∃ s u : State, ∃ m : Member, Skovved f s ∧ h = hdrOf f ∧ u = s.skovTook f ∧ m = s.member
      h.src h.twinB ∧ h.type = 9 ∧ h.sub = 0 ∧ s.twin.role ≠ 0 ∧ f.port = s.beatPort ∧ h.src = s.myId ∧ s.twin.seen = some (fld
      (f.payload.getD 0 0) 15 0)) :=
  ⟨⟨skov 1 0x41 0x40 0 0 [0x1000, 5, 6, 7], _, bossOf 0, _, _, skovved (by decide +kernel), rfl, rfl, rfl, by decide +kernel⟩,
   ⟨skov 1 0x40 0x41 1 0 [4, 9], _, worker, _, _, 0, true, skovved (by decide +kernel), rfl, rfl, rfl, rfl, by decide +kernel⟩,
   ⟨skov 1 0x41 0x40 2 0 [4, 9], _, bossOf 1, _, _, 0, ⟨true, true, List.replicate 12 0, false⟩, skovved (by decide +kernel), rfl, rfl,
     rfl, rfl, by decide +kernel⟩,
   ⟨skov 1 0x41 0x40 2 0 [4, 9], _, bossOf 1, _, _, 0, ⟨true, true, List.replicate 12 1, false⟩, skovved (by decide +kernel), rfl, rfl,
     rfl, rfl, by decide +kernel⟩,
   ⟨skov 1 0x40 0x41 3 0 [], _, worker, _, _, skovved (by decide +kernel), rfl, rfl, rfl, by decide +kernel⟩,
   ⟨skov 2 0x40 0x41 0 9 (cmdWords ⟨0, sl []⟩), _, worker, _, _, skovved (by decide +kernel), rfl, rfl, rfl, by decide +kernel⟩,
   ⟨skov 2 0x41 0x40 1 7 (List.replicate 16 0), _, (bossOf 2).onHost fun h => { h with remotes := [aRemote] }, _, _, aRemote,
     skovved (by decide +kernel), rfl, rfl, rfl, by decide +kernel⟩,
   ⟨skov 3 0x41 0x40 0 0 [0x01000000, 0, 0, 0x00050000, 300, 400], _, bossOf 2, _, _, _, skovved (by decide +kernel), rfl, rfl, rfl, rfl,
     by decide +kernel⟩,
   ⟨skov 4 0 0x40 0 0 [0, 0, 0, 0, 900], _, boss, _, _, skovved (by decide +kernel), rfl, rfl, rfl, by decide +kernel⟩,
   ⟨skov 9 0x40 0x41 1 0 [], _, worker, _, _, skovved (by decide +kernel), rfl, rfl, rfl, by decide +kernel⟩,
   ⟨skov 9 0x41 0x41 0x40 0 [5], _, worker.onTwin fun t => { t with role := 1, seen := some 5 }, _, _, skovved
     (by decide +kernel), rfl, rfl, rfl, by decide +kernel⟩⟩

theorem witness_OperationsComplete :
    (∃ f : SkovFrame, ∃ h : Hdr, ∃ s u : State, ∃ o, Skovved f s ∧ h = hdrOf f ∧ u = s.skovTook f ∧ o = opRecOf f.payload ∧ some
      h.src = s.managerId ∧ s.cl.joined = true ∧ s.strapRole = 1 ∧ h.sub = 0 ∧ (o.scope = 0x041 ∨ o.scope = s.myId / 64) ∧ s.op?
      o.initiator o.opId = none ∧ h.type = opType o.kind ∧ o.kind = 1)
    ∧ (∃ f : SkovFrame, ∃ h : Hdr, ∃ s u : State, ∃ o slot v, Skovved f s ∧ h = hdrOf f ∧ u = s.skovTook f ∧ o = opRecOf
      f.payload ∧ v = ((u.onCl fun c => { c with ops := c.ops ++ [o] }).onTime fun t =>
      { t with evts := aset t.evts slot (opEvent o) }) ∧ some h.src = s.managerId ∧ s.cl.joined = true ∧ s.strapRole = 1 ∧ h.sub
      = 0 ∧ (o.scope = 0x041 ∨ o.scope = s.myId / 64) ∧ s.op? o.initiator o.opId = none ∧ h.type = opType o.kind ∧ u.now + 2 *
      usU ≤ o.tAct ∧ lowestFree (s.time.evts.map (·.1)) 1024 = some slot ∧ (o.kind = 2 ∨ o.kind = 5))
    ∧ (∃ f : SkovFrame, ∃ h : Hdr, ∃ s u : State, ∃ o slot v, Skovved f s ∧ h = hdrOf f ∧ u = s.skovTook f ∧ o = opRecOf
      f.payload ∧ v = ((u.onCl fun c => { c with ops := c.ops ++ [o] }).onTime fun t =>
      { t with evts := aset t.evts slot (opEvent o) }) ∧ some h.src = s.managerId ∧ s.cl.joined = true ∧ s.strapRole = 1 ∧ h.sub
      = 0 ∧ (o.scope = 0x041 ∨ o.scope = s.myId / 64) ∧ s.op? o.initiator o.opId = none ∧ h.type = opType o.kind ∧ u.now + 2 *
      usU ≤ o.tAct ∧ lowestFree (s.time.evts.map (·.1)) 1024 = some slot ∧ o.kind = 3)
    ∧ (∃ f : SkovFrame, ∃ h : Hdr, ∃ s u : State, ∃ o slot v, Skovved f s ∧ h = hdrOf f ∧ u = s.skovTook f ∧ o = opRecOf
      f.payload ∧ v = ((u.onCl fun c => { c with ops := c.ops ++ [o] }).onTime fun t =>
      { t with evts := aset t.evts slot (opEvent o) }) ∧ some h.src = s.managerId ∧ s.cl.joined = true ∧ s.strapRole = 1 ∧ h.sub
      = 0 ∧ (o.scope = 0x041 ∨ o.scope = s.myId / 64) ∧ s.op? o.initiator o.opId = none ∧ h.type = opType o.kind ∧ u.now + 2 *
      usU ≤ o.tAct ∧ lowestFree (s.time.evts.map (·.1)) 1024 = some slot ∧ o.kind = 4)
    ∧ (∃ f : SkovFrame, ∃ h : Hdr, ∃ s u : State, ∃ o, Skovved f s ∧ h = hdrOf f ∧ u = s.skovTook f ∧ u.ackFor (h.tag.toNat %
      65536) h.src = some o ∧ h.type = 6 ∧ h.sub = 0 ∧ s.isManager = true)
    ∧ (∃ f : SkovFrame, ∃ h : Hdr, ∃ s u : State, ∃ o r, Skovved f s ∧ h = hdrOf f ∧ u = s.skovTook f ∧ s.cl.ops.find? (fun o =>
      o.own && o.kind == 4 && decide (o.stage < 3) && o.opId == h.tag.toNat % 65536) = some o ∧ h.type = 8 ∧ h.sub = 1 ∧
      s.isManager = true ∧ some h.src ≠ s.managerId ∧ recordsOf f.payload = [r])
    ∧ (∃ s : State, ∃ o : OpRec, s.isManager = true ∧ minBy s.opDue (s.cl.ops.filter fun o => decide (o.stage < 3)) = some o) :=
  ⟨⟨skov 7 0x40 1 0x80 3 [0x1000003, 0x00010040, 5000], _, worker, _, _, skovved (by decide +kernel), rfl, rfl, rfl, by decide +kernel⟩,
   ⟨skov 7 0x40 1 0x80 3 [0x2000003, 0x00010040, 5000], _, worker, _, _, 0, _, skovved (by decide +kernel), rfl, rfl, rfl, rfl,
     by decide +kernel⟩,
   ⟨skov 5 0x40 1 0x80 3 [0x3000003, 0x00010040, 5000], _, worker, _, _, 0, _, skovved (by decide +kernel), rfl, rfl, rfl, rfl,
     by decide +kernel⟩,
   ⟨skov 8 0x40 1 0x80 3 [0x4000003, 0x00010040, 5000], _, worker, _, _, 0, _, skovved (by decide +kernel), rfl, rfl, rfl, rfl,
     by decide +kernel⟩,
   ⟨skov 6 0x41 0x40 0 0xFFFF [1, 2], _, (bossOf 2).onCl fun c => { c with ops := [{ anOp with expected := [0x41] }] }, _, _,
     skovved (by decide +kernel), rfl, rfl, got (by decide +kernel), by decide +kernel⟩,
   ⟨skov 8 0x41 0x40 1 0xFFFF (List.replicate 16 3), _, (bossOf 2).onCl fun c => { c with ops := [{ anOp with kind := 4 }] }, _,
     _, List.replicate 16 3, skovved (by decide +kernel), rfl, rfl, got (by decide +kernel), by decide +kernel⟩,
   ⟨boss.onCl fun c => { c with ops := [anOp] }, anOp, by decide +kernel⟩⟩

theorem witness_ClusterTimesComplete :
    (∃ s : State, ∃ m, s.managerId = some m ∧ s.cl.on = true ∧ s.cl.joined = false ∧ s.cl.refused = false)
    ∧ (∃ s : State, s.cl.on = true ∧ ((s.strapRole = 1 ∧ s.cl.joined = true) ∨ s.strapRole = 2 ∨ s.strapRole = 3))
    ∧ (∃ s : State, ∃ i since : Nat, minBy (·.2) s.admitted = some (i, since))
    ∧ (∃ s : State, ∃ m, s.managerId = some m ∧ s.cl.joined = true)
    ∧ (∃ s : State, ∃ x : Sender, minBy (·.heard) (s.cl.senders.filter fun x => !x.seqs.isEmpty) = some x) :=
  ⟨⟨{ worker with cl := { worker.cl with joined := false } }, 0x40, by decide +kernel⟩,
   ⟨worker, by decide +kernel⟩,
   ⟨bossOf 2, 0x41, 0, by decide +kernel⟩,
   ⟨worker, 0x40, by decide +kernel⟩,
   ⟨worker.onCl fun c => { c with senders := [⟨0x40, false, none, [(0x41, 3)], 5⟩] }, ⟨0x40, false, none, [(0x41, 3)], 5⟩,
     by decide +kernel⟩⟩

theorem witness_FaultsComplete :
    (∃ s : State, ∃ r conf sev e u, s.nextReport = some r ∧ u = (s.toClk (r.clk + 17)).applyDue ∧ conf = u.confSev r.cls r.code
      ∧ sev = (if conf ≠ 0 ∧ (∃ x ∈ u.flt.unack, x.cls = r.cls) then min 4 (conf + 1) else conf) ∧ e = (⟨r.cls, r.code, r.data,
      r.chan, r.t, sev, conf, r.injected, u.flt.logCount.toNat, u.clk⟩ : LogEnt) ∧ r.cls < 32)
    ∧ (∃ s : State, ∃ k, s.flt.pulseEnd = some k ∧ (s.toClk k).faultNow = false)
    ∧ (∃ s : State, ∃ k, s.flt.pulseEnd = some k ∧ (s.toClk k).faultNow = true)
    ∧ (∃ d, d ≤ 7)
    ∧ (∃ s : State, ∃ n d code, ∃ i : Instr, d ≤ 7 ∧ ((code = 0x01 ∧ i = .memoryEdcError n d false true) ∨ (code = 0x04 ∧ i =
      .memoryEccError n d true)) ∧ alookup s.flt.memSeen (code * 8 + d) ≠ some (s.pass n).second)
    ∧ (∃ s : State, ∃ n d code, ∃ i : Instr, d ≤ 7 ∧ ((code = 0x01 ∧ i = .memoryEdcError n d false true) ∨ (code = 0x04 ∧ i =
      .memoryEccError n d true)) ∧ alookup s.flt.memSeen (code * 8 + d) = some (s.pass n).second) :=
  ⟨⟨up.raise 0x12 0x05, _, _, _, _, _, got (by decide +kernel), rfl, rfl, rfl, rfl, by decide +kernel⟩,
   ⟨up.onFlt fun x => { x with pulseEnd := some 9, errN := true }, 9, by decide +kernel⟩,
   ⟨(up.raise 0x12 0x05).onFlt fun x => { x with pulseEnd := some 17, errN := true }, 17, by decide +kernel⟩,
   ⟨7, by decide +kernel⟩,
   ⟨up, 0, 7, 0x04, .memoryEccError 0 7 true, by decide +kernel⟩,
   ⟨up.onFlt fun x => { x with memSeen := [(0x01 * 8 + 7, (up.pass 0).second)] }, 0, 7, 0x01, .memoryEdcError 0 7 false true,
     by decide +kernel⟩⟩

theorem witness_PowerComplete :
    (∃ s : State, ∃ k, k = s.pw.tryS.getD s.pw.active ∧ s.pw.on = false)
    ∧ (∃ s : State, ∃ n x, s.pw.step = some x ∧ x.boot = false ∧ s.clk + n ≤ x.limit s.pw.st ∧ s.pw.st = 2 ∧ x.next = 3 ∧
      s.pw.runs < s.pw.slots.length)
    ∧ (∃ s : State, ∃ n image x, s.pw.step = some x ∧ x.boot = false ∧ s.clk + n ≤ x.limit s.pw.st ∧ (s.pw.st = 2 → x.next = 3 →
      image = true))
    ∧ (∃ s : State, ∃ x, s.pw.step = some x ∧ x.boot = false ∧ s.pw.st ≤ x.next)
    ∧ (∃ s : State, ∃ x, s.pw.step = some x ∧ x.boot = false ∧ x.next < s.pw.st ∧ x.late = false)
    ∧ (∃ s : State, ∃ x, s.pw.step = some x ∧ x.boot = true)
    ∧ (∃ s : State, ∃ k, s.pw.restart = some k) :=
  ⟨⟨up.onPw fun p => { p with on := false }, _, rfl, by decide +kernel⟩,
   ⟨up.onPw fun p =>
     { p with st := 2, step := some ⟨3, 3, true, false, 0, 0, 0, false⟩, slots := [⟨2, 0, 0, []⟩, ⟨2, 0, 0, []⟩] }, 0, ⟨3, 3,
     true, false, 0, 0, 0, false⟩, by decide +kernel⟩,
   ⟨up.onPw fun p => { p with step := some ⟨1, 3, true, false, 0, 0, 0, false⟩ }, 0, true, ⟨1, 3, true, false, 0, 0, 0, false⟩,
     by decide +kernel⟩,
   ⟨up.onPw fun p => { p with st := 3, step := some ⟨4, 4, true, false, 0, 0, 0, false⟩ }, ⟨4, 4, true, false, 0, 0, 0, false⟩,
     by decide +kernel⟩,
   ⟨up.onPw fun p => { p with step := some ⟨1, 3, true, false, 0, 0, 0, false⟩ }, ⟨1, 3, true, false, 0, 0, 0, false⟩,
     by decide +kernel⟩,
   ⟨State.reset, ⟨2, 1, false, true, 0, 0, 0, false⟩, by decide +kernel⟩,
   ⟨up.onPw fun p => { p with restart := some 4 }, 4, by decide +kernel⟩⟩

theorem witness_HealthAndImagesComplete :
    (∃ s : State, ∃ nals h e, e = s.pw.te ∧ h = (decimated e.dec (s.inp 0)).2 ∧ e.on = true ∧ 2 ≤ s.pw.st ∧ e.coding = true ∧ 32
      * (e.row + 1) < h ∧ (s.inp 0).lineEnded (trickleLine e.dec h e.row) = true ∧ 8 * sumNat nals ≤ e.left)
    ∧ (∃ s : State, ∃ a k, s.pw.fwOp = some (0x1001, a) ∧ s.pw.fwOpen = some k ∧ k < s.pw.slots.length)
    ∧ (∃ s : State, ∃ a k x good, tab s.pw.slots k = x ∧ good = true ∧ s.pw.fwOp = some (0x1003, a) ∧ s.pw.fwOpen = some k ∧ k <
      s.pw.slots.length ∧ x.word 0 = 0x47584657 ∧ s.pw.counter ≤ fld (x.word 2) 15 0)
    ∧ (∃ s : State, ∃ a k x good, tab s.pw.slots k = x ∧ good = true ∧ s.pw.fwOp = some (0x1003, a) ∧ s.pw.fwOpen = some k ∧ k <
      s.pw.slots.length ∧ x.word 0 = 0x47584657 ∧ fld (x.word 2) 15 0 < s.pw.counter)
    ∧ (∃ s : State, ∃ a k x good, tab s.pw.slots k = x ∧ s.pw.fwOp = some (0x1003, a) ∧ s.pw.fwOpen = some k ∧ k <
      s.pw.slots.length ∧ (good = false ∨ x.word 0 ≠ 0x47584657)) :=
  ⟨⟨(fed.onIn 0 fun x => { x with lines := 576, inFrame := true, high := 300 }).onPw fun p =>
    { p with te := { p.te with on := true, coding := true, left := 800, divisor := 1 } }, [100], _, _, rfl, rfl,
    by decide +kernel⟩,
   ⟨up.onPw fun p => { p with fwOp := some (0x1001, 3), fwOpen := some 1 }, 3, 1, by decide +kernel⟩,
   ⟨flashed 0, 3, 1, theImage, true, rfl, rfl, by decide +kernel⟩,
   ⟨flashed 3, 3, 1, theImage, true, rfl, rfl, by decide +kernel⟩,
   ⟨flashed 0, 3, 1, theImage, false, rfl, by decide +kernel⟩⟩

theorem witness_StepRunsTheFirstCommand :
    (∃ s : State, ∃ c : Instr, ∃ rest : List Instr, s.pending = c :: rest)
    ∧ (∃ s : State, s.pending = []) :=
  ⟨⟨{ up with pending := [.nop (sl []), .pcieLinkDown 3] }, .nop (sl []), [.pcieLinkDown 3], by decide +kernel⟩,
   ⟨up, by decide +kernel⟩⟩

theorem witness_StepsKeepTheMemories :
    (∃ s t : State, s.Inv ∧ step s = .next t) :=
  ⟨{ up with pending := [.nop (sl [])] }, _, ⟨rfl, rfl, rfl⟩, stepped up (by decide +kernel)⟩

theorem witness_StepsKeepTheRings :
    (∃ s t : State, s.Rings ∧ step s = .next t) :=
  ⟨{ up with pending := [.nop (sl [])] }, _, by unfold State.Rings; decide +kernel, stepped up (by decide +kernel)⟩

theorem witness_RingCountersTakeWhatIsInRange :
    (∃ s : State, ∃ v : Word, ∃ n : BitVec 16, n = BitVec.ofNat 16 v.toNat ∧ s.served = true ∧ (occupancy n s.host.cmdHead ≤ 64
      ∧ occupancy n s.host.cmdTail ≤ 64))
    ∧ (∃ s : State, ∃ v : Word, ∃ n : BitVec 16, n = BitVec.ofNat 16 v.toNat ∧ s.served = true ∧ ¬ (occupancy n s.host.cmdHead ≤
      64 ∧ occupancy n s.host.cmdTail ≤ 64))
    ∧ (∃ s : State, ∃ v : Word, ∃ n : BitVec 16, n = BitVec.ofNat 16 v.toNat ∧ s.Rings ∧ n = s.host.cmdTail ∧ s.served = true)
    ∧ (∃ s : State, ∃ v : Word, ∃ n : BitVec 16, n = BitVec.ofNat 16 v.toNat ∧ s.served = true ∧ occupancy n s.host.rspHead ≤
      occupancy s.host.rspTail s.host.rspHead)
    ∧ (∃ s : State, ∃ v : Word, ∃ n : BitVec 16, n = BitVec.ofNat 16 v.toNat ∧ s.served = true ∧ ¬ occupancy n s.host.rspHead ≤
      occupancy s.host.rspTail s.host.rspHead)
    ∧ (∃ s : State, ∃ v : Word, ∃ n : BitVec 16, n = BitVec.ofNat 16 v.toNat ∧ s.flush = s ∧ n = s.host.rspHead ∧ s.served =
      true)
    ∧ (∃ s : State, ∃ v : Word, ∃ n : BitVec 16, n = BitVec.ofNat 16 v.toNat ∧ s.served = true ∧ occupancy n s.host.evtHead ≤
      occupancy s.host.evtTail s.host.evtHead)
    ∧ (∃ s : State, ∃ v : Word, ∃ n : BitVec 16, n = BitVec.ofNat 16 v.toNat ∧ s.served = true ∧ ¬ occupancy n s.host.evtHead ≤
      occupancy s.host.evtTail s.host.evtHead)
    ∧ (∃ s : State, ∃ v : Word, ∃ n : BitVec 16, n = BitVec.ofNat 16 v.toNat ∧ s.drain = s ∧ n = s.host.evtHead ∧ s.served =
      true ∧ s.host.coPend = [] ∧ s.host.coDue = none) :=
  ⟨⟨up, 64, _, rfl, by decide +kernel⟩,
   ⟨up, 65, _, rfl, by decide +kernel⟩,
   ⟨up, 0, _, rfl, by unfold State.Rings; decide +kernel, rfl, by decide +kernel⟩,
   ⟨up.onHost fun h => { h with rspTail := 3 }, 3, _, rfl, by decide +kernel⟩,
   ⟨up.onHost fun h => { h with rspTail := 3 }, 4, _, rfl, by decide +kernel⟩,
   ⟨up, 0, _, rfl, rfl, rfl, by decide +kernel⟩,
   ⟨up.onHost fun h => { h with evtTail := 256 }, 256, _, rfl, by decide +kernel⟩,
   ⟨up, 1, _, rfl, by decide +kernel⟩,
   ⟨up, 0, _, rfl, rfl, rfl, by decide +kernel⟩⟩

theorem witness_BadSlotsAreRefused :
    (∃ c : Vx, ∃ s : State, ∃ op i, s.consumes = true ∧ s.host.waiting = [] ∧ (c.fence = true → s.quiet = true) ∧ s.pw.recovery
      = false ∧ (op, i) ∈ commandsOf c ∧ (14 < c.len ∨ c.rsv ≠ 0 ∨ (c.remote = false ∧ ∃ h, handlerOf op = some h ∧ c.len <
      h.minLen)))
    ∧ (∃ c : Vx, ∃ s : State, ∃ op i, s.consumes = true ∧ s.host.waiting = [] ∧ (c.fence = true → s.quiet = true) ∧
      s.pw.recovery = false ∧ (op, i) ∈ commandsOf c ∧ c.stage = true ∧ c.remote = false ∧ op ∉ [0x0110, 0x0130, 0x0200, 0x0210,
      0x0211, 0x0300, 0x0301, 0x0310, 0x0341, 0x034C, 0x0400, 0x0401, 0x0402, 0x0410, 0x0420, 0x0500, 0x0502, 0x0510, 0x0511,
      0x0520, 0x0600, 0x0608, 0x0710, 0x0800, 0x0810, 0x0900, 0x0A00, 0x0A01, 0x0A02, 0x0B00, 0x0B10, 0x0B20, 0x0B21, 0x0B30,
      0x0B40, 0x0C00, 0x0C01])
    ∧ (∃ c : Vx, ∃ s : State, ∃ op, s.consumes = true ∧ s.host.waiting = [] ∧ (c.fence = true → s.quiet = true) ∧ s.pw.recovery
      = false ∧ op ∉ (commandsOf c).map (·.1) ∧ op < 65536 ∧ c.remote = false ∧ c.len < 256 ∧ c.rsv < 32 ∧ c.pay.length = 14 ∧
      s.host.cmdHead ≠ s.host.cmdTail ∧ Mem.readWords s.mem.ring (slotAddr cmdBase 64 64 s.host.cmdHead) 16 = cmdWords ⟨op, c⟩)
      :=
  ⟨⟨{ sl [] with len := 15 }, up, 0x0000, .nop { sl [] with len := 15 }, by decide +kernel⟩,
   ⟨{ sl [3] with stage := true }, up, 0x0403, .chStart { sl [3] with stage := true }, by decide +kernel⟩,
   ⟨sl [],
     { up with host := { up.host with cmdTail := 1 }, mem := { up.mem with ring := Mem.writeWords up.mem.ring (slotAddr cmdBase 64 64 0) (cmdWords ⟨0xFF, sl []⟩) } },
     0x00FF, by decide +kernel⟩⟩

/-- Every arithmetic instruction has a state in which it is at its run's pc. -/
theorem witness_DipperArithmeticCompletes :
    ∀ op ∈ List.range 0x18 ++ (List.range 8).map (· + 0x20), ∃ s r w, At 7 op r w s := fun op h =>
  ⟨dipAt 7 (w32 (op * 67108864)), aRun, w32 (op * 67108864), atWord
    ((by decide +kernel : ∀ op ∈ List.range 0x18 ++ (List.range 8).map (· + 0x20),
      7 < (dipAt 7 (w32 (op * 67108864))).dip.dips.length
        ∧ (dipAt 7 (w32 (op * 67108864))).fetch 7 = some (aRun, w32 (op * 67108864))
        ∧ opOf (w32 (op * 67108864)) = op) op h)⟩

theorem witness_CommandSlotsSpellCommands :
    (∃ x : Cmd, x.op < 65536 ∧ x.vx.len < 256 ∧ x.vx.rsv < 32 ∧ x.vx.pay.length = 14)
    ∧ (∃ l : List Word, l.length = 16) :=
  ⟨⟨⟨65535, ⟨255, 31, true, true, true, 1, List.replicate 14 2⟩⟩, by decide⟩, ⟨List.replicate 16 3, rfl⟩⟩

theorem witness_ResponsesKeepTheirOrder :
    (∃ (s : State) (ws : List Word) (l : List (List Word)), s.mem.ring.wf = true ∧ s.host.answers = l.map Answer.done
      ∧ (∀ x ∈ l ++ [ws], x.length = 16) ∧ occupancy s.host.rspTail s.host.rspHead + l.length < 64)
    ∧ (∃ (s : State) (x : Answer) (l : List Answer), s.host.answers = x :: l ∧ ∀ ws, x ≠ .done ws)
    ∧ (∃ (s : State) (x : Answer) (l : List Answer), s.host.answers = x :: l
      ∧ 64 ≤ occupancy s.host.rspTail s.host.rspHead)
    ∧ (∃ (s : State) (code : Nat), s.mem.ring.wf = true ∧ s.host.passes code = true ∧ s.host.backlog = []
      ∧ occupancy s.host.evtTail s.host.evtHead < 256)
    ∧ (∃ s : State, s.host.waiting = [] ∧ s.time.opsDue = [] ∧ s.host.fwReady = false)
    ∧ (∃ s : State, s.host.waiting = [] ∧ s.time.opsDue = [] ∧ s.host.fenced = none
      ∧ 64 ≤ occupancy s.host.rspTail s.host.rspHead + s.host.answers.length) :=
  ⟨⟨up.onHost fun h => { h with answers := [.done (List.replicate 16 1)], rspTail := 62 }, List.replicate 16 2,
      [List.replicate 16 1], by decide +kernel⟩,
   ⟨up.onHost fun h => { h with answers := [.remote 3] }, .remote 3, [], rfl, by simp⟩,
   ⟨up.onHost fun h => { h with answers := [.done []], rspTail := 64 }, .done [], [], by decide +kernel⟩,
   ⟨up.onHost fun h => { h with evtTail := 255 }, 0x0401, by decide +kernel⟩,
   ⟨State.reset, by decide +kernel⟩,
   ⟨up.onHost fun h => { h with rspTail := 64 }, by decide +kernel⟩⟩

theorem witness_RefusedCommandsHaveNoEffect :
    ∃ c op i s t ws, (op, i) ∈ commandsOf c ∧ s.consumes = true ∧ s.host.waiting = [] ∧ (c.fence = true → s.quiet = true)
      ∧ c.remote = false ∧ s.host.answers = [] ∧ s.mem.ring.wf = true ∧ s.time.opsDue = [] ∧ exec i s = .next t
      ∧ t.host.rspTail = s.host.rspTail + 1
      ∧ Mem.readWords t.mem.ring (slotAddr rspBase 64 64 s.host.rspTail) 16 = ws ∧ 2 ≤ fld (ws.getD 1 0) 15 0 :=
  ⟨sl [3, 0], 0x0403, .chStart (sl [3, 0]), up, _, _, by decide +kernel, by decide +kernel, by decide +kernel,
    by decide +kernel, by decide +kernel, by decide +kernel, by decide +kernel, by decide +kernel,
    stepped up (by decide +kernel), by decide +kernel, rfl, by decide +kernel⟩

theorem allStep {s : State} {l : List Instr} (h : l.all (fun i => isNext (exec i s)) = true) : ∀ i ∈ l, ∃ t, exec i s = .next t :=
  fun i k => ⟨_, stepped s (List.all_eq_true.1 h i k)⟩

/-- One command of each clause ends in a next state. -/
theorem witness_RowsStayInTheirArea : ∀ i ∈ (
    [.gateEntryChange, .fhCtrlWrite 1, .dbRspHeadWrite 0, .ref10mGate 0 1, .phEdge 0 0 0, .wlAmBlock 0 0 0 0 0 0 0 0,
     .signatureCompare, .blitStart, .blitDeadline, .sounderLine 0 0 [], .soundingDeadline, .chStopBoundary, .dsCtrlClear 1,
     .serviceTimeout, .taskPull 0 1, .dipNop 7, .portUserFault 7, .programReload 0, .feedTimeout, .audioLeaderFrame 0 [],
     .audRateUpdate, .ptpSyncTx, .fecSecond, .portLinkUp 0 1, .pcieIdleEntry 0, .prbsSecond 29 0, .laneLock 0 29,
     .swapPropose, .swapAnswerTimeout, .pairingTimeout, .seqRecordExpire, .managerLost, .memberMissing,
     .healthSample 0 12000 9000 [] true, .powerStepTimeout] : List Instr), ∃ t, exec i up = .next t := allStep (by decide +kernel)

end Sys2Proof.Tests
end

section
/-!
SUPPORT. What interrupts, events and answers change of the host interface: its interrupt state and the Vehitrix side of its
rings, and nothing that the host writes.
-/
namespace Sys2Proof.Machine

/-! ### What is written of the host interface -/

/-- The host interface h with what k says of interrupts, of the event ring's tail and of the backlog with its losses. -/
def HostSt.signalled (h k : HostSt) : HostSt :=
  { h with
    irqStatus := k.irqStatus, irqSent := k.irqSent, irqFired := k.irqFired, pba := k.pba, coPend := k.coPend, coDue := k.coDue
    evtTail := k.evtTail, backlog := k.backlog, seq := k.seq, evtLost := k.evtLost, lostRun := k.lostRun
    lostRaised := k.lostRaised, dbStatus := k.dbStatus }

/-- The same, and what k says of the response ring's tail with the answers that wait and of the armed sets. -/
def HostSt.reported (h k : HostSt) : HostSt :=
  { h.signalled k with rspTail := k.rspTail, answers := k.answers, armed := k.armed, ended := k.ended }

/-- From s to t the host interface changes as interrupts and events change it. -/
structure Signalled (s t : State) : Prop where
  host : t.host = s.host.signalled t.host

/-- From s to t the host interface changes as interrupts, events, answers and failing sets change it. -/
structure Reported (s t : State) : Prop where
  host : t.host = s.host.reported t.host

theorem Signalled.refl (s : State) : Signalled s s := ⟨rfl⟩

theorem Signalled.trans {s t u : State} (h : Signalled s t) (k : Signalled t u) : Signalled s u :=
  ⟨by rw [k.host, h.host]; rfl⟩

theorem Signalled.after {r s t : State} (k : Signalled s t) (h : s.host = r.host.signalled s.host) : Signalled r t :=
  Signalled.trans ⟨h⟩ k

theorem Signalled.foldl {α : Type} {f : State → α → State} (h : ∀ s a, Signalled s (f s a)) (l : List α) (s : State) :
    Signalled s (l.foldl f s) :=
  l.foldlRecOn f (.refl s) fun t k a _ => k.trans (h t a)

theorem Signalled.reported {s t : State} (h : Signalled s t) : Reported s t := ⟨by rw [h.host]; rfl⟩

theorem Reported.trans {s t u : State} (h : Reported s t) (k : Reported t u) : Reported s u :=
  ⟨by rw [k.host, h.host]; rfl⟩

theorem Reported.after {r s t : State} (k : Reported s t) (h : s.host = r.host.reported s.host) : Reported r t :=
  Reported.trans ⟨h⟩ k

theorem Reported.foldl {α : Type} {f : State → α → State} (h : ∀ s a, Reported s (f s a)) (l : List α) (s : State) :
    Reported s (l.foldl f s) :=
  l.foldlRecOn f (Signalled.refl s).reported fun t k a _ => k.trans (h t a)

section
variable {s t : State} (k : Reported s t)
include k

theorem Reported.cmdTail : t.host.cmdTail = s.host.cmdTail := by rw [k.host]; rfl
theorem Reported.rspHead : t.host.rspHead = s.host.rspHead := by rw [k.host]; rfl
theorem Reported.evtHead : t.host.evtHead = s.host.evtHead := by rw [k.host]; rfl
theorem Reported.irqMask : t.host.irqMask = s.host.irqMask := by rw [k.host]; rfl

end

/-! ### Interrupts (R59 to R61) -/

theorem sendMsix_signalled (s : State) (v : Nat) : Signalled s (s.sendMsix v) := by
  unfold State.sendMsix
  split
  · split <;> exact ⟨rfl⟩
  · exact .refl s

@[simp] theorem State.sendMsix_irqStatus (s : State) (v : Nat) : (s.sendMsix v).host.irqStatus = s.host.irqStatus := by
  unfold State.sendMsix
  split
  · split <;> rfl
  · rfl

theorem evalIrq_signalled (s : State) : Signalled s s.evalIrq :=
  (Signalled.foldl sendMsix_signalled _ _).after rfl

/-- Sending the messages of IRQ_STATUS does not change it. -/
@[simp] theorem State.evalIrq_irqStatus (s : State) : s.evalIrq.host.irqStatus = s.host.irqStatus := by
  unfold State.evalIrq
  refine List.foldlRecOn (motive := fun t => t.host.irqStatus = s.host.irqStatus) _ State.sendMsix ?_ fun t k v _ => ?_
  · rfl
  · exact (t.sendMsix_irqStatus v).trans k

theorem setIrq_signalled (s : State) (v : Nat) : Signalled s (s.setIrq v) := (evalIrq_signalled _).after rfl

theorem coFlush_signalled (s : State) : Signalled s s.coFlush := (Signalled.foldl setIrq_signalled _ _).after rfl

theorem coAdd_signalled (s : State) (v : Nat) (c : BitVec 16) : Signalled s (s.coAdd v c) := by
  unfold State.coAdd
  split
  · exact setIrq_signalled s v
  · dsimp only
    split
    · exact (coFlush_signalled _).after rfl
    · exact ⟨rfl⟩

theorem dbSet_signalled (s : State) (i : Nat) : Signalled s (s.dbSet i) := (setIrq_signalled _ _).after rfl

/-! ### Events (R55 to R58) -/

theorem placeEvt_signalled (s : State) (e : Ev) : Signalled s (s.placeEvt e) := by
  unfold State.placeEvt
  dsimp only
  split
  · exact ⟨rfl⟩
  · exact (coAdd_signalled _ _ _).after rfl

theorem drainLoop_signalled : ∀ (l : List Ev) (s : State), Signalled s (s.drainLoop l)
  | [], _ => ⟨rfl⟩
  | e :: l, s => by
    unfold State.drainLoop
    split
    · exact (placeEvt_signalled s e).trans (drainLoop_signalled l _)
    · exact ⟨rfl⟩

theorem placeLost_signalled (s : State) : Signalled s s.placeLost := by
  unfold State.placeLost
  split
  · exact ⟨rfl⟩
  · exact .refl s

theorem drain_signalled (s : State) : Signalled s s.drain :=
  ((drainLoop_signalled _ s).trans (placeLost_signalled _)).trans (drainLoop_signalled _ _)

/-- With no event held and none lost, nothing drains. -/
theorem drain_nothing {s : State} (b : s.host.backlog = []) (l : s.host.lostRun = 0) : s.drain = s := by
  have loop : s.drainLoop [] = s := by rw [State.drainLoop, ← b]; rfl
  have lost : s.placeLost = s := by simp [State.placeLost, l]
  simp only [State.drain, b, loop, lost]

theorem pushEvt_signalled (s : State) (e : Ev) : Signalled s (s.pushEvt e) := by
  unfold State.pushEvt
  split
  · exact placeEvt_signalled s e
  · split
    · dsimp only
      split <;> exact ⟨rfl⟩
    · have k : Signalled s ((s.onHost fun h =>
          { h with evtLost := satAdd h.evtLost 1 0xFFFF, lostRun := h.lostRun + 1 }).dbSet 3) :=
        (dbSet_signalled _ 3).after rfl
      dsimp only
      split
      · exact k
      · exact k.trans ⟨rfl⟩

theorem eventAt_signalled (s : State) (t code chan vec : Nat) (data : List Nat) :
    Signalled s (s.eventAt t code chan vec data) := by
  unfold State.eventAt
  split
  · dsimp only
    split
    · exact ((setIrq_signalled _ vec).trans (pushEvt_signalled _ _)).after rfl
    · exact (pushEvt_signalled _ _).after rfl
  · exact .refl s

theorem event_signalled (s : State) (code chan vec : Nat) (data : List Nat) : Signalled s (s.event code chan vec data) :=
  eventAt_signalled s s.now code chan vec data

/-! ### Answers and failing sets (R54, R55, R76) -/

theorem placeRsp_reported (s : State) (ws : List Word) : Reported s (s.placeRsp ws) := by
  unfold State.placeRsp
  dsimp only
  split
  · exact (setIrq_signalled _ _).reported.after rfl
  · exact ⟨rfl⟩

theorem flushLoop_reported : ∀ (l : List Answer) (s : State), Reported s (s.flushLoop l)
  | [], _ => ⟨rfl⟩
  | .done ws :: l, s => by
    unfold State.flushLoop
    split
    · exact (placeRsp_reported s ws).trans (flushLoop_reported l _)
    · exact ⟨rfl⟩
  | .remote _ :: _, _ => ⟨rfl⟩
  | .inject _ :: _, _ => ⟨rfl⟩

theorem flush_reported (s : State) : Reported s s.flush := flushLoop_reported _ s

/-- With no answer that waits, none is placed. -/
theorem flush_nothing {s : State} (h : s.host.answers = []) : s.flush = s := by
  rw [State.flush, h, State.flushLoop, ← h]; rfl

theorem failSets_reported (s : State) (p : CommitSet → Bool) (reason : Nat) : Reported s (s.failSets p reason) := by
  refine Reported.foldl (fun t x => ?_) _ s
  exact (event_signalled _ _ _ _ _).reported.after rfl

/-! ### Resets and restarts (R49, R78) -/

/-- The host interface with what a reset of R78 sets to its reset value, but for interrupts and events. -/
def HostSt.cleared (h : HostSt) : HostSt :=
  { h with
    scratch0 := 0, aperture := 0, cmdTail := 0, cmdHead := 0, rspTail := 0, rspHead := 0, evtHead := 0, irqMask := 0xFFFFFFFF
    coHoldoff := 0, coCount := 0, filter := 0x1FFFF, openId := none, openCmds := [] }

theorem loseRing_signalled (s : State) : Signalled (s.onHost fun h => { h with evtTail := 0, evtHead := 0 }) s.loseRing := by
  unfold State.loseRing
  dsimp only
  split
  · exact drain_signalled _
  · exact ((placeLost_signalled _).trans (drain_signalled _)).after rfl

theorem resetHost_signalled (s : State) : Signalled (s.onHost HostSt.cleared) s.resetHost := by
  unfold State.resetHost
  dsimp only
  split
  · exact ((loseRing_signalled _).trans (setIrq_signalled _ 30)).after rfl
  · exact (loseRing_signalled _).after rfl

/-- What the host interface holds when a restart of the management processor begins: a cleared one in which sets have failed,
with the restart noted and all that ran dropped. -/
theorem restartMp_host (s : State) (cause : Nat) : ∃ u x ids, Reported (s.onHost HostSt.cleared) u ∧
    (s.restartMp cause).host = { u.host with
      fwReady := false, mpRestarts := min 15 (u.host.mpRestarts + 1), restart := x, report := ids, ended := [], running := []
      remotes := [], answers := [], fenced := none, waiting := [] } :=
  ⟨_, _, _, (resetHost_signalled s).reported.trans (failSets_reported _ (!·.loaded) 2), rfl⟩

/-! ### Set bits -/

theorem getLsbD_w32 (n j : Nat) : (w32 n).getLsbD j = (decide (j < 32) && nbit n j) := by
  rw [w32, BitVec.getLsbD_ofNat, Nat.testBit_eq_decide_div_mod_eq, nbit]
  rfl

/-- A word with a bit set; a bit beyond the word changes nothing. -/
theorem w32_setBit (n i : Nat) : w32 (setBit n i) = w32 n ||| BitVec.twoPow 32 i := by
  unfold setBit
  split
  · next hset =>
    refine BitVec.eq_of_getLsbD_eq fun j hj => ?_
    rw [BitVec.getLsbD_or, BitVec.getLsbD_twoPow]
    by_cases e : i = j
    · subst e; simp [getLsbD_w32, hset]
    · simp [e]
  · next hclear =>
    have apart : w32 n &&& BitVec.twoPow 32 i = 0#32 := by simp [BitVec.and_twoPow, getLsbD_w32, hclear]
    rw [← BitVec.add_eq_or_of_and_eq_zero _ _ apart]
    apply BitVec.eq_of_toNat_eq
    simp [w32, BitVec.toNat_twoPow]

/-- The bits that a word has after bits were set one after the other. -/
theorem getLsbD_w32_foldl_setBit {j : Nat} (hj : j < 32) : ∀ (l : List Nat) (n : Nat),
    (w32 (l.foldl setBit n)).getLsbD j = ((w32 n).getLsbD j || l.contains j)
  | [], n => by simp
  | i :: l, n => by
    rw [List.foldl_cons, getLsbD_w32_foldl_setBit hj l, w32_setBit, BitVec.getLsbD_or, BitVec.getLsbD_twoPow, Bool.or_assoc]
    by_cases e : i = j
    · subst e; simp [hj]
    · simp [e, Ne.symm e]

/-- The word with exactly the named bits set. -/
theorem getLsbD_w32_maskOf {j : Nat} (hj : j < 32) (l : List Nat) : (w32 (maskOf l)).getLsbD j = l.contains j := by
  rw [maskOf, getLsbD_w32_foldl_setBit hj]; simp [w32]

end Sys2Proof.Machine
end

section
/-!
PROOFS. Host writes to BAR0.
-/
namespace Sys2Proof.Machine

/-! ### A write while BAR0 is served (R41, R44, R45) -/

section Served
variable {s : State} (hs : s.served = true)
include hs

theorem hostWrite_served (t : State) : hostWrite s t = .next t := by simp [hostWrite, hs]

theorem exec_dbCmdTailWrite (v : Word) : exec (.dbCmdTailWrite v) s = .next (s.cmdTailWrite v) := hostWrite_served hs _

theorem exec_dbRspHeadWrite (v : Word) : exec (.dbRspHeadWrite v) s = .next (s.rspHeadWrite v) := hostWrite_served hs _

theorem exec_dbEvtHeadWrite (v : Word) : exec (.dbEvtHeadWrite v) s = .next (s.evtHeadWrite v) := hostWrite_served hs _

theorem exec_irqStatusWrite (v : Word) : exec (.irqStatusWrite v) s = .next (s.irqStatusWrite v) := hostWrite_served hs _

theorem exec_glbApertureWrite (v : Word) :
    exec (.glbApertureWrite v) s = .next (s.onHost fun h => { h with aperture := BitVec.ofNat 14 v.toNat }) :=
  hostWrite_served hs _

theorem exec_glbMpResetWrite (v : Word) : exec (.glbMpResetWrite v) s = .next (s.mpResetWrite v) := hostWrite_served hs _

theorem exec_registerWrite_register {off : Nat} (v : Nat) (low : off < cmdBase) (al : off % 4 = 0) :
    exec (.registerWrite off 4 v) s = .next (s.regWrite off (w32 v)) := by
  show execRegisterWrite off 4 v s = _
  simp [execRegisterWrite, hs, al, Nat.not_le.mpr low]

theorem exec_registerWrite_slot {off size : Nat} (v : Nat) (lo : cmdBase ≤ off) (hi : off < rspBase) (hz : size = 4 ∨ size = 8)
    (al : off % size = 0) :
    exec (.registerWrite off size v) s =
      .next (s.onMem fun m => { m with ring := Mem.writeAll m.ring off (leBytes size v) }) := by
  have h1 : max 1 size = size := by omega
  show execRegisterWrite off size v s = _
  simp [execRegisterWrite, hs, h1, al, lo, hi, hz]

end Served

/-! ### What each write does -/

theorem leBytes_getD {n i : Nat} (h : i < n) (v : Nat) : (leBytes n v).getD i 0 = BitVec.ofNat 8 (v / 256 ^ i) := by
  simp [leBytes, List.getD, h]

/-- The bytes of a number in memory, least significant first; every other address reads as before. -/
theorem Mem.read_writeAll_leBytes {m : Mem} (h : m.wf = true) (off size v a : Nat) :
    Mem.read (Mem.writeAll m off (leBytes size v)) a =
      if off ≤ a ∧ a < off + size then BitVec.ofNat 8 (v / 256 ^ (a - off)) else Mem.read m a := by
  split
  · next ha =>
    obtain ⟨i, rfl⟩ := Nat.exists_eq_add_of_le ha.1
    have hi : i < size := by omega
    rw [Mem.read_writeAll h (by rwa [leBytes_length]), leBytes_getD hi, Nat.add_sub_cancel_left]
  · exact Mem.read_writeAll_other h (by rw [leBytes_length]; omega)

theorem cmdTailWrite_inRange {s : State} {v : Word} (h1 : occupancy (ctr v) s.host.cmdHead ≤ 64)
    (h2 : occupancy (ctr v) s.host.cmdTail ≤ 64) : s.cmdTailWrite v = s.onHost fun h => { h with cmdTail := ctr v } := by
  simp [State.cmdTailWrite, h1, h2]

theorem cmdTailWrite_outOfRange {s : State} {v : Word} (h : 64 < occupancy (ctr v) s.host.cmdHead) :
    s.cmdTailWrite v = s.outOfRange 0 := by
  simp [State.cmdTailWrite, Nat.not_le.mpr h]

theorem rspHeadWrite_inRange {s : State} {v : Word}
    (h : occupancy (ctr v) s.host.rspHead ≤ occupancy s.host.rspTail s.host.rspHead) :
    s.rspHeadWrite v = (s.onHost fun h => { h with rspHead := ctr v }).flush := if_pos h

theorem evtHeadWrite_inRange {s : State} {v : Word}
    (h : occupancy (ctr v) s.host.evtHead ≤ occupancy s.host.evtTail s.host.evtHead) :
    s.evtHeadWrite v = (s.onHost fun h => HostSt.stillPending { h with evtHead := ctr v }).drain := if_pos h

/-- With no coalesced event pending, none stops being pending. -/
theorem stillPending_nothing {h : HostSt} (p : h.coPend = []) (d : h.coDue = none) : h.stillPending = h := by
  have emptied : { h with coPend := [], coDue := none } = h := by rw [← p, ← d]
  rw [HostSt.stillPending, p]
  exact emptied

/-- With nothing held, lost or pending, a write to DB_EVT_HEAD sets it and no more. -/
theorem evtHeadWrite_nothing {s : State} {v : Word}
    (h : occupancy (ctr v) s.host.evtHead ≤ occupancy s.host.evtTail s.host.evtHead) (b : s.host.backlog = [])
    (l : s.host.lostRun = 0) (p : s.host.coPend = []) (d : s.host.coDue = none) :
    s.evtHeadWrite v = s.onHost fun h => { h with evtHead := ctr v } := by
  have still : (s.onHost fun h => HostSt.stillPending { h with evtHead := ctr v })
      = s.onHost fun h => { h with evtHead := ctr v } :=
    congrArg (fun h => { s with host := h }) (stillPending_nothing (h := { s.host with evtHead := ctr v }) p d)
  rw [evtHeadWrite_inRange h, still]
  exact drain_nothing b l

/-- The causes of this clock, which a write to IRQ_STATUS does not clear (R60). -/
def State.irqKept (s : State) : List Nat := (List.range 32).filter fun i => alookup s.host.irqFired i == some s.clk

theorem irqStatusWrite_irqStatus (s : State) (v : Word) :
    (s.irqStatusWrite v).host.irqStatus = s.host.irqStatus &&& ~~~(v &&& ~~~(w32 (maskOf s.irqKept))) :=
  State.evalIrq_irqStatus _

theorem irqStatusWrite_irqMask (s : State) (v : Word) : (s.irqStatusWrite v).host.irqMask = s.host.irqMask :=
  (evalIrq_signalled _).reported.irqMask

theorem irqKept_nothing {s : State} (h : s.host.irqFired = []) : s.irqKept = [] := by simp [State.irqKept, h, alookup]

theorem contains_irqKept {s : State} {i : Nat} (hi : i < 32) (h : alookup s.host.irqFired i = some s.clk) :
    s.irqKept.contains i = true := by
  simp [State.irqKept, hi, h]

theorem mpResetWrite_key {s : State} {v : Word} (h : v.toNat % 65536 = 0xC15E) : s.mpResetWrite v = s.restartMp 1 :=
  if_pos (by simpa [fld] using h)

theorem mpResetWrite_other {s : State} {v : Word} (h : v.toNat % 65536 ≠ 0xC15E) : s.mpResetWrite v = s :=
  if_neg (by simpa [fld] using h)

/-! ### The obligation -/

/-- Settles O16, register by register: each write is its own operation while BAR0 is served, and the answers, events and
messages that it sets going leave what the host writes as it is. -/
theorem hostWritesComplete : Obligations.HostWritesComplete := by
  unfold Obligations.HostWritesComplete
  intro s hs
  refine ⟨?cmdRing, ?scratch, ?cmdTail, ?rspHead, ?evtHead, ?irqStatus, exec_glbApertureWrite hs, ?mpReset⟩
  case cmdRing =>
    rintro off size v ⟨wf, -, -⟩ lo hi hz al
    exact ⟨_, exec_registerWrite_slot hs v lo hi hz al, Mem.read_writeAll_leBytes wf off size v⟩
  case scratch =>
    intro v
    have low : 0x1C < cmdBase := by decide
    refine ⟨?_, ?_, ?_, ?_⟩ <;> rw [exec_registerWrite_register hs v (by omega) rfl] <;> rfl
  case cmdTail =>
    intro v
    rw [exec_dbCmdTailWrite hs]
    exact ⟨fun h1 h2 => congrArg _ (cmdTailWrite_inRange h1 h2), fun h => congrArg _ (cmdTailWrite_outOfRange h)⟩
  case rspHead =>
    intro v h
    have fl := flush_reported (s.onHost fun h => { h with rspHead := ctr v })
    rw [exec_dbRspHeadWrite hs, rspHeadWrite_inRange h]
    exact ⟨_, rfl, fl.rspHead, fl.cmdTail, fun h0 => flush_nothing h0⟩
  case evtHead =>
    intro v h
    have dr := (drain_signalled (s.onHost fun h => HostSt.stillPending { h with evtHead := ctr v })).reported
    rw [exec_dbEvtHeadWrite hs]
    refine ⟨_, rfl, ?_, ?_, evtHeadWrite_nothing h⟩
    · rw [evtHeadWrite_inRange h]; exact dr.evtHead
    · rw [evtHeadWrite_inRange h]; exact dr.rspHead
  case irqStatus =>
    intro v
    refine ⟨_, exec_irqStatusWrite hs v, irqStatusWrite_irqMask s v, fun h0 => ?_, fun i hi fired => ?_⟩
    · have all : ~~~(w32 (maskOf [])) = BitVec.allOnes 32 := rfl
      rw [irqStatusWrite_irqStatus, irqKept_nothing h0, all, BitVec.and_allOnes]
    · have kept : (w32 (maskOf s.irqKept)).getLsbD i = true := by
        rw [getLsbD_w32_maskOf hi, contains_irqKept hi fired]
      simp [irqStatusWrite_irqStatus, kept, hi]
  case mpReset =>
    intro v
    rw [exec_glbMpResetWrite hs]
    refine ⟨fun other => congrArg _ (mpResetWrite_other other), fun key => ⟨_, rfl, ?_⟩⟩
    obtain ⟨u, _, _, hu, e⟩ := restartMp_host s 1
    rw [mpResetWrite_key key, e, hu.host]
    exact ⟨rfl, rfl, rfl, rfl, rfl, rfl, rfl⟩

end Sys2Proof.Machine
end

section
/-!
PROOFS. Resets of the host interface and restarts of the management processor.
-/
namespace Sys2Proof.Machine

/-! ### Causes of faults (R530) -/

theorem mem_causes_raiseOn (s : State) (cls code data chan : Nat) :
    (⟨cls, code, data, chan⟩ : Cause) ∈ (s.raiseOn cls code data chan).flt.causes := by
  simp only [State.raiseOn, State.causeOn, State.onFlt_flt]
  split
  · next present => exact List.contains_iff_mem.mp present
  · exact List.mem_append_right _ (List.mem_singleton.mpr rfl)

theorem not_mem_causes_causeOff (s : State) (cls code data chan : Nat) :
    (⟨cls, code, data, chan⟩ : Cause) ∉ (s.causeOff cls code data chan).flt.causes := by
  simp [State.causeOff]

/-! ### A reset of the host interface (R78, R556) -/

theorem loseRing_hostSide (s : State) : HostSide s s.loseRing := by
  unfold State.loseRing
  dsimp only
  split
  · exact (HostSide.onHost s _).trans (drain_hostSide _)
  · exact (((HostSide.onHost s _).trans (.onHost _ _)).trans (placeLost_hostSide _)).trans (drain_hostSide _)

theorem resetHost_hostSide (s : State) : HostSide s s.resetHost := by
  unfold State.resetHost
  dsimp only
  split
  · exact ((HostSide.onHost s _).trans (loseRing_hostSide _)).trans (setIrq_hostSide _ 30)
  · exact (HostSide.onHost s _).trans (loseRing_hostSide _)

section
variable (s : State)

@[simp] theorem State.resetHost_clk : s.resetHost.clk = s.clk := by rw [(resetHost_hostSide s).rest]
@[simp] theorem State.resetHost_cmdTail : s.resetHost.host.cmdTail = 0 := by rw [(resetHost_signalled s).host]; rfl
@[simp] theorem State.resetHost_openId : s.resetHost.host.openId = none := by rw [(resetHost_signalled s).host]; rfl
@[simp] theorem State.resetHost_armed : s.resetHost.host.armed = s.host.armed := by rw [(resetHost_signalled s).host]; rfl
@[simp] theorem State.resetHost_linkUp : s.resetHost.host.linkUp = s.host.linkUp := by rw [(resetHost_signalled s).host]; rfl
@[simp] theorem State.resetHost_perst : s.resetHost.host.perst = s.host.perst := by rw [(resetHost_signalled s).host]; rfl

end

section On
variable {s : State} (on : s.pw.on = true) (n : Nat)
include on

theorem exec_functionLevelReset : exec (.functionLevelReset n) s = .next (s.pass n).resetHost :=
  congrArg Host.Outcome.next (if_pos on)

theorem exec_pcieLinkDown :
    exec (.pcieLinkDown n) s =
      .next (((s.pass n).resetHost.onHost fun h => { h with linkUp := false }).raiseOn 0x17 0x05) :=
  congrArg Host.Outcome.next (if_pos on)

theorem exec_pcieLinkUp (free : s.host.perst = false) :
    exec (.pcieLinkUp n) s = .next (((s.pass n).onHost fun h => { h with linkUp := true }).causeOff 0x17 0x05) :=
  congrArg Host.Outcome.next (if_pos (by simp [on, free]))

theorem exec_perstAssert (up : s.booting = false) :
    exec (.perstAssert n) s = .next ((s.pass n).onHost fun h => { h with perst := true, linkUp := false }).resetHost := by
  have up' : (s.pass n).booting = false := up
  exact congrArg Host.Outcome.next (if_pos (by simp [on, up']))

end On

/-! ### Sets that fail (R76) -/

/-- One armed set fails: COMMIT_FAILED, and its ID becomes free. -/
def State.failSet (reason : Nat) (s : State) (x : CommitSet) : State :=
  (s.onHost fun h => { h with armed := h.armed.filter (·.id != x.id), ended := aset h.ended x.id ⟨5, x.due⟩ }).event
    0x0004 (if x.kind < 2 then x.chan else 0xFF) 1 [x.id, reason]

theorem failSets_eq_foldl (s : State) (p : CommitSet → Bool) (reason : Nat) :
    s.failSets p reason = (s.host.armed.filter p).foldl (State.failSet reason) s := rfl

theorem failSet_armed (reason : Nat) (s : State) (x : CommitSet) :
    (s.failSet reason x).host.armed = s.host.armed.filter (·.id != x.id) := by
  rw [State.failSet, (event_signalled _ _ _ _ _).host]; rfl

theorem mem_armed_foldl_failSet {reason : Nat} {y : CommitSet} : ∀ (l : List CommitSet) (s : State),
    y ∈ (l.foldl (State.failSet reason) s).host.armed ↔ y ∈ s.host.armed ∧ ∀ x ∈ l, x.id ≠ y.id
  | [], s => by simp
  | x :: l, s => by
    rw [List.foldl_cons, mem_armed_foldl_failSet l, failSet_armed, List.mem_filter, List.forall_mem_cons, and_assoc,
      bne_iff_ne, ne_comm]

/-- What stays armed: the sets that share their ID with none that fails. -/
theorem mem_armed_failSets {s : State} {p : CommitSet → Bool} {reason : Nat} {y : CommitSet} :
    y ∈ (s.failSets p reason).host.armed ↔ y ∈ s.host.armed ∧ ∀ x ∈ s.host.armed, p x = true → x.id ≠ y.id := by
  simp only [failSets_eq_foldl, mem_armed_foldl_failSet, List.mem_filter, and_imp]

/-! ### A restart of the management processor (R22, R49, R78) -/

/-- A restart keeps the armed sets whose ID belongs to loaded sets alone. -/
theorem mem_armed_restartMp {s : State} {cause : Nat} {y : CommitSet} :
    y ∈ (s.restartMp cause).host.armed ↔
      y ∈ s.host.armed ∧ ∀ x ∈ s.host.armed, x.id = y.id → x.loaded = true := by
  have failed : (s.restartMp cause).host.armed = (s.resetHost.failSets (!·.loaded) 2).host.armed := rfl
  have kept (x : CommitSet) : ((!x.loaded) = true → x.id ≠ y.id) ↔ (x.id = y.id → x.loaded = true) := by
    cases x.loaded
    · exact ⟨fun ne same => absurd same (ne rfl), fun no _ same => Bool.noConfusion (no same)⟩
    · exact ⟨fun _ _ => rfl, fun _ yes => Bool.noConfusion yes⟩
  simp only [failed, mem_armed_failSets, State.resetHost_armed, kept]

theorem loaded_of_mem_armed_restartMp {s : State} {cause : Nat} {y : CommitSet} (h : y ∈ (s.restartMp cause).host.armed) :
    y ∈ s.host.armed ∧ y.loaded = true := by
  obtain ⟨armed, loaded⟩ := mem_armed_restartMp.mp h
  exact ⟨armed, loaded y armed rfl⟩

theorem restartDone_signalled (s : State) (cause gone kept : Nat) :
    Signalled (s.onHost fun h => { h with fwReady := true, restart := none }) (s.restartDone cause gone kept) :=
  (event_signalled _ _ _ _ _).trans (event_signalled _ _ _ _ _)

theorem exec_mpWatchdog {s : State} (ready : s.host.fwReady = true) (n : Nat) :
    exec (.mpWatchdog n) s = .next ((s.pass n).restartMp 2) :=
  congrArg Host.Outcome.next (if_pos ready)

theorem exec_mpRestart_begins {s : State} (ready : s.host.fwReady = true) (idle : s.host.restart = none) (n : Nat) :
    exec (.mpRestart n) s = .next ((s.pass n).restartMp 3) := by
  show execMpRestart n s = _
  simp [execMpRestart, idle, ready]

theorem exec_mpRestart_ends {s : State} {cause gone kept : Nat} (runs : s.host.restart = some (cause, gone, kept)) (n : Nat) :
    exec (.mpRestart n) s = .next ((s.pass n).restartDone cause gone kept) := by
  show execMpRestart n s = _
  simp [execMpRestart, runs]

/-! ### The obligation -/

/-- Settles O21, row by row: a reset clears the interface and then reports the events that were lost, a restart does the same
and fails the sets that are not loaded, and what interrupts and events report afterwards leaves the cleared fields as they are. -/
theorem hostResetsAndRestartsComplete : Obligations.HostResetsAndRestartsComplete := by
  unfold Obligations.HostResetsAndRestartsComplete
  refine ⟨fun s n on => ⟨?reset, ?linkDown, ?linkUp, ?perst, rfl⟩, fun s n => ⟨fun ready => ⟨?watchdog, ?fault⟩, ?ends⟩⟩
  case reset =>
    refine ⟨_, exec_functionLevelReset on n, State.resetHost_clk _, ?_⟩
    rw [(resetHost_signalled (s.pass n)).host]
    exact ⟨rfl, rfl, rfl, rfl, rfl, rfl, rfl, rfl, rfl, rfl, rfl, rfl, rfl, rfl⟩
  case linkDown =>
    exact ⟨_, exec_pcieLinkDown on n, rfl, by simp, by simp, mem_causes_raiseOn _ _ _ _ _⟩
  case linkUp =>
    exact fun free => ⟨_, exec_pcieLinkUp on n free, rfl, not_mem_causes_causeOff _ _ _ _ _⟩
  case perst =>
    exact fun up => ⟨_, exec_perstAssert on n up, by simp⟩
  case watchdog =>
    obtain ⟨u, _, _, hu, e⟩ := restartMp_host (s.pass n) 2
    refine ⟨_, exec_mpWatchdog ready n, rfl, ?_, rfl, rfl, fun y => loaded_of_mem_armed_restartMp,
      fun y armed loaded => mem_armed_restartMp.mpr ⟨armed, loaded⟩, ?_⟩ <;> rw [e, hu.host] <;> rfl
  case fault =>
    obtain ⟨u, _, _, hu, e⟩ := restartMp_host (s.pass n) 3
    refine fun idle => ⟨_, exec_mpRestart_begins ready idle n, rfl, fun y => loaded_of_mem_armed_restartMp, ?_⟩
    rw [e, hu.host]; rfl
  case ends =>
    rintro ⟨cause, gone, kept⟩ runs
    refine ⟨_, exec_mpRestart_ends runs n, ?_⟩
    rw [(restartDone_signalled (s.pass n) cause gone kept).host]
    exact ⟨rfl, rfl, rfl, rfl⟩

end Sys2Proof.Machine
end

section
/-!
PROOFS. Block copies and the dead window.
-/
namespace Sys2Proof.Machine

variable {s : State}

/-! ### The descriptor that starts (R187) -/

theorem exec_blitStart_next {b : Blit} {rest : List Blit} (idle : s.blit.running = none) (oldest : s.blit.queue = b :: rest)
    (writable : s.bufWritable b.dstSurf b.dstBuf = true) :
    exec .blitStart s =
      .next (s.onBlit fun x => { x with queue := rest, running := some (b, s.clk), moved := (0, s.clk) }) := by
  show execBlitStart s = _
  simp [execBlitStart, idle, oldest, writable]

/-! ### The descriptor that ends (R179, R180, R187) -/

/-- A deadline that a clock does not pass is not missed. -/
theorem any_dl_lt_eq_false {b : Blit} {t : Nat} (inTime : ∀ d, b.dl = some d → t ≤ d) :
    (b.dl.any fun d => decide (d < t)) = false := by
  cases dl : b.dl with
  | none => rfl
  | some d => exact decide_eq_false (Nat.not_lt.mpr (inTime d dl))

/-- Up to its deadline the running descriptor ends where its rates have let it through, and else goes on (R183, R187). -/
theorem exec_blitComplete_inTime {n k : Nat} {b : Blit} (run : s.blit.running = some (b, k))
    (inTime : ∀ d, b.dl = some d → (s.pass n).now ≤ d) (bad : List Nat) :
    exec (.blitComplete n bad) s =
      if (s.pass n).blitDone then .next ((s.pass n).blitEnd bad) else .next (s.pass n) := by
  show execBlitComplete n bad s = _
  simp [execBlitComplete, run, any_dl_lt_eq_false inTime]

/-- What the end of the running descriptor does. A read error does not change the clock in which it ends. -/
theorem blitEnd_running {k : Nat} {b : Blit} {df : Surf} (run : s.blit.running = some (b, k))
    (dst : s.surf? b.dstSurf = some df) (bad : List Nat) :
    s.blitEnd bad =
      let u := s.onMem fun m => { m with gddr := b.run df ((s.surf? b.srcSurf).getD df) bad m.gddr }
      let t := (if b.hit df bad then u.raise 0x04 0x02 else u).onBlit fun x => { x with running := none, moved := (0, s.clk) }
      (if b.publish then t.blitPublish b.dstSurf b.dstBuf else t).complete 0x0348 b.key .ok
        [b01 (b.hit df bad) + 2 * b01 b.missed] := by
  simp only [State.blitEnd, run, dst]
  cases b.hit df bad <;> rfl

/-! ### The deadline (R187) -/

theorem blitLate_running {k : Nat} {b : Blit} (run : s.blit.running = some (b, k)) (first : b.missed = false) :
    s.blitLate = (s.raise 0x04 0x01).onBlit fun x => { x with running := some ({ b with missed := true }, k) } := by
  simp [State.blitLate, run, first]

theorem exec_blitDeadline_running {k r : Nat} {b : Blit} (run : s.blit.running = some (b, k)) (dl : b.dl = some r)
    (first : b.missed = false) : exec .blitDeadline s = .next (s.toTime r).blitLate := by
  show execBlitDeadline s = _
  simp [execBlitDeadline, run, dl, first]

/-! ### The dead window (R188, R189) -/

/-- At some time the window opens, and the rate changes with it. -/
theorem exec_deadWindowOpen_locked {c p : Nat} (named : s.blit.deadCh = some c) (ip : s.ipOf c = some p)
    (locked : (s.trk (5 + (s.ip p).input)).st = 2) (shut : s.blit.window = false)
    (blanking : (s.inp (s.ip p).input).lines < (s.trk (5 + (s.ip p).input)).e) :
    ∃ r, exec .deadWindowOpen s = .next ((s.toTime r).reRate fun b => { b with window := true, offSeen := false }) := by
  show ∃ r, execDeadWindowOpen s = _
  simp only [execDeadWindowOpen, named, ip]
  have goesOn : ¬ ((s.trk (5 + (s.ip p).input)).st != 2) = true := by simp [locked]
  have opens : ¬ (s.blit.window || decide ((s.trk (5 + (s.ip p).input)).e ≤ (s.inp (s.ip p).input).lines)) = true := by
    simp [shut, blanking]
  rw [if_neg goesOn, if_neg opens]
  exact ⟨_, rfl⟩

theorem exec_deadWindowOpen_unlocked {c p : Nat} (named : s.blit.deadCh = some c) (ip : s.ipOf c = some p)
    (off : (s.trk (5 + (s.ip p).input)).st ≠ 2) (first : s.blit.offSeen = false) :
    exec .deadWindowOpen s = .next ((s.raise 0x04 0x03).onBlit fun b => { b with offSeen := true }) := by
  show execDeadWindowOpen s = _
  simp [execDeadWindowOpen, named, ip, off, first]

/-- The window closes after some time, or at once where no input processor has its channel, and the rate changes with it. -/
theorem exec_deadWindowClose_open (opened : s.blit.window = true) :
    ∃ u, (u = s ∨ ∃ r, u = s.toTime r) ∧ exec .deadWindowClose s = .next (u.reRate fun b => { b with window := false }) := by
  refine ⟨_, ?_, if_neg (by simp [opened])⟩
  cases s.blit.deadCh with
  | none => exact .inl rfl
  | some c =>
    dsimp only
    cases s.ipOf c with
    | none => exact .inl rfl
    | some p => exact .inr ⟨_, rfl⟩

/-! ### The obligation -/

/-- Settles O27, row by row: a descriptor starts, ends once its rates let it and is marked at its deadline, each from the one that
runs; the window's two rows are a change of rate at some clock, which moves neither memory nor the encoder. -/
theorem blockCopiesComplete : Obligations.BlockCopiesComplete := by
  unfold Obligations.BlockCopiesComplete
  intro s n
  refine ⟨fun b rest => exec_blitStart_next, fun b k bad run inTime => ⟨fun going => ?goesOn, fun df sf done dst src => ?ends⟩,
    fun b k r run dl first => ?deadline, fun c p named ip locked shut blanking => ?opens,
    fun c p => exec_deadWindowOpen_unlocked, fun opened => ?closes⟩
  case goesOn => rw [exec_blitComplete_inTime run inTime, going]; rfl
  case ends =>
    subst src
    rw [exec_blitComplete_inTime run inTime, if_pos done, blitEnd_running (s := s.pass n) run dst]
    rfl
  case deadline => rw [exec_blitDeadline_running run dl first, blitLate_running (s := s.toTime r) run first]
  case opens =>
    obtain ⟨r, e⟩ := exec_deadWindowOpen_locked named ip locked shut blanking
    exact ⟨_, e, rfl, rfl, rfl, rfl, rfl⟩
  case closes =>
    obtain ⟨u, rfl | ⟨r, rfl⟩, e⟩ := exec_deadWindowClose_open opened <;> exact ⟨_, e, rfl, rfl, rfl, rfl⟩

end Sys2Proof.Machine
end
